-- ==== Sys2Proof/Word.lean ====
section
/-! DEFINITION. The word types of the Movrel 3612 model: bytes of the two links, the 32-bit
timebase (R5) and the 16-bit counters (00_scope.md, Conventions). Their arithmetic stands in
Machine/Basics.lean. -/

namespace Sys2Proof

/-- One byte of the Order Link or of the Valve Ring. -/
abbrev Byte := BitVec 8

/-- A timebase value: a 32-bit count of 25 ns units that wraps (R5). -/
abbrev Time := BitVec 32

/-- A 16-bit counter, saturating or wrapping as its rule says (00_scope.md, Conventions). -/
abbrev Count16 := BitVec 16

end Sys2Proof
end

