-- ==== Sys2Proof/Config.lean ====
section
/-! DEFINITION. The constants that the manual fixes for the part. The manual leaves no value
undefined after an operation, so there is no free value here (INVENTORY.md, What the manual leaves
open). -/

namespace Sys2Proof.Config

/-- One cycle of the commutation voltage in cd (R8). -/
abbrev cycleCd : Nat := 36000

/-- The angle between consecutive edges and between consecutive positions, in cd (R2, R15). -/
abbrev stepCd : Nat := 6000

/-- How far before natural commutation a valve is planned, in cd (R34). -/
abbrev planningLeadCd : Nat := 3000

/-- A NORMAL or TEST hold, and half of it a sixth of a cycle, in cd (R43, R74). -/
abbrev holdCd : Nat := 12000

/-- Captures kept in the capture history (R20). -/
abbrev historyLength : Nat := 12

/-- Accepted captures inside the lock window that give LOCKED (R22). -/
abbrev acquisitionTarget : Nat := 12

/-- Consecutive rejected captures in ACQUIRING that give UNLOCKED (R22). -/
abbrev rejectLimit : Nat := 6

/-- Live records one valve may have (R57). -/
abbrev recordsPerValve : Nat := 2

/-- Entry places of a CYCLE frame (R61, R81). -/
abbrev entryPlaces : Nat := 8

/-- Control item places of a CYCLE frame (R81, R82). -/
abbrev itemPlaces : Nat := 4

/-- The fail run and the overrun run stop here (R88). -/
abbrev runLimit : Nat := 8

/-- Consecutive identical IDENT slots that are compared (R107). -/
abbrev consistentTarget : Nat := 3

/-- Values of the measurement window (R128). -/
abbrev windowLength : Nat := 12

/-- Entries of a failed-level set (R134). -/
abbrev failedLevelLimit : Nat := 16

/-- REPLYs the output queue may hold (R166). -/
abbrev replyPlaces : Nat := 3

/-- Line time of one byte of the Order Link in tb (R165; 10_order_link.md, Receiving Frames). -/
abbrev byteTime : Nat := 8

/-- Largest payload of an Order Link frame (R159). -/
abbrev maxPayload : Nat := 240

/-- Records a SCHEDULE reply returns at most (R76). -/
abbrev schedulePage : Nat := 16

/-- Length in bytes of one return slot (Table 12-8). -/
abbrev slotBytes : Nat := 30

/-- tb in one microsecond (R162). -/
abbrev tbPerUs : Nat := 40

/-- tb in one millisecond (R147, R163). -/
abbrev tbPerMs : Nat := 40000

end Sys2Proof.Config
end

