-- ==== Sys2Proof/Syntax.lean ====
section
/-! DEFINITION. The commands of the part: one constructor of `Instr` per row of
spec/opcode_table.json, in the table's order. The table gives no operand and no bits, so the
operands are the model's: they are what the row's rules say the event or the frame carries.

Every command but `powerUp` carries `t`, the timebase value at which it is taken (log entry 1). -/

namespace Sys2Proof

/-- A valve: index 1..24 is `val + 1` (R1). -/
abbrev Valve := Fin 24

/-- A ring position: number 1..24 is `val + 1` (R79). -/
abbrev RingPos := Fin 24

/-- A group: G1 is 0, G2 is 1 (R1). -/
abbrev Group := Fin 2

/-- A bridge by its ordinal: B1Y 0, B1D 1, B2Y 2, B2D 3 (R1). -/
abbrev Bridge := Fin 4

/-- The three comparator lines (R15). -/
inductive Line where
  | a | b | c
  deriving DecidableEq, Repr

/-- The two inputs of the Ring Master (05_valve_ring.md, Topology). -/
inductive Port where
  | fIn | rIn
  deriving DecidableEq, Repr

/-- Why a frame of the Order Link was dropped (R159). -/
inductive DropCause where
  /-- the CRC of a complete frame does not check -/
  | crc
  /-- the length field is above 240 -/
  | length
  /-- a start-of-frame byte came before the frame was complete -/
  | interrupted
  deriving DecidableEq, Repr

/-- The commands: one constructor per row of the opcode table. -/
inductive Instr where
  /-- POWER_UP (R172): start from the RESET line. -/
  | powerUp
  /-- COMPARATOR_EDGE (R15): an edge on `line`, rising or falling. -/
  | comparatorEdge (t : Time) (line : Line) (rising : Bool)
  /-- CAPTURE_WATCH (R23): expiry of the capture watch. -/
  | captureWatch (t : Time)
  /-- CYCLE_MARKER (R28): the cycle marker is reached. -/
  | cycleMarker (t : Time)
  /-- PLANNING_INSTANT (R36): the planning instant of valve `v` is reached. -/
  | planningInstant (t : Time) (v : Valve)
  /-- RING_CYCLE_START (R80): the cycle timer starts a ring cycle. -/
  | ringCycleStart (t : Time)
  /-- RING_FRAME_RETURN (R86): the bytes of a frame (Table 12-7) arriving at an input. -/
  | ringFrameReturn (t : Time) (input : Port) (bytes : List Byte)
  /-- LATENESS_INSTANT (R65): the lateness instant of a record of valve `v`. -/
  | latenessInstant (t : Time) (v : Valve)
  /-- CONFIRM_INSTANT (R67): the confirm instant of a record of valve `v`. -/
  | confirmInstant (t : Time) (v : Valve)
  /-- HOLD_INSTANT (R72): the hold instant of a BYPASS record of valve `v`. -/
  | holdInstant (t : Time) (v : Valve)
  /-- RELEASE_TIMEOUT (R73): the release timeout of a BYPASS record of valve `v`. -/
  | releaseTimeout (t : Time) (v : Valve)
  /-- DEADLINE_INSTANT (R124): the deadline of valve `v`'s pending extinction. -/
  | deadlineInstant (t : Time) (v : Valve)
  /-- BYPASS_HOLD_TIMER (R148): expiry of the bypass hold timer of group `g`. -/
  | bypassHoldTimer (t : Time) (g : Group)
  /-- LINK_FRAME_DROPPED (R159): a frame dropped by the receiver. -/
  | linkFrameDropped (t : Time) (cause : DropCause)
  /-- UNKNOWN_FRAME (R160): a frame with a good CRC, of unknown type or of the wrong length. -/
  | unknownFrame (t : Time) (type seq : Byte) (payload : List Byte)
  /-- ORDER (R162): an ORDER frame with its payload, of the right length or not. -/
  | order (t : Time) (seq : Byte) (payload : List Byte)
  /-- ORDER_WATCHDOG (R163): expiry of the order watchdog. -/
  | orderWatchdog (t : Time)
  /-- HOLD_TIMER (R163): expiry of the hold timer. -/
  | holdTimer (t : Time)
  /-- TRANSMIT_END (R165): the end of a frame's sending. -/
  | transmitEnd (t : Time)
  /-- TABLE_WRITE (R175): table identifier, row number and the row's bytes (Table 12-5). -/
  | tableWrite (t : Time) (seq table row : Byte) (contents : List Byte)
  /-- TABLE_COMMIT (R177). -/
  | tableCommit (t : Time) (seq table : Byte)
  /-- TABLE_DISCARD (R176). -/
  | tableDiscard (t : Time) (seq table : Byte)
  /-- TABLE_ROW (R179): table, row, and ACTIVE 0 or SHADOW 1. -/
  | tableRow (t : Time) (seq table row selector : Byte)
  /-- VALVE_RECORD (R13, R179). -/
  | valveRecord (t : Time) (seq valve : Byte)
  /-- LEVEL_SET (R140). -/
  | levelSet (t : Time) (seq valve : Byte)
  /-- STATION_RECORD (R116). -/
  | stationRecord (t : Time) (seq position : Byte)
  /-- SCHEDULE (R76). -/
  | schedule (t : Time) (seq offset : Byte)
  /-- CAPTURE_HISTORY (R20). -/
  | captureHistory (t : Time) (seq : Byte)
  /-- COUNTERS (R179). -/
  | counters (t : Time) (seq : Byte)
  /-- RING_STATS (R101). -/
  | ringStats (t : Time) (seq : Byte)
  /-- CLEAR_FLAGS (R169): the mask of the flags to clear. -/
  | clearFlags (t : Time) (seq : Byte) (mask : BitVec 16)
  /-- CLEAR_COUNTERS (R180). -/
  | clearCounters (t : Time) (seq : Byte)
  /-- CLEAR_RING_STATS (R180). -/
  | clearRingStats (t : Time) (seq : Byte)
  /-- CLEAR_LEVEL_FAULTS (R138): a valve index, 0 for all. -/
  | clearLevelFaults (t : Time) (seq valve : Byte)
  /-- TEST_FIRE (R156). -/
  | testFire (t : Time) (seq valve : Byte)
  /-- RESET_TRIP (R155): G1 is 1, G2 is 2. -/
  | resetTrip (t : Time) (seq group : Byte)
  /-- RING_RESTART (R181). -/
  | ringRestart (t : Time) (seq : Byte)
  /-- WARM_RESTART (R181). -/
  | warmRestart (t : Time) (seq : Byte)
  deriving DecidableEq, Repr

/-- The timebase value at which a command is taken; none for power-up, which sets the timebase itself
(R5; log entry 1). -/
def Instr.time? : Instr → Option Time
  | .powerUp => none
  | .comparatorEdge t _ _ => some t
  | .captureWatch t => some t
  | .cycleMarker t => some t
  | .planningInstant t _ => some t
  | .ringCycleStart t => some t
  | .ringFrameReturn t _ _ => some t
  | .latenessInstant t _ => some t
  | .confirmInstant t _ => some t
  | .holdInstant t _ => some t
  | .releaseTimeout t _ => some t
  | .deadlineInstant t _ => some t
  | .bypassHoldTimer t _ => some t
  | .linkFrameDropped t _ => some t
  | .unknownFrame t _ _ _ => some t
  | .order t _ _ => some t
  | .orderWatchdog t => some t
  | .holdTimer t => some t
  | .transmitEnd t => some t
  | .tableWrite t _ _ _ _ => some t
  | .tableCommit t _ _ => some t
  | .tableDiscard t _ _ => some t
  | .tableRow t _ _ _ _ => some t
  | .valveRecord t _ _ => some t
  | .levelSet t _ _ => some t
  | .stationRecord t _ _ => some t
  | .schedule t _ _ => some t
  | .captureHistory t _ => some t
  | .counters t _ => some t
  | .ringStats t _ => some t
  | .clearFlags t _ _ => some t
  | .clearCounters t _ => some t
  | .clearRingStats t _ => some t
  | .clearLevelFaults t _ _ => some t
  | .testFire t _ _ => some t
  | .resetTrip t _ _ => some t
  | .ringRestart t _ => some t
  | .warmRestart t _ => some t

end Sys2Proof
end

