-- ==== Sys2Proof/Machine/Basics.lean ====
section
/-! DEFINITION. The arithmetic every chapter uses: modular comparison of times (R6), rounding (R9),
conversion between angle and time (R10), saturating counters, byte coding (R183) and the CRC. -/

namespace Sys2Proof.Machine

/-! ## Times (R5 to R7) -/

/-- `a` is before `b`: (b − a) mod 2^32 lies in 1..2147483647 (R6). -/
def before (a b : Time) : Bool :=
  let d := (b - a).toNat
  decide (1 ≤ d) && decide (d ≤ 2147483647)

/-- `a` is at or before `b`: `a` is not after `b` (R6). -/
def atOrBefore (a b : Time) : Bool := !before b a

/-- The signed difference `b − a` (R6). -/
def signedDiff (a b : Time) : Int := (b - a).toInt

/-- A time plus a signed duration in tb, modulo 2^32 (R5). -/
def addTb (t : Time) (d : Int) : Time := t + BitVec.ofInt 32 d

/-- The time `t` has passed at the present time `now`: `t` is at or before `now` (R6). -/
def passed (now t : Time) : Bool := atOrBefore t now

/-- An armed instant that has been reached: the event may be taken (R7). -/
def reached (now : Time) (i : Option Time) : Bool :=
  match i with
  | none => false
  | some t => passed now t

/-! ## Rounding and conversion (R9, R10) -/

/-- The quotient `n / d` rounded to the nearest integer, halves away from zero (R9). -/
def roundDiv (n : Int) (d : Nat) : Int :=
  if 0 ≤ n then (2 * n + d) / (2 * d) else -((2 * (-n) + d) / (2 * d))

/-- The quotient `n / d` rounded up toward +∞ (R9's exception, R39). -/
def ceilDiv (n : Int) (d : Nat) : Int := -((-n) / d)

/-- An angle in cd as a duration in tb with period `p` (R10). -/
def angleToTb (a : Int) (p : Nat) : Int := roundDiv (a * p) Config.cycleCd

/-- A signed duration in tb as an angle in cd with period `p` (R10). -/
def tbToAngle (d : Int) (p : Nat) : Int := roundDiv (d * Config.cycleCd) p

/-! ## Counters -/

/-- One more on a saturating counter (00_scope.md, Conventions). -/
def satInc (c : Count16) : Count16 := if c = 65535#16 then c else c + 1#16

/-! ## Fixed-size tables -/

/-- The table with entry `i` replaced by `x`. -/
def setAt {α : Type} {n : Nat} (v : Vector α n) (i : Fin n) (x : α) : Vector α n :=
  v.set i.val x i.isLt

/-- Every entry mapped. -/
def mapVec {α β : Type} {n : Nat} (f : α → β) (v : Vector α n) : Vector β n :=
  Vector.ofFn fun i => f v[i]

/-- A table with one value everywhere. -/
def fill {α : Type} (n : Nat) (x : α) : Vector α n := Vector.ofFn fun _ => x

/-- A set of the members `0 .. n−1`, one indication each. -/
abbrev BoolSet (n : Nat) := Vector Bool n

/-- The empty set. -/
def BoolSet.empty (n : Nat) : BoolSet n := fill n false

/-- How many members a set has. -/
def BoolSet.count {n : Nat} (v : BoolSet n) : Nat := (v.toList.filter id).length

/-- The set has a member. -/
def BoolSet.any {n : Nat} (v : BoolSet n) : Bool := v.toList.any id

/-- The set has every member. -/
def BoolSet.full {n : Nat} (v : BoolSet n) : Bool := v.toList.all id

/-! ## Bytes (R183) -/

/-- The low `w` bytes of a number, most significant byte first (R183). -/
def beBytes : (w : Nat) → Nat → List Byte
  | 0, _ => []
  | w + 1, n => beBytes w (n / 256) ++ [BitVec.ofNat 8 n]

/-- The number that bytes spell, most significant byte first (R183). -/
def beNat (bs : List Byte) : Nat := bs.foldl (fun n b => n * 256 + b.toNat) 0

/-- The signed number that two bytes spell (R183). -/
def beInt16 (bs : List Byte) : Int := (BitVec.ofNat 16 (beNat bs)).toInt

/-- An angle as 2 signed bytes, held at −32767..32767 (R183). -/
def angleBytes (a : Int) : List Byte :=
  beBytes 2 (BitVec.ofInt 16 (max (-32767) (min 32767 a))).toNat

/-- An angle that may be absent: −32768 when absent (R183). -/
def angleBytes? (a : Option Int) : List Byte :=
  match a with
  | none => beBytes 2 0x8000
  | some a => angleBytes a

/-- A number that may be absent: all ones when absent (R183). -/
def numBytes? (w : Nat) (n : Option Nat) : List Byte :=
  match n with
  | none => List.replicate w 0xFF#8
  | some n => beBytes w n

/-- The number a set is coded as: bit `i` stands for member `i` (R183). -/
def setCode {n : Nat} (v : BoolSet n) : Nat :=
  v.toList.foldr (fun b acc => 2 * acc + b.toNat) 0

/-- A two-valued field as one byte, `false` 0 and `true` 1. Tables 12-6 and 12-9 and the IDENT content give
these codes for selector, assigned, pending extinction state and capability. For an indication that is set or
clear (gamma-limiting, late, overflow, stuck, item pending) R183 gives no coding, and the model sends clear 0
and set 1 (log entry 39, DESIGN CHOICE). -/
def boolByte (b : Bool) : List Byte := beBytes 1 b.toNat

/-! ## The CRC (R183) -/

/-- One bit of the CRC register: shift left, and add the polynomial x^16 + x^12 + x^5 + 1 when a
one falls out (R183). -/
def crcShift (c : BitVec 16) : BitVec 16 :=
  if c.msb then (c <<< 1) ^^^ 0x1021#16 else c <<< 1

/-- One byte into the CRC register, most significant bit first (R183). -/
def crcByte (c : BitVec 16) (b : Byte) : BitVec 16 :=
  (List.range 8).foldl (fun c _ => crcShift c) (c ^^^ (b.zeroExtend 16 <<< 8))

/-- The CRC of a run of bytes: the register starts at all ones (R183). -/
def crc16 (bs : List Byte) : BitVec 16 := bs.foldl crcByte 0xFFFF#16

/-- The CRC as sent, high byte first (R183). -/
def crcBytes (bs : List Byte) : List Byte := beBytes 2 (crc16 bs).toNat

end Sys2Proof.Machine
end

