-- ==== Sys2Proof/Machine/Tables.lean ====
section
/-! DEFINITION. The five tables (R172 to R174): their rows, ranges, defaults, conditions at commit,
and the bytes of their rows (Table 12-5). -/

namespace Sys2Proof.Machine

/-! ## The rows -/

/-- Table identifiers (Table 12-5). -/
inductive TableId where
  | limits | overlap | converter | station | ring
  deriving DecidableEq, Repr

/-- The Limits Table (Table 11-1). Angles in cd. -/
structure LimitsTable where
  alphaMin : Int
  alphaMax : Int
  gammaMin : Int
  gammaLowRaise : Int
  deltaAlphaUp : Int
  cMax : Int
  cDecay : Int
  aCf : Int
  nCf : Nat
  cfTripCount : Nat
  orderWatchdog : Nat
  holdWindow : Nat
  acAssert : Nat
  acRelease : Nat
  bypassHold : Nat
  testEnable : Bool
  deriving DecidableEq, Repr

/-- The Overlap Table (Table 11-2): row b is voltage band b. -/
abbrev OverlapTable := Vector (Vector Int 17) 4

/-- Nominal frequency (R11). -/
inductive Nominal where
  | hz50 | hz60
  deriving DecidableEq, Repr

/-- Block mode of a group (R146), in the order of Table 11-3. -/
inductive BlockMode where
  | direct | viaBypass
  deriving DecidableEq, Repr

/-- Trip action of a group (R152), in the order of Table 11-3. -/
inductive TripAction where
  | block | bypass
  deriving DecidableEq, Repr

/-- The Converter Table (Table 11-3). -/
structure ConverterTable where
  nominal : Nominal
  kp : Nat
  ki : Nat
  captureWindow : Nat
  lockWindow : Nat
  holdoverLimit : Nat
  edgeHoldoff : Nat
  trim : Vector Int 4
  blockMode : Vector BlockMode 2
  tripAction : Vector TripAction 2
  deriving DecidableEq, Repr

/-- An assigned row of the Station Table (Table 11-5). -/
structure StationRow where
  valve : Valve
  identity : BitVec 32
  levels : Nat
  redundancy : Nat
  delayF : Nat
  delayR : Nat
  deriving DecidableEq, Repr

/-- The Ring Table (Table 11-4). -/
structure RingTable where
  ringInterval : Nat
  stationTimeout : Nat
  loopFailCount : Nat
  probeInterval : Nat
  dispatchHorizon : Nat
  ackMargin : Nat
  confirmTimeout : Nat
  enrolTimeout : Nat
  inhibitInterval : Nat
  timingTolerance : Nat
  extinctionAllowance : Nat
  deriving DecidableEq, Repr

/-! ## Defaults (R173) -/

def LimitsTable.defaults : LimitsTable where
  alphaMin := 500
  alphaMax := 16500
  gammaMin := 1700
  gammaLowRaise := 500
  deltaAlphaUp := 200
  cMax := 2000
  cDecay := 10
  aCf := 1000
  nCf := 24
  cfTripCount := 3
  orderWatchdog := 500
  holdWindow := 10
  acAssert := 700
  acRelease := 750
  bypassHold := 20
  testEnable := false

/-- Band 0: 600 + 250i; band 1: 500 + 200i; band 2: 400 + 150i; band 3: 300 + 120i (Table 11-2). -/
def OverlapTable.defaults : OverlapTable :=
  Vector.ofFn fun b => Vector.ofFn fun i =>
    match b with
    | 0 => 600 + 250 * (i.val : Int)
    | 1 => 500 + 200 * (i.val : Int)
    | 2 => 400 + 150 * (i.val : Int)
    | 3 => 300 + 120 * (i.val : Int)

def ConverterTable.defaults : ConverterTable where
  nominal := .hz50
  kp := 32
  ki := 16
  captureWindow := 1000
  lockWindow := 100
  holdoverLimit := 5
  edgeHoldoff := 500
  trim := fill 4 0
  blockMode := fill 2 .viaBypass
  tripAction := fill 2 .bypass

def RingTable.defaults : RingTable where
  ringInterval := 1600
  stationTimeout := 3
  loopFailCount := 2
  probeInterval := 256
  dispatchHorizon := 16000
  ackMargin := 2400
  confirmTimeout := 8000
  enrolTimeout := 12500
  inhibitInterval := 2500
  timingTolerance := 80
  extinctionAllowance := 4800

/-! ## Nominal period and its limits (R11) -/

/-- The nominal frequency in Hz, its code in a CT row (Table 12-5). -/
def Nominal.hertz : Nominal → Nat
  | .hz50 => 50
  | .hz60 => 60

/-- P_nom (R11). -/
def ConverterTable.periodNominal (ct : ConverterTable) : Nat :=
  match ct.nominal with
  | .hz50 => 800000
  | .hz60 => 666667

/-- P_min (R11). -/
def ConverterTable.periodMin (ct : ConverterTable) : Nat :=
  (roundDiv (ct.periodNominal * 88) 100).toNat

/-- P_max (R11). -/
def ConverterTable.periodMax (ct : ConverterTable) : Nat :=
  (roundDiv (ct.periodNominal * 112) 100).toNat

/-! ## Fields of a row as carried (Table 12-5) and their ranges (Tables 11-1 to 11-5) -/

/-- One carried field: its width in bytes, whether it is signed, and the values in range. -/
structure Field where
  width : Nat
  signed : Bool
  lo : Int
  hi : Int
  deriving DecidableEq, Repr

/-- An unsigned field of `w` bytes with range `lo..hi`. -/
def Field.plain (w : Nat) (lo hi : Int) : Field := ⟨w, false, lo, hi⟩

/-- Carried fields of an LT row, in the order of Table 11-1. -/
def limitsFields : List Field :=
  [.plain 2 300 4500, .plain 2 12000 17000, .plain 2 1000 3000, .plain 2 0 1500,
   .plain 2 10 2000, .plain 2 0 3000, .plain 2 0 200, .plain 2 0 3000, .plain 2 1 255,
   .plain 2 1 15, .plain 2 100 5000, .plain 2 0 20, .plain 2 300 1200, .plain 2 320 1300,
   .plain 2 1 100, .plain 1 0 1]

/-- Carried fields of an OT row. -/
def overlapFields : List Field := List.replicate 17 (.plain 2 0 6000)

/-- Carried fields of a CT row, in the order of Table 12-5. The frequency takes 50 or 60 only
(`fieldOk`). -/
def converterFields : List Field :=
  [.plain 1 50 60, .plain 1 1 128, .plain 2 1 256, .plain 2 200 3000, .plain 2 20 500,
   .plain 1 1 50, .plain 2 100 2000,
   ⟨2, true, -500, 500⟩, ⟨2, true, -500, 500⟩, ⟨2, true, -500, 500⟩, ⟨2, true, -500, 500⟩,
   .plain 1 0 1, .plain 1 0 1, .plain 1 0 1, .plain 1 0 1]

/-- Carried fields of an ST row. -/
def stationFields : List Field :=
  [.plain 1 1 24, .plain 4 0 4294967295, .plain 1 1 120, .plain 1 0 12,
   .plain 2 0 40000, .plain 2 0 40000]

/-- Carried fields of an RT row. -/
def ringFields : List Field :=
  [.plain 2 800 4000, .plain 1 1 15, .plain 1 1 8, .plain 2 16 4096, .plain 2 1600 40000,
   .plain 2 400 16000, .plain 2 1600 40000, .plain 2 1000 65535, .plain 2 16 65535,
   .plain 2 8 4000, .plain 2 400 20000]

/-- Carried fields of a row of a table. -/
def rowFields : TableId → List Field
  | .limits => limitsFields
  | .overlap => overlapFields
  | .converter => converterFields
  | .station => stationFields
  | .ring => ringFields

/-- Rows of a table (R172). -/
def rowCount : TableId → Nat
  | .limits => 1
  | .overlap => 4
  | .converter => 1
  | .station => 24
  | .ring => 1

/-- Bytes of a row of a table (Table 12-5). -/
def rowSize (id : TableId) : Nat := ((rowFields id).map Field.width).sum

/-- The table a byte names (Table 12-5), if any. -/
def tableOfCode (b : Byte) : Option TableId :=
  match b.toNat with
  | 1 => some .limits
  | 2 => some .overlap
  | 3 => some .converter
  | 4 => some .station
  | 5 => some .ring
  | _ => none

/-- The identifier of a table (Table 12-5). -/
def tableCode : TableId → Byte
  | .limits => 1#8
  | .overlap => 2#8
  | .converter => 3#8
  | .station => 4#8
  | .ring => 5#8

/-- The values of the carried fields of a row. -/
def parseFields : List Field → List Byte → List Int
  | [], _ => []
  | f :: fs, bs =>
    let raw := bs.take f.width
    let x : Int := if f.signed then beInt16 raw else beNat raw
    x :: parseFields fs (bs.drop f.width)

/-- The bytes of the carried fields of a row. -/
def fieldBytes : List Field → List Int → List Byte
  | f :: fs, x :: xs => beBytes f.width (x % 2 ^ (8 * f.width)).toNat ++ fieldBytes fs xs
  | _, _ => []

/-- A field value in range; a coded field holds a defined code (R175, R184). The nominal frequency
is field 1 of the CT row and takes 50 or 60. -/
def fieldOk (id : TableId) (index : Nat) (f : Field) (x : Int) : Bool :=
  decide (f.lo ≤ x) && decide (x ≤ f.hi) &&
    (!(id == .converter && index == 1) || x == 50 || x == 60)

/-- The number, from 1, of the first field outside its range (R175, R184). -/
def firstBadField (id : TableId) : Nat → List Field → List Int → Option Nat
  | k, f :: fs, x :: xs =>
    if fieldOk id k f x then firstBadField id (k + 1) fs xs else some k
  | _, _, _ => none

/-! ## Rows from field values and back -/

/-- Value `i` of a list of field values, counting from 0. -/
def fieldAt (xs : List Int) (i : Nat) : Int := xs.getD i 0

/-- Value `i` of a list of field values as a natural number. -/
def natAt (xs : List Int) (i : Nat) : Nat := (fieldAt xs i).toNat

def LimitsTable.ofFields (xs : List Int) : LimitsTable where
  alphaMin := fieldAt xs 0
  alphaMax := fieldAt xs 1
  gammaMin := fieldAt xs 2
  gammaLowRaise := fieldAt xs 3
  deltaAlphaUp := fieldAt xs 4
  cMax := fieldAt xs 5
  cDecay := fieldAt xs 6
  aCf := fieldAt xs 7
  nCf := natAt xs 8
  cfTripCount := natAt xs 9
  orderWatchdog := natAt xs 10
  holdWindow := natAt xs 11
  acAssert := natAt xs 12
  acRelease := natAt xs 13
  bypassHold := natAt xs 14
  testEnable := natAt xs 15 == 1

def LimitsTable.toFields (t : LimitsTable) : List Int :=
  [t.alphaMin, t.alphaMax, t.gammaMin, t.gammaLowRaise, t.deltaAlphaUp, t.cMax, t.cDecay, t.aCf,
   t.nCf, t.cfTripCount, t.orderWatchdog, t.holdWindow, t.acAssert, t.acRelease, t.bypassHold,
   t.testEnable.toNat]

def overlapRowOfFields (xs : List Int) : Vector Int 17 := Vector.ofFn fun i => fieldAt xs i.val

/-- The code of a block mode: DIRECT 0, VIA_BYPASS 1 (R183, Table 11-3). -/
def BlockMode.code : BlockMode → Nat
  | .direct => 0
  | .viaBypass => 1

/-- The code of a trip action: BLOCK 0, BYPASS 1 (R183, Table 11-3). -/
def TripAction.code : TripAction → Nat
  | .block => 0
  | .bypass => 1

def ConverterTable.ofFields (xs : List Int) : ConverterTable where
  nominal := if fieldAt xs 0 = 50 then .hz50 else .hz60
  kp := natAt xs 1
  ki := natAt xs 2
  captureWindow := natAt xs 3
  lockWindow := natAt xs 4
  holdoverLimit := natAt xs 5
  edgeHoldoff := natAt xs 6
  trim := Vector.ofFn fun b => fieldAt xs (7 + b.val)
  blockMode := Vector.ofFn fun g => if natAt xs (11 + g.val) = 0 then .direct else .viaBypass
  tripAction := Vector.ofFn fun g => if natAt xs (13 + g.val) = 0 then .block else .bypass

def ConverterTable.toFields (t : ConverterTable) : List Int :=
  ([t.nominal.hertz, t.kp, t.ki, t.captureWindow, t.lockWindow, t.holdoverLimit,
    t.edgeHoldoff] : List Int) ++
  t.trim.toList ++ t.blockMode.toList.map (fun m => (m.code : Int)) ++
  t.tripAction.toList.map (fun a => (a.code : Int))

/-- The valve a valve-index value names; in range whenever the field passed its check. -/
def valveOfField (x : Int) : Valve := Fin.ofNat 24 (x.toNat - 1)

def StationRow.ofFields (xs : List Int) : StationRow where
  valve := valveOfField (fieldAt xs 0)
  identity := BitVec.ofInt 32 (fieldAt xs 1)
  levels := natAt xs 2
  redundancy := natAt xs 3
  delayF := natAt xs 4
  delayR := natAt xs 5

def StationRow.toFields (r : StationRow) : List Int :=
  [r.valve.val + 1, r.identity.toNat, r.levels, r.redundancy, r.delayF, r.delayR]

def RingTable.ofFields (xs : List Int) : RingTable where
  ringInterval := natAt xs 0
  stationTimeout := natAt xs 1
  loopFailCount := natAt xs 2
  probeInterval := natAt xs 3
  dispatchHorizon := natAt xs 4
  ackMargin := natAt xs 5
  confirmTimeout := natAt xs 6
  enrolTimeout := natAt xs 7
  inhibitInterval := natAt xs 8
  timingTolerance := natAt xs 9
  extinctionAllowance := natAt xs 10

def RingTable.toFields (t : RingTable) : List Int :=
  [t.ringInterval, t.stationTimeout, t.loopFailCount, t.probeInterval, t.dispatchHorizon,
   t.ackMargin, t.confirmTimeout, t.enrolTimeout, t.inhibitInterval, t.timingTolerance,
   t.extinctionAllowance]

/-! ## Validation at commit (R173, R174) -/

/-- The cross-field condition of the LT: the release level is above the assert level. -/
def LimitsTable.valid (t : LimitsTable) : Bool := decide (t.acAssert < t.acRelease)

/-- The cross-field condition of the CT: the lock window is below the capture window. -/
def ConverterTable.valid (t : ConverterTable) : Bool := decide (t.lockWindow < t.captureWindow)

/-- The cross-field condition of the RT: the ack margin is below the dispatch horizon. -/
def RingTable.valid (t : RingTable) : Bool := decide (t.ackMargin < t.dispatchHorizon)

/-- The rows of an ST shadow; an unassigned row is `none` (R174). -/
abbrev StationShadow := Vector (Option StationRow) 24

/-- An active ST. -/
abbrev StationTable := Vector StationRow 24

/-- Row `p` of an ST shadow fails: it is unassigned, or a lower row names its valve (R174). -/
def stationRowFails (t : StationShadow) (p : RingPos) : Bool :=
  match t[p] with
  | none => true
  | some r =>
    (List.finRange 24).any fun q =>
      decide (q < p) && (match t[q] with
        | none => false
        | some r' => decide (r'.valve = r.valve))

/-- The first failing row of an ST shadow, in ascending order (R174, R177). -/
def firstFailingRow (t : StationShadow) : Option RingPos :=
  (List.finRange 24).find? (stationRowFails t)

/-- The ST that a shadow with every row assigned makes; `none` if a row is unassigned. -/
def stationTableOf (t : StationShadow) : Option StationTable :=
  match t[(0 : RingPos)] with
  | none => none
  | some r0 =>
    if (List.finRange 24).all fun p => t[p].isSome then
      some (Vector.ofFn fun p => (t[p]).getD r0)
    else none

end Sys2Proof.Machine
end

