-- ==== Sys2Proof/Machine/State.lean ====
section
/-! DEFINITION. The state of the part, block by block (Table 0-1), as plain data, and its value
after power-up. `none` in an instant field is a disarmed instant (R7). -/

namespace Sys2Proof.Machine

/-! ## How a step can stop -/

/-- Why the part stops with a fault. It has no constructor: the manual gives every command an
effect in every state, so no meaning raises a fault. -/
inductive Fault where
  deriving DecidableEq, Repr

/-- Why a command is refused by the model. -/
inductive Refusal where
  /-- Raised by `exec`'s arm of a command that has no meaning yet (safe: the run stops). Every
  command of the table has its meaning, so no arm raises it. -/
  | notModelled (mnemonic : String)
  deriving DecidableEq, Repr

/-! ## Phase Reference Unit (Table 2-1) -/

/-- Lock states, in the order of Table 2-1. -/
inductive LockState where
  | unlocked | acquiring | locked | holdover
  deriving DecidableEq, Repr

/-- Verdict of a capture, in the order of R20. -/
inductive Verdict where
  | accepted | rejected | initial
  deriving DecidableEq, Repr

/-- An entry of the capture history (R20). -/
structure Capture where
  edge : Nat
  time : Time
  error : Int
  verdict : Verdict
  deriving DecidableEq, Repr

structure Pru where
  /-- T0 -/
  origin : Time
  /-- P -/
  period : Nat
  lock : LockState
  acquisition : Nat
  rejectRun : Nat
  holdover : Nat
  lastEdge : Vector (Option Time) 3
  /-- oldest first -/
  history : List Capture
  marker : Option Time
  watch : Option Time
  glitch : Count16
  deriving DecidableEq, Repr

/-! ## Firing Angle Calculator (Table 3-1) -/

/-- An armed planning instant with its target cycle start T_c (R34). -/
structure Planning where
  time : Time
  target : Time
  deriving DecidableEq, Repr

structure Fac where
  plannings : Vector (Option Planning) 24
  alphaLast : Vector (Option Int) 2
  firstFiring : Vector Bool 2
  startPending : Vector Bool 4
  gammaLimiting : Vector Bool 2
  scheduleConflict : Count16
  revisionLate : Count16
  deriving DecidableEq, Repr

/-! ## Fire Schedule (Tables 4-1 to 4-4) -/

/-- The planning inputs a NORMAL record keeps for revision (R44). -/
structure PlanInputs where
  alphaOrd : Int
  current : Nat
  band : Fin 4
  overlap : Int
  alphaMin : Int
  alphaMax : Int
  deltaAlphaUp : Int
  gammaMinEff : Int
  rateReference : Option Int
  target : Time
  period : Nat
  deriving DecidableEq, Repr

/-- What only a NORMAL record holds (Table 4-2). -/
structure NormalPart where
  reversal : Time
  alphaEff : Int
  inputs : PlanInputs
  deriving DecidableEq, Repr

/-- The kind of a record, with what only that kind holds (Table 4-2, R56). -/
inductive RecordBody where
  | normal (n : NormalPart)
  | start
  | bypass
  | test
  deriving DecidableEq, Repr

/-- Live states of a record, in the order of Table 4-4. A record that reaches a terminal state is
removed in the same event (R68). -/
inductive RecordState where
  | planned | dispatched | armed | holding | cancelling | releasing
  deriving DecidableEq, Repr

/-- Terminal outcomes of a record (Table 4-4), with UNCONFIRMED where it applies. -/
inductive RecordOutcome where
  | fired | missed
  | cancelled (unconfirmed : Bool)
  | released (unconfirmed : Bool)
  deriving DecidableEq, Repr

/-- A live fire record (Table 4-2) with its armed instants (R58). -/
structure FireRecord where
  valve : Valve
  body : RecordBody
  due : Time
  /-- in tb; absent for BYPASS -/
  hold : Option Nat
  seq : Option Byte
  firstCancel : Option (BitVec 16)
  decision : Option (BitVec 32)
  state : RecordState
  late : Bool
  revised : Bool
  firedStamp : Option Time
  latenessAt : Option Time
  confirmAt : Option Time
  holdAt : Option Time
  releaseAt : Option Time
  deriving DecidableEq, Repr

/-- Last outcome of a valve, in the order of Table 1-5. -/
inductive LastOutcome where
  | none | fired | missed | cancelled | cancelledUnconfirmed | released | releasedUnconfirmed
  deriving DecidableEq, Repr

/-- Test outcome of a valve, in the order of Table 1-5. -/
inductive TestOutcome where
  | none | fired | missed
  deriving DecidableEq, Repr

/-- The Valve Record fields that the FSC owns (Table 1-5). -/
structure ValveFiring where
  lastDue : Option Time
  lastAlpha : Option Int
  lastOutcome : LastOutcome
  misses : Count16
  fireCount : Count16
  testOutcome : TestOutcome
  deriving DecidableEq, Repr

structure Fsc where
  /-- live records, in schedule order -/
  records : List FireRecord
  nextSeq : Vector Byte 24
  waiting : Vector Bool 24
  lastFired : Vector (Option Valve) 4
  decisionCount : BitVec 32
  valves : Vector ValveFiring 24
  fireLate : Count16
  fireMissed : Count16
  timingDeviation : Count16
  unconfirmed : Count16
  deriving DecidableEq, Repr

/-! ## Ring Master (Tables 5-1, 6-1, 6-2) -/

/-- Link statuses, in the order of Table 5-1. -/
inductive LinkStatus where
  | stopped | forward | reverse | loopbackBoth | loopbackF | loopbackR | down
  deriving DecidableEq, Repr

/-- Down causes, in the order of Table 5-1. -/
inductive DownCause where
  | none | loopLost | intervalTooShort
  deriving DecidableEq, Repr

/-- How cycles are sent: a direction or the loopback pattern (Tables 5-1, 5-2). -/
inductive Pattern where
  | forward | reverse | loopback
  deriving DecidableEq, Repr

/-- The two halves of the ring; also the two directions (R81, R87). -/
inductive Half where
  | f | r
  deriving DecidableEq, Repr

/-- The half marker of a CYCLE frame (R81, Table 12-7). -/
inductive Marker where
  | f | r | probe
  deriving DecidableEq, Repr

/-- Kinds of control item, in the order of Table 12-7. -/
inductive ItemKind where
  | enrollAck | levelResync | loopClear
  deriving DecidableEq, Repr

/-- A pending control item (R82); `received` marks a LEVEL_RESYNC that its station has received. -/
structure ControlItem where
  pos : RingPos
  kind : ItemKind
  received : Bool
  deriving DecidableEq, Repr

/-- Kinds of fire entry, in the order of Table 12-7. -/
inductive EntryKind where
  | fire | start | bypass | test | cancel | release
  deriving DecidableEq, Repr

/-- A fire entry as built (R83): station-local due time, hold in units of 16 tb, 0 when absent. -/
structure FireEntry where
  pos : RingPos
  kind : EntryKind
  seq : Byte
  localDue : Time
  hold : Nat
  deriving DecidableEq, Repr

/-- A CYCLE frame as sent (R81); its return slots are sent empty (R185). It leaves on F-out unless
marked R (Table 5-2). -/
structure CycleFrame where
  marker : Marker
  number : BitVec 16
  stamp : Time
  items : List (RingPos × ItemKind)
  entries : List FireEntry
  deriving DecidableEq, Repr

/-- The latest ring cycle: how it was sent and what has come back of it (R80, R86 to R88). -/
structure RingCycle where
  probe : Bool
  pattern : Pattern
  frames : List CycleFrame
  /-- a timely intact return marked F, or PROBE for a probe -/
  returnedF : Bool
  /-- a timely intact return marked R -/
  returnedR : Bool
  /-- an OVERRUN frame was taken during its interval -/
  overrun : Bool
  /-- time of its latest timely intact return -/
  lastReturn : Option Time
  heardF : Vector Bool 24
  heardR : Vector Bool 24
  deriving DecidableEq, Repr

/-- Station states, in the order of Table 6-1. -/
inductive StationState where
  | absent | enrolling | mismatch | enrolled | faulty
  deriving DecidableEq, Repr

/-- Timing classes (R108). -/
inductive Timing where
  | stamped | coarse
  deriving DecidableEq, Repr

/-- Status of a RUN slot (R85). -/
inductive RunStatus where
  | ready | notReady
  deriving DecidableEq, Repr

/-- Conduction state of a RUN slot (R85). -/
inductive Conduction where
  | conducting | blocking
  deriving DecidableEq, Repr

/-- Content of an IDENT slot (R105). -/
structure Ident where
  identity : BitVec 32
  levels : Nat
  stamped : Bool
  deriving DecidableEq, Repr

/-- Mismatch reasons, in the order of Table 6-2. -/
inductive MismatchReason where
  | none | identity | levels | identityAndLevels
  deriving DecidableEq, Repr

/-- The station record (Table 5-1) and the enrolment record (Table 6-2) of one position. -/
structure Station where
  state : StationState
  miss : Nat
  timing : Option Timing
  member : Option Half
  inhibit : Nat
  runStatus : Option RunStatus
  conduction : Option Conduction
  lastIdent : Option Ident
  consistent : Nat
  enrolledIdent : Option Ident
  mismatch : MismatchReason
  age : Count16
  stuck : Bool
  deriving DecidableEq, Repr

structure Rgm where
  link : LinkStatus
  downCause : DownCause
  downPattern : Option Pattern
  cycleNumber : BitVec 16
  /-- start time of the latest cycle -/
  sendLatest : Option Time
  /-- start time of the cycle before the latest -/
  sendBefore : Option Time
  /-- the cycle timer -/
  cycleAt : Option Time
  failRun : Nat
  overrunRun : Nat
  probeCount : Nat
  stations : Vector Station 24
  /-- pending control items in creation order -/
  items : List ControlItem
  fTurning : Option RingPos
  rTurning : Option RingPos
  loopErrF : Vector Bool 24
  loopErrR : Vector Bool 24
  scanCurrent : Nat
  scanMin : Nat
  scanMax : Nat
  receiveErrors : Count16
  retries : Count16
  loopSwitches : Count16
  /-- the latest cycle, or none when no cycle is to be closed (R102, R103) -/
  cycle : Option RingCycle
  deriving DecidableEq, Repr

/-! ## Extinction Monitor (Table 7-1) -/

/-- A pending extinction (R118); OPEN unless `expired`. Its deadline instant is armed while OPEN. -/
structure PendingExtinction where
  expired : Bool
  seq : Byte
  reversal : Time
  deadline : Time
  deriving DecidableEq, Repr

structure Exm where
  pendings : Vector (Option PendingExtinction) 24
  /-- last γ of each valve (Table 1-5) -/
  lastGamma : Vector (Option Int) 24
  /-- late indication of each valve (Table 1-5) -/
  late : Vector Bool 24
  /-- C_b -/
  correction : Vector Int 4
  /-- R_g -/
  recovery : Vector Nat 2
  repeats : Vector Nat 2
  /-- measurement windows, oldest first -/
  windows : Vector (List Int) 2
  cfCount : Vector Count16 2
  discard : Count16
  deriving DecidableEq, Repr

/-! ## Level Monitor (Table 8-1) -/

/-- Cause of a failed level (R132). -/
inductive LevelCause where
  | short | noResponse
  deriving DecidableEq, Repr

/-- Level states, in the order of Table 8-1. -/
inductive LevelState where
  | healthy | degraded | atLimit | overLimit
  deriving DecidableEq, Repr

/-- New state of a level change, in the order of Table 12-8. -/
inductive LevelReport where
  | short | noResponse | ok | protFired
  deriving DecidableEq, Repr

/-- A valve's level record (R132). -/
structure LevelRecord where
  installed : Nat
  redundancy : Nat
  /-- failed levels with their causes, ascending by level number -/
  failed : List (Nat × LevelCause)
  overflow : Bool
  state : LevelState
  protective : Count16
  deriving DecidableEq, Repr

structure Lvm where
  levels : Vector LevelRecord 24
  rangeErrors : Count16
  deriving DecidableEq, Repr

/-! ## Group Controller (Table 9-1) -/

/-- Group states, in the order of Table 9-1. -/
inductive GroupState where
  | blocked | deblocking | running | stopping | bypassing | tripped
  deriving DecidableEq, Repr

/-- Deblock-inhibit causes, in the order of Table 9-1. -/
inductive InhibitCause where
  | phaseNotLocked | orderNotOk | stationNotEnrolled | levelLimit | noStationTable | linkUnavailable
  deriving DecidableEq, Repr

/-- Trip causes, in the order of Table 9-1. -/
inductive TripCause where
  | levelLimit | stationFault | lockLost | orderLost | repeatedCf | misfire | startFail
  deriving DecidableEq, Repr

/-- Phase legs, in the order of Table 1-2. -/
inductive Leg where
  | leg14 | leg36 | leg52
  deriving DecidableEq, Repr

structure GroupRecord where
  state : GroupState
  inhibits : BoolSet 6
  tripCauses : BoolSet 7
  firstCause : Option TripCause
  /-- members by the valve's place 0..11 in the group -/
  fired : BoolSet 12
  /-- bypass pair of the Y bridge and of the D bridge -/
  pairs : Vector (Option Leg) 2
  holdTimer : Option Time
  deriving DecidableEq, Repr

/-! ## Order Link Port (Table 10-1) -/

/-- The flags an ORDER carries for one group (Table 12-3). -/
structure GroupFlags where
  deblock : Bool
  block : Bool
  bypass : Bool
  deriving DecidableEq, Repr

/-- The current order (Table 10-1). -/
structure OrderValues where
  alpha : Nat
  current : Nat
  voltage : Nat
  flags : Vector GroupFlags 2
  deriving DecidableEq, Repr

/-- Order states, in the order of Table 10-1. -/
inductive OrderState where
  | ok | hold | lost
  deriving DecidableEq, Repr

/-- AC states, in the order of Table 10-1. -/
inductive AcState where
  | ok | low
  deriving DecidableEq, Repr

/-- Reply results, in the order of Table 11-8. -/
inductive Result where
  | ok | badFrame | badTable | badIndex | badValue | state
  deriving DecidableEq, Repr

/-- A REPLY as built when its request is taken (R165, R184). -/
structure Reply where
  type : Byte
  seq : Byte
  result : Result
  subject : Byte
  detail : BitVec 16
  contents : List Byte
  deriving DecidableEq, Repr

/-- A frame waiting in the output queue; a STATUS is built only when it is taken (R165). -/
inductive OutFrame where
  | status
  | reply (r : Reply)
  deriving DecidableEq, Repr

/-- The frame being sent: its bytes from the type to the CRC, and the end of its sending (R165). -/
structure Sending where
  bytes : List Byte
  ends : Time
  deriving DecidableEq, Repr

structure Olp where
  order : OrderValues
  lastSeq : Option Byte
  orderState : OrderState
  watchdog : Option Time
  holdTimer : Option Time
  ac : AcState
  /-- the sticky flags, in the order of Table 10-4 -/
  sticky : BoolSet 16
  /-- oldest first -/
  queue : List OutFrame
  sending : Option Sending
  linkCrc : Count16
  orderFormat : Count16
  duplicate : Count16
  gap : Count16
  clamp : Count16
  busyDrop : Count16
  deriving DecidableEq, Repr

/-! ## Table Store (Table 11-0) -/

structure Tbs where
  limits : LimitsTable
  overlap : OverlapTable
  converter : ConverterTable
  ring : RingTable
  /-- absent until the first commit -/
  station : Option StationTable
  limitsShadow : Option LimitsTable
  overlapShadow : Option OverlapTable
  converterShadow : Option ConverterTable
  ringShadow : Option RingTable
  stationShadow : Option StationShadow
  generation : BitVec 16
  deriving DecidableEq, Repr

/-! ## The part -/

structure State where
  /-- the timebase (R5) -/
  now : Time
  pru : Pru
  fac : Fac
  fsc : Fsc
  rgm : Rgm
  exm : Exm
  lvm : Lvm
  groups : Vector GroupRecord 2
  olp : Olp
  tbs : Tbs
  /-- the commands waiting, first in, first out (the model's own) -/
  pending : List Instr
  deriving DecidableEq, Repr

/-! ## After power-up -/

/-- R32. -/
def Pru.reset : Pru where
  origin := 0#32
  period := ConverterTable.defaults.periodNominal
  lock := .unlocked
  acquisition := 0
  rejectRun := 0
  holdover := 0
  lastEdge := fill 3 none
  history := []
  marker := none
  watch := none
  glitch := 0#16

/-- R53. -/
def Fac.reset : Fac where
  plannings := fill 24 none
  alphaLast := fill 2 none
  firstFiring := fill 2 false
  startPending := fill 4 false
  gammaLimiting := fill 2 false
  scheduleConflict := 0#16
  revisionLate := 0#16

/-- R14. -/
def ValveFiring.reset : ValveFiring where
  lastDue := none
  lastAlpha := none
  lastOutcome := .none
  misses := 0#16
  fireCount := 0#16
  testOutcome := .none

/-- R77. -/
def Fsc.reset : Fsc where
  records := []
  nextSeq := fill 24 0#8
  waiting := fill 24 false
  lastFired := fill 4 none
  decisionCount := 0#32
  valves := fill 24 ValveFiring.reset
  fireLate := 0#16
  fireMissed := 0#16
  timingDeviation := 0#16
  unconfirmed := 0#16

/-- R102, R117. -/
def Station.reset : Station where
  state := .absent
  miss := 0
  timing := none
  member := none
  inhibit := 0
  runStatus := none
  conduction := none
  lastIdent := none
  consistent := 0
  enrolledIdent := none
  mismatch := .none
  age := 0#16
  stuck := false

/-- R95 to R97, R102. -/
def Rgm.reset : Rgm where
  link := .stopped
  downCause := .none
  downPattern := none
  cycleNumber := 0#16
  sendLatest := none
  sendBefore := none
  cycleAt := none
  failRun := 0
  overrunRun := 0
  probeCount := 0
  stations := fill 24 Station.reset
  items := []
  fTurning := none
  rTurning := none
  loopErrF := fill 24 false
  loopErrR := fill 24 false
  scanCurrent := 0
  scanMin := 0
  scanMax := 0
  receiveErrors := 0#16
  retries := 0#16
  loopSwitches := 0#16
  cycle := none

/-- R14, R131. -/
def Exm.reset : Exm where
  pendings := fill 24 none
  lastGamma := fill 24 none
  late := fill 24 false
  correction := fill 4 0
  recovery := fill 2 0
  repeats := fill 2 0
  windows := fill 2 []
  cfCount := fill 2 0#16
  discard := 0#16

/-- R141. -/
def LevelRecord.reset : LevelRecord where
  installed := 0
  redundancy := 0
  failed := []
  overflow := false
  state := .healthy
  protective := 0#16

/-- R141. -/
def Lvm.reset : Lvm where
  levels := fill 24 LevelRecord.reset
  rangeErrors := 0#16

/-- R158; the inhibit set is the one R158 states for power-up. -/
def GroupRecord.reset : GroupRecord where
  state := .blocked
  inhibits := Vector.ofFn fun i => decide (i ≠ (3 : Fin 6))
  tripCauses := fill 7 false
  firstCause := none
  fired := fill 12 false
  pairs := fill 2 none
  holdTimer := none

/-- R171. -/
def Olp.reset : Olp where
  order := ⟨18000, 0, 0, fill 2 ⟨false, false, false⟩⟩
  lastSeq := none
  orderState := .lost
  watchdog := none
  holdTimer := none
  ac := .low
  sticky := fill 16 false
  queue := []
  sending := none
  linkCrc := 0#16
  orderFormat := 0#16
  duplicate := 0#16
  gap := 0#16
  clamp := 0#16
  busyDrop := 0#16

/-- R172. -/
def Tbs.reset : Tbs where
  limits := LimitsTable.defaults
  overlap := OverlapTable.defaults
  converter := ConverterTable.defaults
  ring := RingTable.defaults
  station := none
  limitsShadow := none
  overlapShadow := none
  converterShadow := none
  ringShadow := none
  stationShadow := none
  generation := 0#16

/-- The part right after power-up: every block at its power-up value, nothing waiting. -/
def State.reset : State where
  now := 0#32
  pru := Pru.reset
  fac := Fac.reset
  fsc := Fsc.reset
  rgm := Rgm.reset
  exm := Exm.reset
  lvm := Lvm.reset
  groups := fill 2 GroupRecord.reset
  olp := Olp.reset
  tbs := Tbs.reset
  pending := []

end Sys2Proof.Machine
end

