-- ==== Sys2Proof/Machine/Operands.lean ====
section
/-! DEFINITION. What the operands name: valves, bridges, groups, positions and legs (R1 to R3),
natural commutation phases (R4), edges (R15) and ring positions (R1, R79). -/

namespace Sys2Proof.Machine

/-! ## Geometry of the pole (R1 to R3) -/

/-- The bridge of a valve (Table 1-1). -/
def valveBridge (v : Valve) : Bridge := ⟨v.val / 6, by omega⟩

/-- The group of a valve (Table 1-1). -/
def valveGroup (v : Valve) : Group := ⟨v.val / 12, by omega⟩

/-- The group of a bridge (Table 1-1). -/
def bridgeGroup (b : Bridge) : Group := ⟨b.val / 2, by omega⟩

/-- The position 1..6 of a valve in its bridge's firing order (R1, R2). -/
def valvePosition (v : Valve) : Nat := v.val % 6 + 1

/-- The valve at position `k` (1..6) of a bridge (R1). -/
def valveAt (b : Bridge) (k : Nat) : Valve := ⟨6 * b.val + (k - 1) % 6, by omega⟩

/-- The predecessor of a valve in its bridge's firing order (R2). -/
def predecessor (v : Valve) : Valve := valveAt (valveBridge v) (valvePosition v + 5)

/-- The leg of a valve (R3). -/
def valveLeg (v : Valve) : Leg :=
  match valvePosition v % 3 with
  | 1 => .leg14
  | 2 => .leg52
  | _ => .leg36

/-- The two valves of a leg of a bridge, in ascending valve index (Table 1-2). -/
def legValves (b : Bridge) : Leg → List Valve
  | .leg14 => [valveAt b 1, valveAt b 4]
  | .leg36 => [valveAt b 3, valveAt b 6]
  | .leg52 => [valveAt b 2, valveAt b 5]

/-- The six valves of a bridge, in ascending index. -/
def bridgeValves (b : Bridge) : List Valve :=
  (List.finRange 24).filter fun v => decide (valveBridge v = b)

/-- The twelve valves of a group, in ascending index. -/
def groupValves (g : Group) : List Valve :=
  (List.finRange 24).filter fun v => decide (valveGroup v = g)

/-- The Y bridge (`side` 0) or the D bridge (`side` 1) of a group. -/
def groupBridge (g : Group) (side : Fin 2) : Bridge := ⟨2 * g.val + side.val, by omega⟩

/-- A valve's place 0..11 in its group. -/
def placeInGroup (v : Valve) : Fin 12 := ⟨v.val % 12, by omega⟩

/-! ## Natural commutation phase (R4) -/

/-- 0 for a Y bridge, 3000 cd for a D bridge (R4). -/
def bridgeOffset (b : Bridge) : Int := if b.val % 2 = 0 then 0 else 3000

/-- φ_v under a Converter Table, in 0..35999 cd (R4). -/
def phase (ct : ConverterTable) (v : Valve) : Int :=
  ((valvePosition v - 1 : Int) * Config.stepCd + bridgeOffset (valveBridge v)
    + ct.trim[valveBridge v]) % Config.cycleCd

/-! ## Edges (Table 2-2) -/

/-- The index of a comparator line among the last edge times. -/
def lineIndex : Line → Fin 3
  | .a => 0
  | .b => 1
  | .c => 2

/-- The edge index j of an edge (Table 2-2). -/
def edgeIndex : Line → Bool → Nat
  | .a, true => 0
  | .c, false => 1
  | .b, true => 2
  | .a, false => 3
  | .c, true => 4
  | .b, false => 5

/-! ## Arguments of frames (R1, R138, R155, R179) -/

/-- The valve an index 1..24 names, if any (R1). -/
def valveOfIndex (b : Byte) : Option Valve :=
  if h : 1 ≤ b.toNat ∧ b.toNat ≤ 24 then some ⟨b.toNat - 1, by omega⟩ else none

/-- The ring position a number 1..24 names, if any (R79). -/
def posOfNumber (b : Byte) : Option RingPos := valveOfIndex b

/-- The group a code names: G1 1, G2 2 (Table 12-6). -/
def groupOfCode (b : Byte) : Option Group :=
  match b.toNat with
  | 1 => some 0
  | 2 => some 1
  | _ => none

/-! ## Ring positions (R1, R79) -/

/-- The row of an ST that names a valve (R1). -/
def positionIn (st : StationTable) (v : Valve) : Option RingPos :=
  (List.finRange 24).find? fun p => decide (st[p].valve = v)

/-- A valve's ring position; none while no ST is active (R1). -/
def positionOf (s : State) (v : Valve) : Option RingPos :=
  match s.tbs.station with
  | none => none
  | some st => positionIn st v

/-- The active ST row of a position (R79). -/
def rowAt (s : State) (p : RingPos) : Option StationRow :=
  match s.tbs.station with
  | none => none
  | some st => some st[p]

/-- The station record of the position that serves a valve. -/
def stationOf (s : State) (v : Valve) : Option Station :=
  (positionOf s v).map fun p => s.rgm.stations[p]

/-- The valve's station is ENROLLED (R60, R144, R156). -/
def valveEnrolled (s : State) (v : Valve) : Bool :=
  match stationOf s v with
  | none => false
  | some st => decide (st.state = .enrolled)

/-- The valve's station is of timing class STAMPED (R59, R65, R66). -/
def valveStamped (s : State) (v : Valve) : Bool :=
  match stationOf s v with
  | none => false
  | some st => decide (st.timing = some .stamped)

/-- The path delay of a position for a direction, from the active ST (R66, R79, R119). -/
def pathDelay (s : State) (p : RingPos) (d : Half) : Nat :=
  match rowAt s p, d with
  | none, _ => 0
  | some r, .f => r.delayF
  | some r, .r => r.delayR

/-- The path delay of the position that serves a valve, for a direction. -/
def valveDelay (s : State) (v : Valve) (d : Half) : Nat :=
  match positionOf s v with
  | none => 0
  | some p => pathDelay s p d

end Sys2Proof.Machine
end

