-- ==== Sys2Proof/Machine/Flags.lean ====
section
/-! DEFINITION. The flags and cause sets: sticky flags (R169), order flags and the command they
reduce to (R143), deblock-inhibit causes (R144) and trip causes (R151). -/

namespace Sys2Proof.Machine

/-! ## Sticky flags (Table 10-4) -/

/-- The sixteen sticky flags, in the row order of Table 10-4. -/
inductive StickyFlag where
  | lockChange | ringChange | stationFault | mismatch | levelChange | levelLimit | cfEvent
  | gammaFloor | fireMissed | scheduleConflict | orderHold | tripG1 | tripG2 | acLowChange
  | clamp | tableEvent
  deriving DecidableEq, Repr

/-- The bit of a sticky flag (R184). -/
def StickyFlag.bit : StickyFlag → Fin 16
  | .lockChange => 0
  | .ringChange => 1
  | .stationFault => 2
  | .mismatch => 3
  | .levelChange => 4
  | .levelLimit => 5
  | .cfEvent => 6
  | .gammaFloor => 7
  | .fireMissed => 8
  | .scheduleConflict => 9
  | .orderHold => 10
  | .tripG1 => 11
  | .tripG2 => 12
  | .acLowChange => 13
  | .clamp => 14
  | .tableEvent => 15

/-- TRIP_G1 or TRIP_G2 (R152). -/
def tripFlag (g : Group) : StickyFlag := if g = 0 then .tripG1 else .tripG2

/-- A sticky flag is set by its event (R169). -/
def State.setFlag (s : State) (f : StickyFlag) : State :=
  { s with olp := { s.olp with sticky := setAt s.olp.sticky f.bit true } }

/-- The flag stands in the sticky flag set. -/
def State.hasFlag (s : State) (f : StickyFlag) : Bool := s.olp.sticky[f.bit]

/-- The flags left when a mask clears those it names (R169). -/
def clearMasked (flags : BoolSet 16) (mask : BitVec 16) : BoolSet 16 :=
  Vector.ofFn fun i => flags[i] && !mask.getLsbD i.val

/-! ## Order flags (R143) -/

/-- The one command the three flags of a group reduce to (R143). -/
inductive GroupCommand where
  | none | deblock | block | bypass
  deriving DecidableEq, Repr

/-- BYPASS overrides BLOCK, and BLOCK overrides DEBLOCK (R143). -/
def commandOf (f : GroupFlags) : GroupCommand :=
  if f.bypass then .bypass else if f.block then .block else if f.deblock then .deblock else .none

/-- The flags a group byte of an ORDER carries (Table 12-3); its other bits are ignored (R162). -/
def flagsOfByte (b : Byte) : GroupFlags := ⟨b.getLsbD 0, b.getLsbD 1, b.getLsbD 2⟩

/-! ## Cause sets (Table 9-1) -/

def InhibitCause.bit : InhibitCause → Fin 6
  | .phaseNotLocked => 0
  | .orderNotOk => 1
  | .stationNotEnrolled => 2
  | .levelLimit => 3
  | .noStationTable => 4
  | .linkUnavailable => 5

def TripCause.bit : TripCause → Fin 7
  | .levelLimit => 0
  | .stationFault => 1
  | .lockLost => 2
  | .orderLost => 3
  | .repeatedCf => 4
  | .misfire => 5
  | .startFail => 6

/-- A deblock condition of Table 9-4 is not met for a group. -/
def unmet (s : State) (g : Group) : InhibitCause → Bool
  | .phaseNotLocked => decide (s.pru.lock ≠ .locked)
  | .orderNotOk => decide (s.olp.orderState ≠ .ok)
  | .stationNotEnrolled => !(groupValves g).all (valveEnrolled s)
  | .levelLimit => (groupValves g).any fun v => decide (s.lvm.levels[v].state = .overLimit)
  | .noStationTable => s.tbs.station.isNone
  | .linkUnavailable => decide (s.rgm.link = .stopped) || decide (s.rgm.link = .down)

/-- The deblock-inhibit causes in the order of Table 9-1. -/
def inhibitCauses : Vector InhibitCause 6 :=
  #v[.phaseNotLocked, .orderNotOk, .stationNotEnrolled, .levelLimit, .noStationTable,
    .linkUnavailable]

/-- The deblock-inhibit cause set of a group as the conditions stand (R144). -/
def inhibitSet (s : State) (g : Group) : BoolSet 6 :=
  Vector.ofFn fun i => unmet s g inhibitCauses[i]

end Sys2Proof.Machine
end

