-- ==== Sys2Proof/Machine/Ops.lean ====
section
/-! DEFINITION. The named operations over the state: the present time, one entry of each table of
the state, and the counters. Every meaning is written over these. -/

namespace Sys2Proof.Machine

/-- The timebase reads `t` when the command is taken (R5, R15; log entry 1). -/
def State.at (s : State) (t : Time) : State := { s with now := t }

/-- The present time plus a duration in tb (R5). -/
def State.after (s : State) (d : Nat) : Time := addTb s.now d

/-- The armed instant `i` has been reached (R7). -/
def State.reached (s : State) (i : Option Time) : Bool := Machine.reached s.now i

/-! ## One block -/

def State.setPru (s : State) (p : Pru) : State := { s with pru := p }

def State.setFac (s : State) (f : Fac) : State := { s with fac := f }

def State.setFsc (s : State) (f : Fsc) : State := { s with fsc := f }

def State.setRgm (s : State) (r : Rgm) : State := { s with rgm := r }

def State.setExm (s : State) (e : Exm) : State := { s with exm := e }

def State.setLvm (s : State) (l : Lvm) : State := { s with lvm := l }

def State.setOlp (s : State) (o : Olp) : State := { s with olp := o }

def State.setTbs (s : State) (t : Tbs) : State := { s with tbs := t }

/-! ## One group, one station, one valve -/

def State.setGroup (s : State) (g : Group) (r : GroupRecord) : State :=
  { s with groups := setAt s.groups g r }

def State.setStation (s : State) (p : RingPos) (r : Station) : State :=
  s.setRgm { s.rgm with stations := setAt s.rgm.stations p r }

def State.setLevel (s : State) (v : Valve) (r : LevelRecord) : State :=
  s.setLvm { s.lvm with levels := setAt s.lvm.levels v r }

def State.setValveFiring (s : State) (v : Valve) (r : ValveFiring) : State :=
  s.setFsc { s.fsc with valves := setAt s.fsc.valves v r }

def State.setRecords (s : State) (rs : List FireRecord) : State :=
  s.setFsc { s.fsc with records := rs }

def State.setPending (s : State) (v : Valve) (x : Option PendingExtinction) : State :=
  s.setExm { s.exm with pendings := setAt s.exm.pendings v x }

def State.setPlanning (s : State) (v : Valve) (x : Option Planning) : State :=
  s.setFac { s.fac with plannings := setAt s.fac.plannings v x }

def State.setWaiting (s : State) (v : Valve) (b : Bool) : State :=
  s.setFsc { s.fsc with waiting := setAt s.fsc.waiting v b }

/-! ## Counters (R31, R52, R75, R101, R130, R140, R170) -/

def State.countGlitch (s : State) : State :=
  s.setPru { s.pru with glitch := satInc s.pru.glitch }

def State.countScheduleConflict (s : State) : State :=
  s.setFac { s.fac with scheduleConflict := satInc s.fac.scheduleConflict }

def State.countRevisionLate (s : State) : State :=
  s.setFac { s.fac with revisionLate := satInc s.fac.revisionLate }

def State.countFireLate (s : State) : State :=
  s.setFsc { s.fsc with fireLate := satInc s.fsc.fireLate }

def State.countFireMissed (s : State) : State :=
  s.setFsc { s.fsc with fireMissed := satInc s.fsc.fireMissed }

def State.countTimingDeviation (s : State) : State :=
  s.setFsc { s.fsc with timingDeviation := satInc s.fsc.timingDeviation }

def State.countUnconfirmed (s : State) : State :=
  s.setFsc { s.fsc with unconfirmed := satInc s.fsc.unconfirmed }

def State.countReceiveError (s : State) : State :=
  s.setRgm { s.rgm with receiveErrors := satInc s.rgm.receiveErrors }

def State.countRetry (s : State) : State :=
  s.setRgm { s.rgm with retries := satInc s.rgm.retries }

def State.countDiscard (s : State) : State :=
  s.setExm { s.exm with discard := satInc s.exm.discard }

def State.countRangeError (s : State) : State :=
  s.setLvm { s.lvm with rangeErrors := satInc s.lvm.rangeErrors }

def State.countLinkCrc (s : State) : State :=
  s.setOlp { s.olp with linkCrc := satInc s.olp.linkCrc }

def State.countOrderFormat (s : State) : State :=
  s.setOlp { s.olp with orderFormat := satInc s.olp.orderFormat }

def State.countDuplicate (s : State) : State :=
  s.setOlp { s.olp with duplicate := satInc s.olp.duplicate }

def State.countGap (s : State) : State :=
  s.setOlp { s.olp with gap := satInc s.olp.gap }

def State.countBusyDrop (s : State) : State :=
  s.setOlp { s.olp with busyDrop := satInc s.olp.busyDrop }

/-! ## Control items (R82) -/

/-- An item for the position and kind is pending. -/
def State.itemPending (s : State) (p : RingPos) (k : ItemKind) : Bool :=
  s.rgm.items.any fun i => decide (i.pos = p) && decide (i.kind = k)

/-- An item is created unless one for its position and kind is pending (R82). -/
def State.createItem (s : State) (p : RingPos) (k : ItemKind) : State :=
  if s.itemPending p k then s
  else s.setRgm { s.rgm with items := s.rgm.items ++ [⟨p, k, false⟩] }

/-- The pending item of the position and kind, if any, is removed. -/
def State.removeItem (s : State) (p : RingPos) (k : ItemKind) : State :=
  s.setRgm { s.rgm with
      items := s.rgm.items.filter fun i => !(decide (i.pos = p) && decide (i.kind = k)) }

end Sys2Proof.Machine
end

