-- ==== Sys2Proof/Machine/Schedule.lean ====
section
/-! DEFINITION. The Fire Schedule's own operations (R55 to R58, R68, R69, R71, R73): schedule order,
bounds, placing, removal, cancel and release decisions. What a removal hands to other blocks is in
Outcomes.lean. -/

namespace Sys2Proof.Machine

/-! ## Records -/

/-- The record is of kind NORMAL. -/
def FireRecord.isNormal (r : FireRecord) : Bool :=
  match r.body with
  | .normal _ => true
  | .start => false
  | .bypass => false
  | .test => false

/-- The record is of kind NORMAL or START. -/
def FireRecord.isRegular (r : FireRecord) : Bool :=
  match r.body with
  | .normal _ => true
  | .start => true
  | .bypass => false
  | .test => false

/-- The record is of kind BYPASS. -/
def FireRecord.isBypass (r : FireRecord) : Bool := decide (r.body = .bypass)

/-- The record is of kind TEST. -/
def FireRecord.isTest (r : FireRecord) : Bool := decide (r.body = .test)

/-- The α_eff of a NORMAL record (Table 4-2). -/
def FireRecord.alpha? (r : FireRecord) : Option Int :=
  match r.body with
  | .normal n => some n.alphaEff
  | .start => none
  | .bypass => none
  | .test => none

/-- Schedule order: by due time, and by valve index for equal due times (R57). R57 gives two records of
one valve with equal due times no order; the later placed one stands after the earlier
(log entry 35). Due times are compared as R6 says, which need not order a list that holds a due time
2^31 tb or more behind another (log entry 40). -/
def schedBefore (a b : FireRecord) : Bool :=
  before a.due b.due || (decide (a.due = b.due) && decide (a.valve < b.valve))

/-- Insertion before the first element that `lt` puts after `x`; among equals `x` stands last. In the
schedule both are the model's choice: the place among equals (log entry 35), and the first such element
as the place also where the list holds a due time 2^31 tb or more behind another, that of a BYPASS record held
so long, and no place gives schedule order (log entry 40, DESIGN CHOICE). -/
def insertBy {α : Type} (lt : α → α → Bool) (x : α) : List α → List α
  | [] => [x]
  | y :: ys => if lt x y then x :: y :: ys else y :: insertBy lt x ys

/-- Stable sort by insertion. -/
def sortBy {α : Type} (lt : α → α → Bool) (xs : List α) : List α :=
  xs.foldl (fun acc x => insertBy lt x acc) []

/-- The first element equal to `x` replaced by `y`. -/
def replaceFirst {α : Type} [DecidableEq α] (x y : α) : List α → List α
  | [] => []
  | z :: zs => if z = x then y :: zs else z :: replaceFirst x y zs

/-- The live records of a valve. -/
def State.recordsOf (s : State) (v : Valve) : List FireRecord :=
  s.fsc.records.filter fun r => decide (r.valve = v)

/-- The valve has fewer than two live records (R57). -/
def State.hasRoom (s : State) (v : Valve) : Bool :=
  decide ((s.recordsOf v).length < Config.recordsPerValve)

/-- The group has a live NORMAL, START or BYPASS record (R68, R149). -/
def State.groupBusy (s : State) (g : Group) : Bool :=
  s.fsc.records.any fun r => decide (valveGroup r.valve = g) && !r.isTest

/-- A record takes its place in schedule order (R57). -/
def State.addRecord (s : State) (r : FireRecord) : State :=
  s.setRecords (insertBy schedBefore r s.fsc.records)

/-- A record is removed (R68). -/
def State.dropRecord (s : State) (r : FireRecord) : State :=
  s.setRecords (s.fsc.records.erase r)

/-- A record is changed in its place; its due time stays. -/
def State.putRecord (s : State) (r r' : FireRecord) : State :=
  s.setRecords (replaceFirst r r' s.fsc.records)

/-- A record with a new due time is re-placed in schedule order (R50, R57). -/
def State.moveRecord (s : State) (r r' : FireRecord) : State :=
  s.setRecords (insertBy schedBefore r' (s.fsc.records.erase r))

/-! ## New records (R56, R58) -/

/-- The lateness instant of a due time (R58). -/
def latenessOf (rt : RingTable) (due : Time) : Time := addTb due (-(rt.ackMargin : Int))

/-- The confirm instant of a due time (R58). -/
def confirmOf (rt : RingTable) (due : Time) : Time := addTb due rt.confirmTimeout

/-- A NORMAL record as planned (R44, R58). -/
def newNormal (rt : RingTable) (v : Valve) (due : Time) (hold : Nat) (n : NormalPart) :
    FireRecord where
  valve := v
  body := .normal n
  due := due
  hold := some hold
  seq := none
  firstCancel := none
  decision := none
  state := .planned
  late := false
  revised := false
  firedStamp := none
  latenessAt := some (latenessOf rt due)
  confirmAt := some (confirmOf rt due)
  holdAt := none
  releaseAt := none

/-- A START record (R46, R56, R58). -/
def newStart (rt : RingTable) (v : Valve) (due : Time) (hold : Nat) : FireRecord where
  valve := v
  body := .start
  due := due
  hold := some hold
  seq := none
  firstCancel := none
  decision := none
  state := .dispatched
  late := false
  revised := false
  firedStamp := none
  latenessAt := some (latenessOf rt due)
  confirmAt := some (confirmOf rt due)
  holdAt := none
  releaseAt := none

/-- A BYPASS record (R56, R58, R71). -/
def newBypass (v : Valve) (due : Time) : FireRecord where
  valve := v
  body := .bypass
  due := due
  hold := none
  seq := none
  firstCancel := none
  decision := none
  state := .dispatched
  late := false
  revised := false
  firedStamp := none
  latenessAt := none
  confirmAt := none
  holdAt := some due
  releaseAt := none

/-- A TEST record (R56, R58, R74). -/
def newTest (rt : RingTable) (v : Valve) (due : Time) (hold : Nat) : FireRecord where
  valve := v
  body := .test
  due := due
  hold := some hold
  seq := none
  firstCancel := none
  decision := none
  state := .dispatched
  late := false
  revised := false
  firedStamp := none
  latenessAt := none
  confirmAt := some (confirmOf rt due)
  holdAt := none
  releaseAt := none

/-- The due time of a BYPASS or TEST record placed now: two ring intervals ahead (R71, R74). -/
def State.placingDue (s : State) : Time := s.after (2 * s.tbs.ring.ringInterval)

/-! ## Bypass requests (R71) -/

/-- A live BYPASS record stands in the valve's bridge outside the valve's leg (R71). -/
def State.otherLegHeld (s : State) (v : Valve) : Bool :=
  s.fsc.records.any fun r =>
    r.isBypass && decide (valveBridge r.valve = valveBridge v) && decide (valveLeg r.valve ≠ valveLeg v)

/-- A BYPASS record is placed for the valve, or its waiting bypass is set (R71). -/
def tryBypass (s : State) (v : Valve) : State :=
  if s.hasRoom v && !s.otherLegHeld v then
    (s.addRecord (newBypass v s.placingDue)).setWaiting v false
  else s.setWaiting v true

/-- A bypass request of the Group Controller (R71). -/
def bypassRequest (s : State) (v : Valve) : State :=
  if (s.recordsOf v).any fun r =>
      r.isBypass && (decide (r.state = .dispatched) || decide (r.state = .armed)
        || decide (r.state = .holding)) then s
  else tryBypass s v

/-- The placing of a waiting bypass is tried again (R68, step 6). -/
def retryOne (s : State) (v : Valve) : State :=
  if s.fsc.waiting[v] then tryBypass s v else s

/-- Step 6 of R68: the valve's own waiting bypass first, then those of its bridge in ascending
index (log entry 9). -/
def retryWaiting (s : State) (v : Valve) : State :=
  (v :: bridgeValves (valveBridge v)).foldl retryOne s

/-! ## Removal with an outcome (R68, steps 1 and 2; R13) -/

/-- The last outcome shown for an outcome (R68, step 1). -/
def lastOutcomeOf : RecordOutcome → LastOutcome
  | .fired => .fired
  | .missed => .missed
  | .cancelled false => .cancelled
  | .cancelled true => .cancelledUnconfirmed
  | .released false => .released
  | .released true => .releasedUnconfirmed

/-- The test outcome shown for an outcome of a TEST record (Table 1-5). -/
def testOutcomeOf (old : TestOutcome) : RecordOutcome → TestOutcome
  | .fired => .fired
  | .missed => .missed
  | .cancelled _ => old
  | .released _ => old

/-- The consecutive-miss count after an outcome of a NORMAL record (Table 1-5). -/
def missesAfter (old : Count16) : RecordOutcome → Count16
  | .fired => 0#16
  | .missed => satInc old
  | .cancelled _ => old
  | .released _ => old

/-- Step 1 of R68: what a record's outcome writes in its valve's record (R13). -/
def writeOutcome (f : ValveFiring) (r : FireRecord) (o : RecordOutcome) : ValveFiring :=
  if r.isTest then { f with testOutcome := testOutcomeOf f.testOutcome o }
  else
    { f with
      lastDue := some r.due
      lastAlpha := r.alpha?
      lastOutcome := lastOutcomeOf o
      misses := if r.isNormal then missesAfter f.misses o else f.misses
      fireCount := if r.isRegular && decide (o = .fired) then f.fireCount + 1#16 else f.fireCount }

/-- Step 2 of R68: the last fired valve of the bridge. -/
def noteFired (s : State) (r : FireRecord) (o : RecordOutcome) : State :=
  if r.isRegular && decide (o = .fired) then
    s.setFsc { s.fsc with
        lastFired := setAt s.fsc.lastFired (valveBridge r.valve) (some r.valve) }
  else s

/-- The record leaves the schedule, and steps 1 and 2 of R68 are done. -/
def closeRecord (s : State) (r : FireRecord) (o : RecordOutcome) : State :=
  noteFired ((s.dropRecord r).setValveFiring r.valve (writeOutcome s.fsc.valves[r.valve] r o)) r o

/-! ## Events the Group Controller takes (R142) -/

/-- The events of a group (R142). -/
inductive GroupEvent where
  /-- an ORDER was adopted -/
  | orderAdopted
  /-- the order state changed; `lost` to ORDER_LOST -/
  | orderState (lost : Bool)
  /-- the lock state changed; `lost` for a lock-lost event (R26) -/
  | lockChange (lost : Bool)
  | ringStatus
  | stationEnrolled
  | stationFault
  | levelLimit
  | levelRestored
  | repeatedCf
  /-- the outcome of a NORMAL (`normal`) or START record of the valve -/
  | outcome (v : Valve) (normal : Bool) (o : RecordOutcome)
  | recordsEnded
  | tableCommit
  | holdExpiry
  | resetTrip
  | testFire
  deriving DecidableEq, Repr

/-- Events handed to the Group Controller and not yet taken, oldest first. -/
abbrev Notices := List (Group × GroupEvent)

/-- What steps 4 and 5 of R68 hand to the Group Controller for a record just removed: its outcome,
and the records-ended notice when no NORMAL, START or BYPASS record of its group is left. The
removal of a TEST record hands nothing. -/
def noticesOf (s : State) (r : FireRecord) (o : RecordOutcome) : Notices :=
  let g := valveGroup r.valve
  (if r.isRegular then [(g, .outcome r.valve r.isNormal o)] else []) ++
  (if !r.isTest && !s.groupBusy g then [(g, .recordsEnded)] else [])

/-! ## Cancel and release decisions (R69, R73) -/

/-- A decision takes the next decision number (R69). -/
def takeDecision (s : State) : State :=
  s.setFsc { s.fsc with decisionCount := s.fsc.decisionCount + 1#32 }

/-- A sent NORMAL or START record of the group becomes CANCELLING; one already CANCELLING keeps its
decision number (R69). -/
def markCancelled (g : Group) (n : BitVec 32) (r : FireRecord) : FireRecord :=
  if decide (valveGroup r.valve = g) && r.isRegular &&
      (decide (r.state = .dispatched) || decide (r.state = .armed)) then
    { r with state := .cancelling, decision := some n, firstCancel := none }
  else r

/-- A PLANNED record of a cancel decision is removed at once (R69). -/
def cancelPlanned (x : State × Notices) (r : FireRecord) : State × Notices :=
  let s := closeRecord x.1 r (.cancelled false)
  (retryWaiting s r.valve, x.2 ++ noticesOf s r (.cancelled false))

/-- A cancel decision for the NORMAL and START records of a group (R69). The notices are those the
removals hand back, to be taken when the decision's own handling is complete (R142). -/
def cancelDecision (s : State) (g : Group) : State × Notices :=
  let s := takeDecision s
  let n := s.fsc.decisionCount
  let planned := s.fsc.records.filter fun r =>
    decide (valveGroup r.valve = g) && r.isRegular && decide (r.state = .planned)
  planned.foldl cancelPlanned (s.setRecords (s.fsc.records.map (markCancelled g n)), [])

/-- A BYPASS record of the group becomes RELEASING, with its release timeout armed (R73). -/
def markReleased (g : Group) (n : BitVec 32) (timeout : Time) (r : FireRecord) : FireRecord :=
  if decide (valveGroup r.valve = g) && r.isBypass && !decide (r.state = .releasing) then
    { r with state := .releasing, decision := some n, firstCancel := none, releaseAt := some timeout }
  else r

/-- A release decision for the BYPASS records of a group; it clears the waiting bypasses of the
group's valves (R73). -/
def releaseDecision (s : State) (g : Group) : State :=
  let s := takeDecision s
  let n := s.fsc.decisionCount
  let timeout := s.after s.tbs.ring.confirmTimeout
  s.setFsc { s.fsc with
      records := s.fsc.records.map (markReleased g n timeout)
      waiting := Vector.ofFn fun v => s.fsc.waiting[v] && !decide (valveGroup v = g) }

end Sys2Proof.Machine
end

