-- ==== Sys2Proof/Machine/Firing.lean ====
section
/-! DEFINITION. The Firing Angle Calculator's stages (R38 to R43) and protective revision
(R49, R50). -/

namespace Sys2Proof.Machine

/-! ## The stages (Table 3-2) -/

/-- Stage 1: the order clamp (R38). -/
def orderClamp (alphaOrd alphaMin alphaMax : Int) : Int := min (max alphaOrd alphaMin) alphaMax

/-- The voltage band of U (R39). -/
def voltageBand (u : Nat) : Fin 4 :=
  if u < 700 then 0 else if u < 900 then 1 else if u < 1050 then 2 else 3

/-- Point `i` of a band, i in 0..16. -/
def overlapPoint (points : Vector Int 17) (i : Nat) : Int := points.toList.getD i 0

/-- Stage 2: the predicted overlap μ for a current (R39). -/
def predictedOverlap (points : Vector Int 17) (current : Nat) : Int :=
  let i := current / 128
  let frac := current % 128
  let here := overlapPoint points i
  here + ceilDiv ((overlapPoint points (i + 1) - here) * frac) 128

/-- γ_min_eff (R40, R120). -/
def gammaMinEff (lt : LimitsTable) (ac : AcState) : Int :=
  match ac with
  | .ok => lt.gammaMin
  | .low => lt.gammaMin + lt.gammaLowRaise

/-- The commutation failure advance A (R40). -/
def cfAdvance (aCf : Int) (recovery : Nat) : Int := if 0 < recovery then aCf else 0

/-- The gamma limit before its floor (R40). -/
def gammaLimitRaw (gMinEff overlap correction advance : Int) : Int :=
  18000 - gMinEff - overlap - correction - advance

/-- Stage 5: the retard rate limit; no limit when the reference is none (R42). -/
def rateLimit (alpha2 alphaMin deltaUp : Int) (reference : Option Int) : Int :=
  match reference with
  | none => alpha2
  | some last => max alphaMin (min alpha2 (last + deltaUp))

/-- Stages 3 to 5 on given inputs: whether the floor is applied, whether the planning is gamma
limiting, and α_eff (R40 to R42). -/
structure StageResult where
  floored : Bool
  limiting : Bool
  alphaEff : Int
  deriving DecidableEq, Repr

def stages (alphaOrd alphaMin alphaMax deltaUp gMinEff overlap correction advance : Int)
    (reference : Option Int) : StageResult :=
  let a1 := orderClamp alphaOrd alphaMin alphaMax
  let raw := gammaLimitRaw gMinEff overlap correction advance
  let gl := max raw alphaMin
  { floored := decide (raw < alphaMin)
    limiting := decide (gl < a1)
    alphaEff := rateLimit (min a1 gl) alphaMin deltaUp reference }

/-- A time at a target cycle start plus an angle, converted once (R10, R43). -/
def timeAt (target : Time) (angle : Int) (period : Nat) : Time :=
  addTb target (angleToTb angle period)

/-- The hold width of a NORMAL or TEST firing in tb (R43, R74). -/
def holdWidth (period : Nat) : Nat := (angleToTb Config.holdCd period).toNat

/-! ## Protective revision (R49, R50) -/

/-- What a revision covers: one group or one bridge (R49). -/
inductive Scope where
  | group (g : Group)
  | bridge (b : Bridge)
  deriving DecidableEq, Repr

/-- The valve is in the scope. -/
def Scope.has (c : Scope) (v : Valve) : Bool :=
  match c with
  | .group g => decide (valveGroup v = g)
  | .bridge b => decide (valveBridge v = b)

/-- The stages of a record on its stored inputs, with the correction and the recovery counter as
they stand and A_cf of the active LT (R49). -/
def revisedStages (s : State) (v : Valve) (i : PlanInputs) : StageResult :=
  stages i.alphaOrd i.alphaMin i.alphaMax i.deltaAlphaUp i.gammaMinEff i.overlap
    s.exm.correction[valveBridge v]
    (cfAdvance s.tbs.limits.aCf s.exm.recovery[valveGroup v]) i.rateReference

/-- The lateness or confirm instant of a record moved with its due time; an instant already taken
stays taken, and one moved to a passed time is taken at the move (R7, R58). In state PLANNED the
lateness event has no effect (R65). -/
def movedInstant (now : Time) (old : Option Time) (new : Time) : Option Time :=
  match old with
  | none => none
  | some _ => if passed now new then none else some new

/-- A record that takes a new due time and angle (R50). Its confirm instant lies after the new due
time, which lies in the future, so only the lateness instant can be passed. -/
def revisedRecord (s : State) (r : FireRecord) (n : NormalPart) (due : Time) (alpha : Int) :
    FireRecord :=
  { r with
    body := .normal { n with alphaEff := alpha }
    due := due
    revised := true
    latenessAt := movedInstant s.now r.latenessAt (latenessOf s.tbs.ring due)
    confirmAt := r.confirmAt.map fun _ => confirmOf s.tbs.ring due }

/-- The sticky flag GAMMA_FLOOR is set when the stages applied the floor (R40, R49). -/
def noteFloor (s : State) (x : StageResult) : State :=
  if x.floored then s.setFlag .gammaFloor else s

/-- The recomputed due time is taken if it is earlier and can still be sent; one that comes too
late is counted (R50). -/
def offerRevision (s : State) (r : FireRecord) (n : NormalPart) (due : Time) (alpha : Int) :
    State :=
  if before due r.due then
    if atOrBefore s.placingDue due then s.moveRecord r (revisedRecord s r n due alpha)
    else s.countRevisionLate
  else s

/-- The due time of a record recomputed with an angle, from its stored inputs (R49, stage 6). -/
def revisedDue (s : State) (v : Valve) (i : PlanInputs) (alpha : Int) : Time :=
  timeAt i.target (phase s.tbs.converter v + alpha) i.period

/-- The recomputation of one PLANNED NORMAL record (R49, R50). -/
def reviseOne (s : State) (r : FireRecord) : State :=
  match r.body with
  | .normal n =>
    let st := revisedStages s r.valve n.inputs
    offerRevision (noteFloor s st) r n (revisedDue s r.valve n.inputs st.alphaEff) st.alphaEff
  | .start => s
  | .bypass => s
  | .test => s

/-- A revision: each PLANNED NORMAL record of the scope, in the schedule's order (R49). -/
def revise (s : State) (c : Scope) : State :=
  (s.fsc.records.filter fun r =>
    r.isNormal && decide (r.state = .planned) && c.has r.valve).foldl reviseOne s

end Sys2Proof.Machine
end

