-- ==== Sys2Proof/Machine/Groups.lean ====
section
/-! DEFINITION. The Group Controller (R142 to R155): the effect of each event in each state, the
deblock conditions, the order flags, and the taking of events in the order they are handed. -/

namespace Sys2Proof.Machine

/-! ## Parts of a transition -/

def State.setGroupState (s : State) (g : Group) (x : GroupState) : State :=
  s.setGroup g { s.groups[g] with state := x }

/-- The bypass pairs of the group become none. -/
def State.clearPairs (s : State) (g : Group) : State :=
  s.setGroup g { s.groups[g] with pairs := fill 2 none }

def State.setHoldTimer (s : State) (g : Group) (x : Option Time) : State :=
  s.setGroup g { s.groups[g] with holdTimer := x }

/-- The pair of a bridge: the leg of its last fired valve, or leg (1,4) (R147, step 3). -/
def pairChoice (s : State) (b : Bridge) : Leg :=
  match s.fsc.lastFired[b] with
  | none => .leg14
  | some v => valveLeg v

/-- The bypass pair of each bridge of the group is chosen (R147, step 3). -/
def State.choosePairs (s : State) (g : Group) : State :=
  s.setGroup g { s.groups[g] with
    pairs := Vector.ofFn fun side => some (pairChoice s (groupBridge g side)) }

/-- The valves of the group's bypass pairs, in ascending index (R147, step 5). -/
def pairValves (s : State) (g : Group) : List Valve :=
  (List.finRange 2).flatMap fun side =>
    match s.groups[g].pairs[side] with
    | none => []
    | some leg => legValves (groupBridge g side) leg

/-- Steps 3 to 5 of R147: choose the pairs, cancel, request the bypasses. -/
def enterPattern (s : State) (g : Group) : State × Notices :=
  let s := s.choosePairs g
  let (s, ns) := cancelDecision s g
  ((pairValves s g).foldl bypassRequest s, ns)

/-- Entry to BYPASSING; `timed` when by BLOCK in VIA_BYPASS mode (R147). -/
def enterBypassing (s : State) (g : Group) (timed : Bool) : State × Notices :=
  let s := s.setGroupState g .bypassing
  let s := s.setHoldTimer g
    (if timed then some (s.after (s.tbs.limits.bypassHold * Config.tbPerMs)) else none)
  enterPattern s g

/-- The check of R149: STOPPING becomes BLOCKED when the group has no NORMAL, START or BYPASS
record left. -/
def checkStopped (s : State) (g : Group) : State :=
  if s.groupBusy g then s else s.setGroupState g .blocked

/-- A block in DIRECT mode (R146, R149). -/
def stopDirect (s : State) (g : Group) : State × Notices :=
  let s := s.setGroupState g .stopping
  let (s, ns) := cancelDecision s g
  (checkStopped s g, ns)

/-- A block out of BYPASSING (R148, R149). -/
def stopBypass (s : State) (g : Group) : State :=
  let s := (s.setGroupState g .stopping).setHoldTimer g none
  let s := releaseDecision (s.clearPairs g) g
  checkStopped s g

/-- Entry to DEBLOCKING (R145). -/
def enterDeblocking (s : State) (g : Group) : State :=
  let fromBypass := decide (s.groups[g].state = .bypassing)
  let s := s.setGroupState g .deblocking
  let s := if fromBypass then releaseDecision ((s.setHoldTimer g none).clearPairs g) g else s
  let s := s.setGroup g { s.groups[g] with fired := BoolSet.empty 12 }
  s.setFac { s.fac with
      firstFiring := setAt s.fac.firstFiring g true
      startPending := setAt (setAt s.fac.startPending (groupBridge g 0) true) (groupBridge g 1) true }

/-! ## Trips (R151, R152) -/

/-- Table 9-5: the cause trips a group in the state. -/
def trips (c : TripCause) (x : GroupState) : Bool :=
  match c, x with
  | .levelLimit, .deblocking => true
  | .levelLimit, .running => true
  | .levelLimit, .bypassing => true
  | .stationFault, .deblocking => true
  | .stationFault, .running => true
  | .stationFault, .bypassing => true
  | .lockLost, .deblocking => true
  | .lockLost, .running => true
  | .orderLost, .deblocking => true
  | .orderLost, .running => true
  | .repeatedCf, .deblocking => true
  | .repeatedCf, .running => true
  | .misfire, .running => true
  | .startFail, .deblocking => true
  | _, _ => false

/-- Table 9-5: the cause is added in TRIPPED. -/
def addsWhenTripped : TripCause → Bool
  | .levelLimit => true
  | .stationFault => true
  | .lockLost => true
  | .orderLost => true
  | .repeatedCf => true
  | .misfire => false
  | .startFail => false

/-- Steps 1 to 3 of R152. -/
def markTripped (s : State) (g : Group) (c : TripCause) : State :=
  (s.setGroup g { s.groups[g] with
    state := .tripped
    firstCause := some c
    tripCauses := setAt (fill 7 false) c.bit true
    holdTimer := none }).setFlag (tripFlag g)

/-- A trip event trips the group (R152). -/
def trip (s : State) (g : Group) (c : TripCause) : State × Notices :=
  let fromBypass := decide (s.groups[g].state = .bypassing)
  let s := markTripped s g c
  match s.tbs.converter.tripAction[g] with
  | .bypass => if fromBypass then (s, []) else enterPattern s g
  | .block =>
    let (s, ns) := cancelDecision (s.clearPairs g) g
    (releaseDecision s g, ns)

/-- A trip event acts by the group's state (R151). -/
def tripEvent (s : State) (g : Group) (c : TripCause) : State × Notices :=
  let r := s.groups[g]
  if trips c r.state then trip s g c
  else if decide (r.state = .tripped) && addsWhenTripped c then
    (s.setGroup g { r with tripCauses := setAt r.tripCauses c.bit true }, [])
  else (s, [])

/-! ## Outcomes (R146, R149, R154) -/

/-- A FIRED outcome in DEBLOCKING (R146). -/
def addFired (s : State) (g : Group) (v : Valve) : State :=
  let r := s.groups[g]
  let fired := setAt r.fired (placeInGroup v) true
  s.setGroup g { r with
    fired := fired
    state := if BoolSet.full fired then .running else r.state }

/-- The outcome of a NORMAL or START record of the group (R146, R154). -/
def outcomeEvent (s : State) (g : Group) (v : Valve) (normal : Bool) (o : RecordOutcome) :
    State × Notices :=
  match s.groups[g].state, o with
  | .deblocking, .fired => (addFired s g v, [])
  | .deblocking, .missed => tripEvent s g .startFail
  | .running, .missed =>
    if normal && decide (2 ≤ s.fsc.valves[v].misses.toNat) then tripEvent s g .misfire else (s, [])
  | _, _ => (s, [])

/-- RESET_TRIP on a TRIPPED group (R155). -/
def resetTripped (s : State) (g : Group) : State × Notices :=
  let s := s.setGroup g { s.groups[g] with
    state := .stopping
    tripCauses := fill 7 false
    firstCause := none
    pairs := fill 2 none }
  let (s, ns) := cancelDecision s g
  (checkStopped (releaseDecision s g) g, ns)

/-! ## Taking an event (R142) -/

/-- The event's own effect (R142). -/
def ownEffect (s : State) (g : Group) : GroupEvent → State × Notices
  | .orderAdopted => (s, [])
  | .orderState true => tripEvent s g .orderLost
  | .orderState false => (s, [])
  | .lockChange true => tripEvent s g .lockLost
  | .lockChange false => (s, [])
  | .ringStatus => (s, [])
  | .stationEnrolled => (s, [])
  | .stationFault => tripEvent s g .stationFault
  | .levelLimit => tripEvent s g .levelLimit
  | .levelRestored => (s, [])
  | .repeatedCf => tripEvent s g .repeatedCf
  | .outcome v normal o => outcomeEvent s g v normal o
  | .recordsEnded =>
    (if s.groups[g].state = .stopping then s.setGroupState g .blocked else s, [])
  | .tableCommit => (s, [])
  | .holdExpiry =>
    (if s.groups[g].state = .bypassing then stopBypass s g else s, [])
  | .resetTrip => if s.groups[g].state = .tripped then resetTripped s g else (s, [])
  | .testFire => (s, [])

/-- The deblock conditions are evaluated, and the set is replaced (R144). -/
def evalInhibits (s : State) (g : Group) : State :=
  s.setGroup g { s.groups[g] with inhibits := inhibitSet s g }

/-- The order flags are evaluated against the group's state (R143, Table 9-3). -/
def applyFlags (s : State) (g : Group) : State × Notices :=
  let r := s.groups[g]
  let ready := !BoolSet.any r.inhibits
  match r.state, commandOf s.olp.order.flags[g] with
  | .blocked, .bypass => enterBypassing s g false
  | .blocked, .deblock => if ready then (enterDeblocking s g, []) else (s, [])
  | .deblocking, .bypass => enterBypassing s g false
  | .running, .bypass => enterBypassing s g false
  | .deblocking, .block =>
    match s.tbs.converter.blockMode[g] with
    | .direct => stopDirect s g
    | .viaBypass => enterBypassing s g true
  | .running, .block =>
    match s.tbs.converter.blockMode[g] with
    | .direct => stopDirect s g
    | .viaBypass => enterBypassing s g true
  | .bypassing, .bypass => (s.setHoldTimer g none, [])
  | .bypassing, .block => if r.holdTimer.isNone then (stopBypass s g, []) else (s, [])
  | .bypassing, .deblock => if ready then (enterDeblocking s g, []) else (s, [])
  | _, _ => (s, [])

/-- One event at a group: its own effect, then the deblock conditions, then the flags (R142). The
notices are those the Fire Schedule handed back meanwhile. -/
def handleEvent (s : State) (g : Group) (e : GroupEvent) : State × Notices :=
  let (s, n1) := ownEffect s g e
  let (s, n2) := applyFlags (evalInhibits s g) g
  (s, n1 ++ n2)

/-- Events are taken one after the other; notices handed back during one are taken after it, in the
state it has left (R142). `fuel` bounds the number of events. -/
def runEvents : Nat → Notices → State → State
  | 0, _, s => s
  | _ + 1, [], s => s
  | fuel + 1, e :: rest, s =>
    let (s, ns) := handleEvent s e.1 e.2
    runEvents fuel (rest ++ ns) s

/-- An event handed to a group is taken, with all that follows from it at the Group Controller.
Every event beyond the first comes from a record removed meanwhile; only PLANNED NORMAL and START
records are (R69), none is placed meanwhile, and each hands back two events at most (`noticesOf`), so
the fuel is never short. -/
def groupEvent (s : State) (g : Group) (e : GroupEvent) : State :=
  runEvents (1 + 2 * s.fsc.records.length) [(g, e)] s

/-- An event handed to G1 and then to G2. -/
def bothGroups (s : State) (e : GroupEvent) : State := groupEvent (groupEvent s 0 e) 1 e

end Sys2Proof.Machine
end

