-- ==== Sys2Proof/Machine/Extinction.lean ====
section
/-! DEFINITION. The Extinction Monitor (R118 to R128): pending extinctions, measurements, gamma
corrections, commutation failures and recovery. -/

namespace Sys2Proof.Machine

/-! ## Commutation failure (R125, R126) -/

/-- Steps 1 to 3 of R125. -/
def noteFailure (s : State) (g : Group) : State :=
  let repeats := if 0 < s.exm.recovery[g] then min 255 (s.exm.repeats[g] + 1) else 1
  (s.setExm { s.exm with
      repeats := setAt s.exm.repeats g repeats
      recovery := setAt s.exm.recovery g s.tbs.limits.nCf
      cfCount := setAt s.exm.cfCount g (satInc s.exm.cfCount[g]) }).setFlag .cfEvent

/-- A commutation failure is declared for a group (R125). -/
def declareFailure (s : State) (g : Group) : State :=
  let s := revise (noteFailure s g) (.group g)
  if s.tbs.limits.cfTripCount ≤ s.exm.repeats[g] then groupEvent s g .repeatedCf else s

/-- A planning notice lowers R_g, and ends the recovery when it reaches 0 (R126). -/
def planningNotice (s : State) (g : Group) : State :=
  let r := s.exm.recovery[g]
  if r = 0 then s
  else
    s.setExm { s.exm with
        recovery := setAt s.exm.recovery g (r - 1)
        repeats := if r - 1 = 0 then setAt s.exm.repeats g 0 else s.exm.repeats }

/-! ## The deadline (R124) -/

/-- The group fires regularly: DEBLOCKING or RUNNING (R36, R120, R124). -/
def firingState (x : GroupState) : Bool := decide (x = .deblocking) || decide (x = .running)

/-- The deadline event of an OPEN pending extinction (R124). -/
def deadlineEvent (s : State) (v : Valve) (p : PendingExtinction) : State :=
  if firingState s.groups[valveGroup v].state then
    declareFailure (s.setPending v (some { p with expired := true })) (valveGroup v)
  else s.setPending v none

/-- A pending extinction is opened (R118). A deadline that has passed is taken at once (R7). -/
def openExtinction (s : State) (v : Valve) (seq : Byte) (reversal : Time) : State :=
  let p : PendingExtinction :=
    ⟨false, seq, reversal, addTb reversal s.tbs.ring.extinctionAllowance⟩
  let s := s.setPending v (some p)
  if passed s.now p.deadline then deadlineEvent s v p else s

/-! ## Measurements (R119 to R122) -/

/-- γ of a corrected stamp (R119). -/
def measuredGamma (s : State) (reversal stamp : Time) : Int :=
  tbToAngle (signedDiff stamp reversal) s.pru.period

/-- The Valve Record takes γ, with the late indication (R120, R124). -/
def writeGamma (s : State) (v : Valve) (gamma : Int) (late : Bool) : State :=
  s.setExm { s.exm with
      lastGamma := setAt s.exm.lastGamma v (some gamma)
      late := setAt s.exm.late v late }

/-- A value at the newest end of a list that holds at most `n` (R20, R128). -/
def pushLast {α : Type} (n : Nat) (xs : List α) (x : α) : List α :=
  let ys := xs ++ [x]
  ys.drop (ys.length - n)

/-- γ enters the measurement window (R128). -/
def addMeasurement (s : State) (g : Group) (gamma : Int) : State :=
  s.setExm { s.exm with
      windows := setAt s.exm.windows g (pushLast Config.windowLength s.exm.windows[g] gamma) }

/-- C_b takes a value. -/
def State.setCorrection (s : State) (b : Bridge) (x : Int) : State :=
  s.setExm { s.exm with correction := setAt s.exm.correction b x }

/-- A short margin raises the gamma correction of the bridge, and a rise raises a revision (R121). -/
def raiseCorrection (s : State) (b : Bridge) (shortfall : Int) : State :=
  let new := min s.tbs.limits.cMax (s.exm.correction[b] + shortfall)
  if s.exm.correction[b] < new then revise (s.setCorrection b new) (.bridge b) else s

/-- A sufficient margin decays the gamma correction (R122). -/
def decayCorrection (s : State) (b : Bridge) : State :=
  s.setCorrection b (max 0 (s.exm.correction[b] - s.tbs.limits.cDecay))

/-- Steps 4 to 6 of R120. -/
def steerByGamma (s : State) (v : Valve) (gamma : Int) : State :=
  let s := addMeasurement s (valveGroup v) gamma
  if gamma < 0 then declareFailure s (valveGroup v)
  else
    let gMin := gammaMinEff s.tbs.limits s.olp.ac
    if gamma < gMin then raiseCorrection s (valveBridge v) (gMin - gamma)
    else decayCorrection s (valveBridge v)

/-- An on-time measurement (R120). -/
def onTimeMeasurement (s : State) (v : Valve) (gamma : Int) : State :=
  let s := writeGamma (s.setPending v none) v gamma false
  if firingState s.groups[valveGroup v].state then steerByGamma s v gamma else s

/-- A late measurement (R124). -/
def lateMeasurement (s : State) (v : Valve) (gamma : Int) : State :=
  writeGamma (s.setPending v none) v gamma true

/-- An extinction report of a valve's station, taken from a frame of direction `d` (R119). -/
def extinctionReport (s : State) (v : Valve) (d : Half) (seq : Byte) (localStamp : Time) : State :=
  match s.exm.pendings[v] with
  | none => s.countDiscard
  | some p =>
    if p.seq = seq then
      let gamma := measuredGamma s p.reversal (addTb localStamp (valveDelay s v d))
      if p.expired then lateMeasurement s v gamma else onTimeMeasurement s v gamma
    else s.countDiscard

/-- The clamp of a Limits Table commit (R127). -/
def clampToLimits (s : State) : State :=
  s.setExm { s.exm with
      correction := mapVec (fun c => min c s.tbs.limits.cMax) s.exm.correction
      recovery := mapVec (fun r => min r s.tbs.limits.nCf) s.exm.recovery }

/-- The EXM's warm-restart values (R131). -/
def restartExm (s : State) : State :=
  s.setExm { s.exm with
      pendings := fill 24 none
      correction := fill 4 0
      recovery := fill 2 0
      repeats := fill 2 0
      windows := fill 2 [] }

end Sys2Proof.Machine
end

