-- ==== Sys2Proof/Machine/Outcomes.lean ====
section
/-! DEFINITION. From acknowledgement to outcome at the Fire Schedule (R63 to R74): the record
events, and what a removed record hands to the other blocks (R68). -/

namespace Sys2Proof.Machine

/-! ## Outcome (R68) -/

/-- Step 3 of R68: a NORMAL record that fired opens a pending extinction. -/
def openIfMeasured (s : State) (r : FireRecord) (o : RecordOutcome) : State :=
  match r.body with
  | .normal n =>
    if o = .fired then openExtinction s r.valve (r.seq.getD 0#8) n.reversal else s
  | .start => s
  | .bypass => s
  | .test => s

/-- Notices are handed to the Group Controller one after the other. -/
def giveNotices (s : State) (ns : Notices) : State :=
  ns.foldl (fun s e => groupEvent s e.1 e.2) s

/-- A record reaches a terminal state outside a decision of the Group Controller: it is removed and
its outcome is handed on, steps 1 to 6 of R68. -/
def finish (s : State) (r : FireRecord) (o : RecordOutcome) : State :=
  let s := closeRecord s r o
  let ns := noticesOf s r o
  retryWaiting (giveNotices (openIfMeasured s r o) ns) r.valve

/-! ## Instants of a record (R58, R65, R67, R72, R73) -/

/-- The lateness instant marks the record: it is a DISPATCHED NORMAL or START record, not yet LATE,
of a STAMPED station (R65). -/
def marksLate (s : State) (r : FireRecord) : Bool :=
  decide (r.state = .dispatched) && r.isRegular && !r.late && valveStamped s r.valve

/-- A record once its lateness instant has been taken (R65). -/
def afterLateness (s : State) (r : FireRecord) : FireRecord :=
  { r with latenessAt := none, late := r.late || marksLate s r }

/-- The lateness instant of a record is taken (R65); it passes with no effect unless it marks the
record. -/
def latenessEvent (s : State) (r : FireRecord) : State :=
  let s' := s.putRecord r (afterLateness s r)
  if marksLate s r then s'.countFireLate else s'

/-- The confirm instant of a record is taken (R67, R70). -/
def confirmEvent (s : State) (r : FireRecord) : State :=
  match r.state with
  | .planned =>
    finish (if r.isRegular then s.countFireMissed.setFlag .fireMissed else s) r .missed
  | .dispatched =>
    finish (if r.isRegular then s.countFireMissed.setFlag .fireMissed else s) r .missed
  | .armed =>
    finish (if r.isRegular then s.countFireMissed.setFlag .fireMissed else s) r .missed
  | .cancelling => finish s.countUnconfirmed r (.cancelled true)
  | .holding => s.putRecord r { r with confirmAt := none }
  | .releasing => s.putRecord r { r with confirmAt := none }

/-- The hold instant of a BYPASS record is taken (R72): ARMED becomes HOLDING. -/
def holdEvent (s : State) (r : FireRecord) : State :=
  s.putRecord r { r with
    holdAt := none
    state := if r.state = .armed then .holding else r.state }

/-- The release timeout of a BYPASS record is taken (R73). -/
def releaseTimeoutEvent (s : State) (r : FireRecord) : State :=
  if r.state = .releasing then finish s.countUnconfirmed r (.released true)
  else s.putRecord r { r with releaseAt := none }

/-- The first live record of a valve, in schedule order, one of whose instants has been reached. -/
def dueRecord (s : State) (v : Valve) (instant : FireRecord → Option Time) : Option FireRecord :=
  s.fsc.records.find? fun r => decide (r.valve = v) && s.reached (instant r)

/-- The event of a record instant of a valve is taken when it has been reached (R7, R58); with no
such instant nothing happens (log entry 2). -/
def takeInstant (s : State) (v : Valve) (instant : FireRecord → Option Time)
    (event : State → FireRecord → State) : State :=
  match dueRecord s v instant with
  | none => s
  | some r => event s r

/-- The confirm instant of a record, taken at arming if it has passed (R7). -/
def confirmAtArming (s : State) (r : FireRecord) : State :=
  if s.reached r.confirmAt then confirmEvent s r else s

/-- A record is placed, and those of its instants that have passed are taken at arming, the
earlier one first (R7, R58). -/
def placeRecord (s : State) (r : FireRecord) : State :=
  if s.reached r.latenessAt then
    confirmAtArming (latenessEvent (s.addRecord r) r) (afterLateness (s.addRecord r) r)
  else confirmAtArming (s.addRecord r) r

/-! ## What the station reports (R63, R64, R66) -/

/-- The live record of a valve that carries a fire sequence number (R63). -/
def matchRecord (s : State) (v : Valve) (seq : Byte) : Option FireRecord :=
  s.fsc.records.find? fun r => decide (r.valve = v) && decide (r.seq = some seq)

/-- The slot of cycle `n` may carry the ack of the first CANCEL or RELEASE entry: `n` is the
first-cancel cycle or a later one (R64, R80). -/
def afterFirstCancel (r : FireRecord) (n : BitVec 16) : Bool :=
  match r.firstCancel with
  | none => false
  | some c => decide ((n - c).toNat ≤ 32767)

/-- An acknowledgement that matches a record (R64, R70, R73). A BYPASS record acknowledged at the count
of its due time, before its hold instant is taken, is HOLDING at once, by R64 with R6; R72 says ARMED
until the instant (log entry 36, DESIGN CHOICE). -/
def ackEvent (s : State) (r : FireRecord) (n : BitVec 16) : State :=
  match r.state with
  | .dispatched =>
    s.putRecord r { r with
      state := if r.isBypass && passed s.now r.due then .holding else .armed }
  | .cancelling => if afterFirstCancel r n then finish s r (.cancelled false) else s
  | .releasing => if afterFirstCancel r n then finish s r (.released false) else s
  | .planned => s
  | .armed => s
  | .holding => s

/-- An acknowledgement from the slot of a valve's station in cycle `n` (R63, R64). -/
def takeAck (v : Valve) (n : BitVec 16) (s : State) (seq : Byte) : State :=
  match matchRecord s v seq with
  | none => s
  | some r => ackEvent s r n

/-- The fired stamp of a record differs from its due time by more than the timing tolerance, at a
STAMPED station (R66). -/
def deviates (s : State) (r : FireRecord) (stamp : Time) : Bool :=
  valveStamped s r.valve &&
    decide (s.tbs.ring.timingTolerance < (signedDiff r.due stamp).natAbs)

/-- A fired report that matches a record, with its stamp in master time (R66, R70). -/
def firedEvent (s : State) (r : FireRecord) (stamp : Time) : State :=
  let s := if deviates s r stamp then s.countTimingDeviation else s
  let r' := { r with firedStamp := some stamp }
  let s := s.putRecord r r'
  if r.isBypass then s else finish s r' .fired

/-- A fired report from the slot of a valve's station, in a frame of direction `d` (R63, R66). -/
def takeFired (v : Valve) (d : Half) (s : State) (report : Byte × Time) : State :=
  match matchRecord s v report.1 with
  | none => s
  | some r => firedEvent s r (addTb report.2 (valveDelay s v d))

/-! ## Test records (R74) -/

/-- A TEST record is placed (R74). -/
def placeTest (s : State) (v : Valve) : State :=
  placeRecord s (newTest s.tbs.ring v s.placingDue (holdWidth s.pru.period))

/-- The FSC's warm-restart values (R77); the counters and the valves' records stay. -/
def restartFsc (s : State) : State :=
  s.setFsc { s.fsc with
      records := []
      nextSeq := fill 24 0#8
      waiting := fill 24 false
      lastFired := fill 4 none
      decisionCount := 0#32 }

end Sys2Proof.Machine
end

