-- ==== Sys2Proof/Machine/Planning.lean ====
section
/-! DEFINITION. Planning at the Firing Angle Calculator (R34 to R37, R44, R46): planning instants,
the planning of a valve, and the records it places. -/

namespace Sys2Proof.Machine

/-! ## One planning (R36 to R44) -/

/-- Planning runs: the group is DEBLOCKING or RUNNING and the lock state LOCKED or HOLDOVER (R36). -/
def planningRuns (s : State) (g : Group) : Bool :=
  firingState s.groups[g].state &&
    (decide (s.pru.lock = .locked) || decide (s.pru.lock = .holdover))

/-- The rate-limit reference: none when the group's first-firing indication is set (R42, R44). -/
def rateReference (s : State) (g : Group) : Option Int :=
  if s.fac.firstFiring[g] then none else s.fac.alphaLast[g]

/-- The planning inputs of a valve as read now, with its target cycle start (R37, R44). -/
def planInputs (s : State) (v : Valve) (target : Time) : PlanInputs :=
  let lt := s.tbs.limits
  let band := voltageBand s.olp.order.voltage
  { alphaOrd := s.olp.order.alpha
    current := s.olp.order.current
    band := band
    overlap := predictedOverlap s.tbs.overlap[band] s.olp.order.current
    alphaMin := lt.alphaMin
    alphaMax := lt.alphaMax
    deltaAlphaUp := lt.deltaAlphaUp
    gammaMinEff := gammaMinEff lt s.olp.ac
    rateReference := rateReference s (valveGroup v)
    target := target
    period := s.pru.period }

/-- The NORMAL record that a planning of the valve makes from its inputs and stages (R43, R44). -/
def plannedRecord (s : State) (v : Valve) (i : PlanInputs) (alpha : Int) : FireRecord :=
  let ph := phase s.tbs.converter v
  newNormal s.tbs.ring v (timeAt i.target (ph + alpha) i.period) (holdWidth i.period)
    ⟨timeAt i.target (ph + 18000) i.period, alpha, i⟩

/-- A record refused at planning (R44, R46). -/
def refuseRecord (s : State) : State := (s.setFlag .scheduleConflict).countScheduleConflict

/-- The start-pending indication of a bridge is cleared (R46). -/
def clearStartPending (s : State) (b : Bridge) : State :=
  s.setFac { s.fac with startPending := setAt s.fac.startPending b false }

/-- A START record is placed for a valve, or refused (R46). -/
def placeStart (s : State) (v : Valve) (due : Time) (hold : Nat) : State :=
  if s.hasRoom v then placeRecord s (newStart s.tbs.ring v due hold) else refuseRecord s

/-- The START record of a bridge whose start-pending indication is set (R46). -/
def issueStart (s : State) (v : Valve) (due : Time) (hold : Nat) : State :=
  if s.fac.startPending[valveBridge v] then
    placeStart (clearStartPending s (valveBridge v)) (predecessor v) due hold
  else s

/-- Steps 1 to 3 of R44. -/
def notePlanned (s : State) (g : Group) (alpha : Int) (limiting : Bool) : State :=
  s.setFac { s.fac with
      alphaLast := setAt s.fac.alphaLast g (some alpha)
      firstFiring := setAt s.fac.firstFiring g false
      gammaLimiting := setAt s.fac.gammaLimiting g limiting }

/-- A NORMAL record is placed, and steps 1 to 5 of R44 follow. -/
def placeNormal (s : State) (v : Valve) (i : PlanInputs) (x : StageResult) : State :=
  let r := plannedRecord s v i x.alphaEff
  let s := notePlanned (placeRecord s r) (valveGroup v) x.alphaEff x.limiting
  issueStart (planningNotice s (valveGroup v)) v r.due (holdWidth i.period)

/-- A NORMAL record is offered to the Fire Schedule: placed, or refused (R44). -/
def offerNormal (s : State) (v : Valve) (i : PlanInputs) (x : StageResult) : State :=
  if s.hasRoom v then placeNormal s v i x else refuseRecord s

/-- A planning that runs (R37 to R44). -/
def planValve (s : State) (v : Valve) (target : Time) : State :=
  let i := planInputs s v target
  let x := revisedStages s v i
  offerNormal (noteFloor s x) v i x

/-- A planning instant is taken: it plans, or passes without a record (R36). -/
def planningEvent (s : State) (v : Valve) (target : Time) : State :=
  if planningRuns s (valveGroup v) then planValve s v target else s

/-- The planning instant armed for a valve is taken and disarmed. -/
def takePlanning (s : State) (v : Valve) : State :=
  match s.fac.plannings[v] with
  | none => s
  | some p => planningEvent (s.setPlanning v none) v p.target

/-! ## Planning instants (R34, R35) -/

/-- The planning instant of a valve for a cycle that begins at `t0` with period `p` (R34). -/
def planningOf (ct : ConverterTable) (t0 : Time) (p : Nat) (v : Valve) : Planning :=
  let ph := phase ct v
  { time := timeAt t0 ((ph - Config.planningLeadCd) % Config.cycleCd) p
    target := if Config.planningLeadCd ≤ ph then t0 else addTb t0 p }

/-- The valves whose planning instant satisfies `sel`, in the order of their times; equal times in
valve order (R34; log entry 7). -/
def planningOrder (s : State) (sel : Planning → Bool) : List Valve :=
  let armed := (List.finRange 24).filterMap fun v =>
    match s.fac.plannings[v] with
    | none => none
    | some p => if sel p then some (v, p.time) else none
  (sortBy (fun a b => before a.2 b.2) armed).map Prod.fst

/-- The selected planning instants are taken, in their order. -/
def takePlannings (s : State) (sel : Planning → Bool) : State :=
  (planningOrder s sel).foldl takePlanning s

/-- The 24 planning instants of a cycle are armed (R34). -/
def setPlannings (s : State) (t0 : Time) (p : Nat) : State :=
  s.setFac { s.fac with
      plannings := Vector.ofFn fun v => some (planningOf s.tbs.converter t0 p v) }

/-- A cycle marker is handed over (R34): instants still armed from the marker before are taken
first, then the 24 new ones are armed, and those that have passed are taken at arming. -/
def armPlannings (s : State) (t0 : Time) (p : Nat) : State :=
  takePlannings (setPlannings (takePlannings s fun _ => true) t0 p) fun q => passed s.now q.time

/-- Every planning instant is disarmed, without being taken (R35). -/
def disarmPlannings (s : State) : State :=
  s.setFac { s.fac with plannings := fill 24 none }

/-- The FAC's warm-restart values (R53). -/
def restartFac (s : State) : State :=
  s.setFac { s.fac with
      plannings := fill 24 none
      firstFiring := fill 2 false
      startPending := fill 4 false
      gammaLimiting := fill 2 false }

end Sys2Proof.Machine
end

