-- ==== Sys2Proof/Machine/Phase.lean ====
section
/-! DEFINITION. The Phase Reference Unit (R15 to R33): captures, the phase and period update, the
lock states, the cycle marker and the frequency report. -/

namespace Sys2Proof.Machine

/-! ## Lock state (R26, R27) -/

/-- A change of the lock state sets LOCK_CHANGE and is handed to both groups; `lost` for a
lock-lost event (R26, R27, R142). An unchanged state hands nothing. -/
def setLock (s : State) (x : LockState) (lost : Bool) : State :=
  if s.pru.lock = x then s
  else bothGroups ((s.setPru { s.pru with lock := x }).setFlag .lockChange) (.lockChange lost)

/-- What entry to UNLOCKED does to the unit's own state (R26). -/
def clearLock (p : Pru) : Pru :=
  { p with marker := none, watch := none, acquisition := 0, rejectRun := 0, holdover := 0 }

/-- Entry to UNLOCKED by the unit's own rules (R26). -/
def loseLock (s : State) : State := setLock (s.setPru (clearLock s.pru)) .unlocked true

/-! ## The cycle marker (R28) -/

/-- The marker is armed at T0 + P. -/
def armMarker (s : State) : State :=
  s.setPru { s.pru with marker := some (addTb s.pru.origin s.pru.period) }

/-- Steps 1 and 2 of R28: T0 steps on by P, and in HOLDOVER the holdover count adds 1. -/
def stepOrigin (p : Pru) : Pru :=
  { p with
    origin := addTb p.origin p.period
    marker := none
    holdover := if p.lock = .holdover then p.holdover + 1 else p.holdover }

/-- The holdover count of a unit in HOLDOVER has reached the holdover limit (R25, R28). -/
def holdoverSpent (ct : ConverterTable) (p : Pru) : Bool :=
  decide (p.lock = .holdover) && decide (ct.holdoverLimit ≤ p.holdover)

/-- One cycle marker event, up to its re-arming (R28). -/
def markerEvent (s : State) : State :=
  let s := s.setPru (stepOrigin s.pru)
  if holdoverSpent s.tbs.converter s.pru then loseLock s
  else armMarker (armPlannings s s.pru.origin s.pru.period)

/-- Marker events while the armed marker has been reached (R7, R28). The marker moves on by P at
each, so fewer than 2^32 / P_min events follow one another; `fuel` is above that. -/
def runMarkers : Nat → State → State
  | 0, s => s
  | fuel + 1, s => if s.reached s.pru.marker then runMarkers fuel (markerEvent s) else s

/-- Above 2^31 / P_min for either nominal frequency (R6, R11). -/
def markerFuel : Nat := 4096

/-- The marker is armed again at T0 + P, and taken at once if it has passed (R7, R19). -/
def rearmMarker (s : State) : State := runMarkers markerFuel (armMarker s)

/-! ## Captures (R16 to R25) -/

/-- The edge lies inside the line's holdoff (R16). -/
def heldOff (s : State) (line : Line) (t : Time) : Bool :=
  match s.pru.lastEdge[lineIndex line] with
  | none => false
  | some l => decide (((t - l).toNat : Int) <
      angleToTb s.tbs.converter.edgeHoldoff s.pru.period)

/-- The predicted time of a capture with edge index `j` (R17). -/
def predictedTime (p : Pru) (j : Nat) (t : Time) : Time :=
  if j = 0 then
    if 2 * signedDiff p.origin t < p.period then p.origin else addTb p.origin p.period
  else timeAt p.origin (j * Config.stepCd : Nat) p.period

/-- The phase error e (R17). -/
def phaseError (p : Pru) (j : Nat) (t : Time) : Int := signedDiff (predictedTime p j t) t

/-- A window of the Converter Table in tb (R17). -/
def windowTb (p : Pru) (window : Nat) : Int := angleToTb window p.period

/-- Kp' of a lock state (R19). -/
def gainP (ct : ConverterTable) : LockState → Nat
  | .acquiring => min (4 * ct.kp) 256
  | .unlocked => ct.kp
  | .locked => ct.kp
  | .holdover => ct.kp

/-- Ki' of a lock state (R19). -/
def gainI (ct : ConverterTable) : LockState → Nat
  | .acquiring => 4 * ct.ki
  | .unlocked => ct.ki
  | .locked => ct.ki
  | .holdover => ct.ki

/-- A period held to P_min..P_max (R19). -/
def clampPeriod (ct : ConverterTable) (p : Int) : Nat :=
  (max (ct.periodMin : Int) (min (ct.periodMax : Int) p)).toNat

/-- The phase and period update for a phase error, with the gains of the lock state (R19). -/
def updateModel (ct : ConverterTable) (p : Pru) (e : Int) : Pru :=
  { p with
    origin := addTb p.origin (roundDiv (e * gainP ct p.lock) 256)
    period := clampPeriod ct (p.period + roundDiv (e * gainI ct p.lock) 4096) }

/-- A capture enters the history (R20). -/
def addHistory (c : Capture) (p : Pru) : Pru :=
  { p with history := pushLast Config.historyLength p.history c }

/-- The capture watch is armed from a capture (R23). -/
def armWatch (t : Time) (p : Pru) : Pru := { p with watch := some (timeAt t 18000 p.period) }

/-- The acquisition count and the reject run (R22). -/
def setCounts (acquisition rejectRun : Nat) (p : Pru) : Pru :=
  { p with acquisition := acquisition, rejectRun := rejectRun }

/-- The phase model that the first capture in UNLOCKED makes from itself alone (R21). -/
def initialModel (ct : ConverterTable) (j : Nat) (t : Time) (p : Pru) : Pru :=
  { p with
    period := ct.periodNominal
    origin := addTb t (-(angleToTb (j * Config.stepCd : Nat) ct.periodNominal)) }

/-- The first capture in UNLOCKED (R21). -/
def initialCapture (s : State) (j : Nat) (t : Time) : State :=
  let p := setCounts 0 0 (initialModel s.tbs.converter j t s.pru)
  rearmMarker
    (setLock (s.setPru (armWatch t (addHistory ⟨j, t, 0, .initial⟩ p))) .acquiring false)

/-- A rejected capture in ACQUIRING (R22). -/
def rejectAcquiring (s : State) : State :=
  let run := s.pru.rejectRun + 1
  let s := s.setPru (setCounts 0 run s.pru)
  if Config.rejectLimit ≤ run then loseLock s else s

/-- A rejected capture (R18, R22, R24, R25). -/
def rejectedCapture (s : State) (j : Nat) (t : Time) (e : Int) : State :=
  let s := (s.setPru (addHistory ⟨j, t, e, .rejected⟩ s.pru)).countGlitch
  if s.pru.lock = .acquiring then rejectAcquiring s else s

/-- An accepted capture in ACQUIRING inside the lock window (R22). -/
def acceptAcquiring (s : State) : State :=
  let n := s.pru.acquisition + 1
  let s := s.setPru (setCounts n 0 s.pru)
  if Config.acquisitionTarget ≤ n then setLock s .locked false else s

/-- What an accepted capture does to the lock state; `inside` the lock window or not
(R22, R24, R25). -/
def acceptedLock (s : State) (inside : Bool) : State :=
  match s.pru.lock, inside with
  | .acquiring, true => acceptAcquiring s
  | .acquiring, false => s.setPru (setCounts 0 0 s.pru)
  | .holdover, true => setLock s .locked false
  | .holdover, false => setLock (s.setPru (setCounts 0 0 s.pru)) .acquiring false
  | .locked, _ => s
  | .unlocked, _ => s

/-- An accepted capture (R18, R19, R22 to R25): history, update, watch, lock state, and last the
marker's new arming, whose event may follow at once (log entry 6). -/
def acceptedCapture (s : State) (j : Nat) (t : Time) (e : Int) : State :=
  let inside := decide ((e.natAbs : Int) ≤ windowTb s.pru s.tbs.converter.lockWindow)
  let p := updateModel s.tbs.converter (addHistory ⟨j, t, e, .accepted⟩ s.pru) e
  rearmMarker (acceptedLock (s.setPru (armWatch t p)) inside)

/-- A capture (R15 to R18). -/
def capture (s : State) (j : Nat) (t : Time) : State :=
  if s.pru.lock = .unlocked then initialCapture s j t
  else
    let e := phaseError s.pru j t
    if windowTb s.pru s.tbs.converter.captureWindow < (e.natAbs : Int) then
      rejectedCapture s j t e
    else acceptedCapture s j t e

/-- An edge: ignored inside the holdoff, otherwise a capture (R16). -/
def takeEdge (s : State) (line : Line) (rising : Bool) : State :=
  if heldOff s line s.now then s.countGlitch
  else
    capture
      (s.setPru { s.pru with lastEdge := setAt s.pru.lastEdge (lineIndex line) (some s.now) })
      (edgeIndex line rising) s.now

/-- Expiry of the capture watch (R23). -/
def watchEvent (s : State) : State :=
  let s := s.setPru { s.pru with watch := none }
  match s.pru.lock with
  | .locked => setLock (s.setPru { s.pru with holdover := 0 }) .holdover false
  | .acquiring => loseLock s
  | .unlocked => s
  | .holdover => s

/-! ## Restart and report (R30, R33) -/

/-- What a restart does to the unit's own state, but for the lock state (R33). -/
def restartedModel (ct : ConverterTable) (p : Pru) : Pru :=
  { clearLock p with
    period := ct.periodNominal, origin := 0#32, lastEdge := fill 3 none, history := [] }

/-- The unit restarts: warm restart and Converter Table commit (R33). -/
def restartPru (s : State) : State :=
  setLock (s.setPru (restartedModel s.tbs.converter s.pru)) .unlocked false

/-- The reported frequency in mHz, 0 in UNLOCKED (R11, R30). -/
def frequency (p : Pru) : Nat :=
  if p.lock = .unlocked then 0 else (roundDiv 40000000000 p.period).toNat

end Sys2Proof.Machine
end

