-- ==== Sys2Proof/Machine/Frames.lean ====
section
/-! DEFINITION. The frames of the Valve Ring (Tables 12-7 and 12-8, R183, R185): the bytes of a CYCLE
frame as sent, and the reading of a frame that has come back. -/

namespace Sys2Proof.Machine

/-! ## Sending -/

/-- The code of a half marker: F 1, R 2, PROBE 3 (Table 12-7). -/
def Marker.code : Marker → Nat
  | .f => 1
  | .r => 2
  | .probe => 3

/-- The code of a control item kind (Table 12-7). -/
def ItemKind.code : ItemKind → Nat
  | .enrollAck => 1
  | .levelResync => 2
  | .loopClear => 3

/-- The code of a fire entry kind (Table 12-7). -/
def EntryKind.code : EntryKind → Nat
  | .fire => 1
  | .start => 2
  | .bypass => 3
  | .test => 4
  | .cancel => 5
  | .release => 6

/-- A control item in a frame (Table 12-7). -/
def itemBytes (i : RingPos × ItemKind) : List Byte := beBytes 1 (i.1.val + 1) ++ beBytes 1 i.2.code

/-- A fire entry in a frame (Table 12-7). -/
def entryBytes (e : FireEntry) : List Byte :=
  beBytes 1 (e.pos.val + 1) ++ beBytes 1 e.kind.code ++ [e.seq] ++
    beBytes 4 e.localDue.toNat ++ beBytes 2 e.hold

/-- The bytes of a frame before its header CRC (Table 12-7). -/
def CycleFrame.header (f : CycleFrame) : List Byte :=
  beBytes 2 f.number.toNat ++ beBytes 4 f.stamp.toNat ++ beBytes 1 f.marker.code ++
    beBytes 1 f.items.length ++ beBytes 1 f.entries.length ++
    f.items.flatMap itemBytes ++ f.entries.flatMap entryBytes

/-- A return slot as sent: kind EMPTY and every other byte 0 (R185). -/
def emptySlotBytes : List Byte := List.replicate Config.slotBytes 0#8

/-- A CYCLE frame as sent (Table 12-7, R185). -/
def CycleFrame.bytes (f : CycleFrame) : List Byte :=
  f.header ++ crcBytes f.header ++ (List.replicate 24 emptySlotBytes).flatten

/-! ## Reading a return slot (R85, R185) -/

/-- The content of a good RUN slot (R85). -/
structure RunSlot where
  status : RunStatus
  conduction : Conduction
  acks : List Byte
  fired : List (Byte × Time)
  extinction : Option (Byte × Time)
  changes : List (Nat × LevelReport)
  deriving DecidableEq, Repr

/-- The content of a good slot. -/
inductive SlotBody where
  | ident (i : Ident)
  | run (r : RunSlot)
  deriving DecidableEq, Repr

/-- A slot of a returned frame: empty, bad, or good with its line-error and turned flags (R85). -/
inductive Slot where
  | empty
  | bad
  | good (lineError turned : Bool) (body : SlotBody)
  deriving DecidableEq, Repr

/-- Byte `i` of a slot. -/
def slotByte (bs : List Byte) (i : Nat) : Byte := bs.getD i 0#8

/-- `w` bytes of a slot from byte `i`, as a number. -/
def slotNat (bs : List Byte) (i w : Nat) : Nat := beNat ((bs.drop i).take w)

/-- A sequence number and a local stamp from byte `i` of a slot. -/
def slotReport (bs : List Byte) (i : Nat) : Byte × Time :=
  (slotByte bs i, BitVec.ofNat 32 (slotNat bs (i + 1) 4))

/-- The new state a code names (Table 12-8). -/
def levelReportOf (b : Byte) : Option LevelReport :=
  match b.toNat with
  | 1 => some .short
  | 2 => some .noResponse
  | 3 => some .ok
  | 4 => some .protFired
  | _ => none

/-- The first `n` level changes from byte `i` of a slot; `none` when one of them has a code outside
the four (R185). -/
def slotChanges (bs : List Byte) : Nat → Nat → Option (List (Nat × LevelReport))
  | 0, _ => some []
  | n + 1, i =>
    match levelReportOf (slotByte bs (i + 1)), slotChanges bs n (i + 2) with
    | some l, some rest => some (((slotByte bs i).toNat, l) :: rest)
    | _, _ => none

/-- The content of an IDENT slot whose CRC checks (Table 12-8). -/
def identOf (bs : List Byte) : Ident where
  identity := BitVec.ofNat 32 (slotNat bs 3 4)
  levels := (slotByte bs 7).toNat
  stamped := (slotByte bs 1).getLsbD 1

/-- The content of a RUN slot whose CRC checks; `none` when a count or a code lies outside its
values (Table 12-8, R185). -/
def runOf (bs : List Byte) : Option RunSlot :=
  let flags := slotByte bs 1
  let counts := (slotByte bs 2).toNat
  let acks := counts % 4
  let fired := counts / 4 % 4
  let changes := counts / 32
  match slotChanges bs changes 20 with
  | none => none
  | some cs =>
    if acks ≤ 2 ∧ fired ≤ 2 ∧ changes ≤ 4 then
      some {
        status := if flags.getLsbD 2 then .notReady else .ready
        conduction := if flags.getLsbD 3 then .conducting else .blocking
        acks := [slotByte bs 3, slotByte bs 4].take acks
        fired := [slotReport bs 5, slotReport bs 10].take fired
        extinction := if counts / 16 % 2 = 1 then some (slotReport bs 15) else none
        changes := cs }
    else none

/-- The CRC of a slot checks: it covers the bytes before its last two (R183). -/
def slotCrcOk (bs : List Byte) : Bool :=
  decide (bs.drop (Config.slotBytes - 2) = crcBytes (bs.take (Config.slotBytes - 2)))

/-- A slot of a timely intact return is judged (R185). -/
def judgeSlot (bs : List Byte) : Slot :=
  match (slotByte bs 0).toNat with
  | 0 => .empty
  | 1 =>
    if slotCrcOk bs then
      .good ((slotByte bs 1).getLsbD 0) ((slotByte bs 1).getLsbD 2) (.ident (identOf bs))
    else .bad
  | 2 =>
    if slotCrcOk bs then
      match runOf bs with
      | none => .bad
      | some r => .good ((slotByte bs 1).getLsbD 0) ((slotByte bs 1).getLsbD 1) (.run r)
    else .bad
  | _ => .bad

/-! ## Reading a frame (R86, R185) -/

/-- What the bytes of an arriving frame are before its cycle number and marker are weighed. -/
inductive Arrival where
  /-- it ends short of its length -/
  | abort
  /-- its header CRC fails, or its counts exceed 4 and 8 -/
  | crc
  /-- complete, with a good header; `marker` is none for a code that is no marker -/
  | complete (number : BitVec 16) (marker : Option Marker) (slots : List (List Byte))
  deriving DecidableEq, Repr

/-- The marker a code names (Table 12-7). -/
def markerOf (b : Byte) : Option Marker :=
  match b.toNat with
  | 1 => some .f
  | 2 => some .r
  | 3 => some .probe
  | _ => none

/-- The first `n` slots of the bytes after a header. -/
def slotsOf : Nat → List Byte → List (List Byte)
  | 0, _ => []
  | n + 1, bs => bs.take Config.slotBytes :: slotsOf n (bs.drop Config.slotBytes)

/-- The bytes of an arriving frame are read (R86, R185). Bytes beyond the frame's length are not
read (log entry 12). -/
def readFrame (bs : List Byte) : Arrival :=
  let c := (slotByte bs 7).toNat
  let e := (slotByte bs 8).toNat
  let h := 9 + 2 * c + 9 * e
  if bs.length < 9 then .abort
  else if 4 < c ∨ 8 < e then .crc
  else if bs.length < h + 2 + 24 * Config.slotBytes then .abort
  else if (bs.drop h).take 2 ≠ crcBytes (bs.take h) then .crc
  else
    .complete (BitVec.ofNat 16 (slotNat bs 0 2)) (markerOf (slotByte bs 6))
      (slotsOf 24 (bs.drop (h + 2)))

end Sys2Proof.Machine
end

