-- ==== Sys2Proof/Machine/Arbiter.lean ====
section
/-! DEFINITION. Dispatch of fire records (R59 to R62, R83, R93): which positions can take entries,
which records are eligible, the arbiter's eight places, first dispatch, and the entries built. -/

namespace Sys2Proof.Machine

/-! ## Positions (R93) -/

/-- The direction by which this cycle's frame reaches a position; none when the status serves it by
neither (R83, R93). -/
def entryDirection (s : State) (p : RingPos) : Option Half :=
  match s.rgm.link with
  | .forward => some .f
  | .reverse => some .r
  | .loopbackBoth => s.rgm.stations[p].member
  | .loopbackF => if s.rgm.stations[p].member = some .f then some .f else none
  | .loopbackR => if s.rgm.stations[p].member = some .r then some .r else none
  | .stopped => none
  | .down => none

/-- A ring position can take entries (R93). -/
def canTakeEntries (s : State) (p : RingPos) : Bool :=
  decide (s.rgm.stations[p].state = .enrolled) && (entryDirection s p).isSome

/-- The path delay this cycle's frame will have to a position (R83, R93). -/
def entryDelay (s : State) (p : RingPos) : Nat :=
  match entryDirection s p with
  | none => 0
  | some d => pathDelay s p d

/-! ## Eligibility (R59) -/

/-- A STAMPED record's window in a cycle starting at `start` (Table 4-5). -/
def stampedWindow (rt : RingTable) (due : Time) (pd : Nat) (start : Time) : Bool :=
  !before start (addTb due (-(pd + rt.dispatchHorizon : Int))) &&
    before start (latenessOf rt due)

/-- A COARSE record's one cycle (Table 4-5). -/
def coarseWindow (rt : RingTable) (due : Time) (pd : Nat) (start : Time) : Bool :=
  atOrBefore start (addTb due (-(pd : Int))) &&
    before (addTb due (-(pd : Int))) (addTb start rt.ringInterval)

/-- The condition of Table 4-5 for a record's kind and state. -/
def eligibleState (s : State) (r : FireRecord) (pd : Nat) (start : Time) : Bool :=
  match r.state with
  | .planned =>
    if valveStamped s r.valve then stampedWindow s.tbs.ring r.due pd start
    else coarseWindow s.tbs.ring r.due pd start
  | .dispatched =>
    if r.isRegular then
      if valveStamped s r.valve then stampedWindow s.tbs.ring r.due pd start
      else coarseWindow s.tbs.ring r.due pd start
    else true
  | .cancelling => true
  | .releasing => true
  | .armed => false
  | .holding => false

/-- A record is eligible in a cycle starting at `start` (R59). -/
def eligible (s : State) (start : Time) (r : FireRecord) : Bool :=
  match positionOf s r.valve with
  | none => false
  | some p => canTakeEntries s p && eligibleState s r (entryDelay s p) start

/-! ## The arbiter (R60, R61) -/

/-- A cancel or a release is being sent for the record. -/
def FireRecord.ending (r : FireRecord) : Bool :=
  decide (r.state = .cancelling) || decide (r.state = .releasing)

/-- One decision number is lower than another when it is before it (R69). -/
def lowerDecision (a b : FireRecord) : Bool :=
  before (a.decision.getD 0#32) (b.decision.getD 0#32)

/-- The candidates of a cycle in the arbiter's order: CANCEL and RELEASE entries by decision number,
then fire entries, each in schedule order (R61). -/
def candidates (s : State) (start : Time) : List FireRecord :=
  let es := s.fsc.records.filter (eligible s start)
  sortBy lowerDecision (es.filter FireRecord.ending) ++ es.filter fun r => !r.ending

/-- The fire sequence number a first dispatch takes: the position's next, or the one after it when
another live record of the valve carries that one (R60). -/
def seqTaken (s : State) (p : RingPos) (r : FireRecord) : Byte :=
  let n := s.fsc.nextSeq[p]
  if ((s.recordsOf r.valve).any fun x => decide (x.seq = some n)) then n + 1#8 else n

/-- The kind of the entry sent for a record (R62). -/
def entryKind (r : FireRecord) : EntryKind :=
  match r.state, r.body with
  | .cancelling, _ => .cancel
  | .releasing, _ => .release
  | _, .normal _ => .fire
  | _, .start => .start
  | _, .bypass => .bypass
  | _, .test => .test

/-- An entry of the same kind has been sent for the record before (R61). -/
def isResend (r : FireRecord) : Bool :=
  if r.ending then r.firstCancel.isSome else r.seq.isSome

/-- The record once an entry has been placed for it in cycle `n` (R60, R61). -/
def placedRecord (r : FireRecord) (seq : Byte) (n : BitVec 16) : FireRecord :=
  { r with
    seq := some seq
    state := if r.state = .planned then .dispatched else r.state
    firstCancel := if r.ending && r.firstCancel.isNone then some n else r.firstCancel }

/-- The hold an entry carries, in units of 16 tb; 0 where it carries none (R12, R62, R83). -/
def entryHold (r : FireRecord) : Nat :=
  if r.ending then 0
  else
    match r.hold with
    | none => 0
    | some h => (roundDiv h 16).toNat

/-- The fire entry built for a record at a position (R83). -/
def buildEntry (s : State) (p : RingPos) (r : FireRecord) (seq : Byte) : FireEntry where
  pos := p
  kind := entryKind r
  seq := seq
  localDue := addTb r.due (-(entryDelay s p : Int))
  hold := entryHold r

/-- A place is filled for a record at a position: first dispatch or resend (R60 to R62). -/
def placeEntryAt (s : State) (p : RingPos) (r : FireRecord) : State × FireEntry :=
  let seq := r.seq.getD (seqTaken s p r)
  let entry := buildEntry s p r seq
  let s := if isResend r then s.countRetry else s
  let s := if r.seq.isNone then
      s.setFsc { s.fsc with nextSeq := setAt s.fsc.nextSeq p (seq + 1#8) }
    else s
  (s.putRecord r (placedRecord r seq s.rgm.cycleNumber), entry)

/-- A place is filled for a record. -/
def placeEntry (x : State × List FireEntry) (r : FireRecord) : State × List FireEntry :=
  match positionOf x.1 r.valve with
  | none => x
  | some p =>
    let (s, e) := placeEntryAt x.1 p r
    (s, x.2 ++ [e])

/-- The eight entry places are filled (R61). -/
def fillEntries (s : State) : State × List FireEntry :=
  ((candidates s s.now).take Config.entryPlaces).foldl placeEntry (s, [])

end Sys2Proof.Machine
end

