-- ==== Sys2Proof/Machine/Levels.lean ====
section
/-! DEFINITION. The Level Monitor (R132 to R138): level changes, level states, clears, and the
records a Station Table commit makes. -/

namespace Sys2Proof.Machine

/-- The level state of a record (Table 8-2). -/
def levelStateOf (r : LevelRecord) : LevelState :=
  let n := r.failed.length
  if r.overflow then .overLimit
  else if r.redundancy < n then .overLimit
  else if n = 0 then .healthy
  else if n < r.redundancy then .degraded
  else .atLimit

/-- A failed level is entered at its place in ascending order (R134). -/
def insertLevel (n : Nat) (c : LevelCause) (xs : List (Nat × LevelCause)) :
    List (Nat × LevelCause) :=
  insertBy (fun a b => decide (a.1 < b.1)) (n, c) xs

/-- The cause the set holds for a level, if it is in the set. -/
def causeOf (r : LevelRecord) (n : Nat) : Option LevelCause :=
  (r.failed.find? fun x => decide (x.1 = n)).map Prod.snd

/-- A level reported failed (R134). -/
def reportFailed (r : LevelRecord) (n : Nat) (c : LevelCause) : LevelRecord :=
  match causeOf r n, c with
  | none, _ =>
    if r.failed.length < Config.failedLevelLimit then
      { r with failed := insertLevel n c r.failed }
    else { r with overflow := true }
  | some .noResponse, .short =>
    { r with failed := r.failed.map fun x => if x.1 = n then (n, .short) else x }
  | some .noResponse, .noResponse => r
  | some .short, _ => r

/-- A level reported OK: a NO_RESPONSE entry leaves the set (R135). -/
def reportOk (r : LevelRecord) (n : Nat) : LevelRecord :=
  match causeOf r n with
  | some .noResponse => { r with failed := r.failed.filter fun x => !decide (x.1 = n) }
  | some .short => r
  | none => r

/-- A level change in range (R134, R135). -/
def applyChange (r : LevelRecord) (n : Nat) : LevelReport → LevelRecord
  | .short => reportFailed r n .short
  | .noResponse => reportFailed r n .noResponse
  | .ok => reportOk r n
  | .protFired => { r with protective := satInc r.protective }

/-- A valve's record takes a new set, its state is evaluated, and a change of state has its flags
and events (R136, R137). `restored` says whether an exit from OVER_LIMIT hands a level-restored
event (R138). -/
def updateLevel (s : State) (v : Valve) (r : LevelRecord) (restored : Bool) : State :=
  let old := s.lvm.levels[v].state
  let new := levelStateOf r
  let s := s.setLevel v { r with state := new }
  if new = old then s
  else
    let s := s.setFlag .levelChange
    let s := if new = .atLimit ∨ new = .overLimit then s.setFlag .levelLimit else s
    if new = .overLimit then groupEvent s (valveGroup v) .levelLimit
    else if old = .overLimit ∧ restored then groupEvent s (valveGroup v) .levelRestored
    else s

/-- A level change of a RUN slot of the valve's station (R133). -/
def levelChange (v : Valve) (s : State) (change : Nat × LevelReport) : State :=
  let r := s.lvm.levels[v]
  if 1 ≤ change.1 ∧ change.1 ≤ r.installed then
    updateLevel s v (applyChange r change.1 change.2) true
  else s.countRangeError

/-- A record with its set emptied and its overflow indication cleared (R138). -/
def clearedRecord (r : LevelRecord) : LevelRecord := { r with failed := [], overflow := false }

/-- A clear of a valve's level record (R138). -/
def clearLevel (s : State) (v : Valve) (restored : Bool) : State :=
  updateLevel s v (clearedRecord s.lvm.levels[v]) restored

/-- A valve's record made anew from its Station Table row (R132, R138). -/
def remakeLevel (st : StationTable) (s : State) (v : Valve) : State :=
  match positionIn st v with
  | none => s
  | some p =>
    updateLevel s v
      { clearedRecord s.lvm.levels[v] with
        installed := st[p].levels, redundancy := st[p].redundancy } false

/-- Every record made anew at a Station Table commit (R132). -/
def remakeLevels (s : State) (st : StationTable) : State :=
  (List.finRange 24).foldl (remakeLevel st) s

end Sys2Proof.Machine
end

