-- ==== Sys2Proof/Machine/Enrolment.lean ====
section
/-! DEFINITION. Station enrolment (R104 to R114): what good slots do to the enrolment record, the
comparison, enrolment, and a station that leaves ENROLLED. -/

namespace Sys2Proof.Machine

/-- The cycle is an identity cycle of a position: its number modulo 32 is the position's number
(R104). -/
def identityCycle (p : RingPos) (n : BitVec 16) : Bool := decide (n.toNat % 32 = p.val + 1)

/-- A station leaves ENROLLED: its pending ENROLL_ACK and LEVEL_RESYNC items are removed
(R100, R112). -/
def removeEnrolItems (s : State) (p : RingPos) : State :=
  (s.removeItem p .enrollAck).removeItem p .levelResync

/-- The station-fault event for the valve of a position (R100, R103, R112). -/
def faultEvent (s : State) (p : RingPos) : State :=
  match rowAt s p with
  | none => s
  | some row => groupEvent s (valveGroup row.valve) .stationFault

/-! ## Joining (R106 to R108) -/

/-- The first good slot of an ABSENT position (R106). -/
def joinRecord (r : Station) (content : Option Ident) : Station :=
  { r with
    state := .enrolling
    age := 0#16
    stuck := false
    lastIdent := content
    consistent := if content.isSome then 1 else 0 }

/-- The identity test of R108. -/
def identityAgrees (row : StationRow) (i : Ident) : Bool :=
  decide (row.identity = 0#32) || decide (i.identity = row.identity)

/-- The levels test of R108. -/
def levelsAgree (row : StationRow) (i : Ident) : Bool := decide (i.levels = row.levels)

/-- The mismatch reason by which tests agree (R108). -/
def mismatchOf (idOk levelsOk : Bool) : MismatchReason :=
  match idOk, levelsOk with
  | true, true => .none
  | false, true => .identity
  | true, false => .levels
  | false, false => .identityAndLevels

/-- The station record of an enrolled station (R109, step 1); its status and conduction state are
absent until its first RUN slot (R101). -/
def enrolledRecord (r : Station) (i : Ident) : Station :=
  { r with
    state := .enrolled
    miss := 0
    timing := some (if i.stamped then .stamped else .coarse)
    enrolledIdent := some i
    age := 0#16
    stuck := false
    mismatch := .none
    runStatus := none
    conduction := none }

/-- A station is enrolled (R109). -/
def enrolStation (s : State) (p : RingPos) (row : StationRow) (i : Ident) : State :=
  let s := s.setStation p (enrolledRecord s.rgm.stations[p] i)
  let s := s.createItem p .enrollAck
  let s := (clearLevel s row.valve false).createItem p .levelResync
  groupEvent s (valveGroup row.valve) .stationEnrolled

/-- A failing comparison (R108). -/
def failComparison (s : State) (p : RingPos) (reason : MismatchReason) : State :=
  (s.setStation p { s.rgm.stations[p] with
    state := .mismatch, mismatch := reason, stuck := false }).setFlag .mismatch

/-- The comparison at a count of 3 (R108). -/
def compareIdent (s : State) (p : RingPos) (row : StationRow) (i : Ident) : State :=
  if identityAgrees row i && levelsAgree row i then enrolStation s p row i
  else failComparison s p (mismatchOf (identityAgrees row i) (levelsAgree row i))

/-- The consistent count that a content brings a position to (R107). -/
def identCount (r : Station) (i : Ident) : Nat :=
  if r.lastIdent = some i then r.consistent + 1 else 1

/-- A position with its last IDENT content and its consistent count (R107). -/
def setIdent (s : State) (p : RingPos) (i : Ident) (n : Nat) : State :=
  s.setStation p { s.rgm.stations[p] with lastIdent := some i, consistent := n }

/-- A good IDENT slot of a position in ENROLLING or MISMATCH (R107). -/
def countIdent (s : State) (p : RingPos) (row : StationRow) (i : Ident) : State :=
  if Config.consistentTarget ≤ identCount s.rgm.stations[p] i then
    compareIdent (setIdent s p i 0) p row i
  else setIdent s p i (identCount s.rgm.stations[p] i)

/-! ## IDENT slots of an ENROLLED station (R112) -/

/-- The station at the position is no longer the one enrolled (R112). -/
def changedIdentity (s : State) (p : RingPos) (i : Ident) : State :=
  let s := s.setStation p { s.rgm.stations[p] with
    state := .enrolling
    lastIdent := some i
    consistent := 1
    age := 0#16
    stuck := false
    timing := none
    enrolledIdent := none }
  faultEvent ((removeEnrolItems s p).setFlag .stationFault) p

/-- A good slot clears the station's miss count (R87, R99). -/
def clearMiss (s : State) (p : RingPos) : State :=
  s.setStation p { s.rgm.stations[p] with miss := 0 }

/-- A good IDENT slot of an ENROLLED position in cycle `n` (R112). -/
def identFromEnrolled (s : State) (p : RingPos) (n : BitVec 16) (i : Ident) : State :=
  if s.rgm.stations[p].enrolledIdent = some i then
    if identityCycle p n then clearMiss s p else (clearMiss s p).createItem p .enrollAck
  else changedIdentity (clearMiss s p) p i

/-! ## Enrolment of a slot (R106 to R112) -/

/-- A good IDENT slot, whatever the station's state (R87, R106, R107, R111, R112). -/
def takeIdent (s : State) (p : RingPos) (row : StationRow) (n : BitVec 16) (i : Ident) : State :=
  match s.rgm.stations[p].state with
  | .absent => s.setStation p (joinRecord s.rgm.stations[p] (some i))
  | .enrolling => countIdent s p row i
  | .mismatch => countIdent s p row i
  | .enrolled => identFromEnrolled s p n i
  | .faulty => s

/-- A good RUN slot of a station that is not ENROLLED (R106, R111); its reports are discarded. -/
def runNotEnrolled (s : State) (p : RingPos) : State :=
  if s.rgm.stations[p].state = .absent then
    s.setStation p (joinRecord s.rgm.stations[p] none)
  else s

/-! ## Ages and inhibits (R100, R113, R114) -/

/-- A FAULTY station whose inhibit count has reached 0 (R100, R114). -/
def rejoinRecord (r : Station) : Station :=
  { r with
    state := .enrolling
    miss := 0
    inhibit := 0
    lastIdent := none
    consistent := 0
    age := 0#16
    stuck := false
    mismatch := .none }

/-- Step 2 of a cycle start for one position: the inhibit count of a station that was FAULTY before
the close, and the enrolment age of one that is ENROLLING (R100, R113; log entry 11). -/
def stepStation (rt : RingTable) (wasFaulty : Bool) (r : Station) : Station :=
  match r.state with
  | .faulty =>
    if wasFaulty then
      if r.inhibit ≤ 1 then rejoinRecord r else { r with inhibit := r.inhibit - 1 }
    else r
  | .enrolling =>
    let age := satInc r.age
    { r with age := age, stuck := r.stuck || decide (rt.enrolTimeout ≤ age.toNat) }
  | .absent => r
  | .mismatch => r
  | .enrolled => r

end Sys2Proof.Machine
end

