-- ==== Sys2Proof/Machine/Ring.lean ====
section
/-! DEFINITION. The Ring Master (R79 to R103): ring cycles, frames that come back, closing a cycle,
link status, probes, statistics, misses and faults, and the ring restart. -/

namespace Sys2Proof.Machine

/-! ## Link status (R89 to R92) -/

/-- The status is a loopback status. -/
def LinkStatus.loopback : LinkStatus → Bool
  | .loopbackBoth => true
  | .loopbackF => true
  | .loopbackR => true
  | .stopped => false
  | .forward => false
  | .reverse => false
  | .down => false

/-- The pattern a status is sent in (Table 5-2); in DOWN the down pattern. -/
def sendPattern (s : State) : Pattern :=
  match s.rgm.link with
  | .reverse => .reverse
  | .loopbackBoth => .loopback
  | .loopbackF => .loopback
  | .loopbackR => .loopback
  | .down => s.rgm.downPattern.getD Pattern.forward
  | .forward => .forward
  | .stopped => .forward

/-- The loopback status the returned halves give (R90). -/
def halvesStatus (f r : Bool) : LinkStatus :=
  match f, r with
  | true, false => .loopbackF
  | false, true => .loopbackR
  | _, _ => .loopbackBoth

/-- The Ring Master's own values at a change of link status (R89, R94, R101). -/
def switchedLink (r : Rgm) (x : LinkStatus) : Rgm :=
  { r with
    link := x
    probeCount := if r.link = LinkStatus.forward then 0 else r.probeCount
    loopSwitches := satInc r.loopSwitches }

/-- A change of link status made at a close (R89, R94). -/
def changeLink (s : State) (x : LinkStatus) : State :=
  if s.rgm.link = x then s
  else bothGroups ((s.setRgm (switchedLink s.rgm x)).setFlag .ringChange) .ringStatus

/-- The down cause is noted, and the pattern in which cycles go on being sent (R90, R91). -/
def noteDown (s : State) (c : DownCause) : State :=
  s.setRgm { s.rgm with downCause := c, downPattern := some (sendPattern s) }

/-- The status becomes DOWN (R90, R91). -/
def goDown (s : State) (c : DownCause) : State := changeLink (noteDown s c) .down

/-- The down cause and the down pattern become none (R92, R94, R103). -/
def clearDown (s : State) : State :=
  s.setRgm { s.rgm with downCause := .none, downPattern := none }

def State.setRuns (s : State) (fail overrun : Nat) : State :=
  s.setRgm { s.rgm with failRun := fail, overrunRun := overrun }

/-! ## Closing a cycle (R88) -/

/-- The cycle had a timely intact return (R88). -/
def RingCycle.returned (c : RingCycle) : Bool := c.returnedF || c.returnedR

/-- A position was heard in the cycle (R87, R99). -/
def RingCycle.heard (c : RingCycle) (p : RingPos) : Bool := c.heardF[p] || c.heardR[p]

/-- A returned close (R88, R90, R92). -/
def closeReturned (s : State) (c : RingCycle) : State :=
  let s := s.setRuns 0 0
  let halves := halvesStatus c.returnedF c.returnedR
  match s.rgm.link with
  | .loopbackBoth => changeLink s halves
  | .loopbackF => changeLink s halves
  | .loopbackR => changeLink s halves
  | .down =>
    match s.rgm.downPattern with
    | some .forward => changeLink (clearDown s) .forward
    | some .reverse => changeLink (clearDown s) .reverse
    | some .loopback => changeLink (clearDown s) halves
    | none => s
  | .forward => s
  | .reverse => s
  | .stopped => s

/-- A late close (R88, R91). In DOWN it brings no change of status (R92), and a down cause LOOP_LOST and
the down pattern stand, although R91 holds "whatever that status was" (log entry 37,
DESIGN CHOICE). -/
def closeLate (s : State) : State :=
  let run := min Config.runLimit (s.rgm.overrunRun + 1)
  if s.tbs.ring.loopFailCount ≤ run ∧ s.rgm.link ≠ .down then
    goDown (s.setRuns s.rgm.failRun run) .intervalTooShort
  else s.setRuns s.rgm.failRun run

/-- What a fail run that has reached the loop fail count does to the link status (R89, R90). -/
def failLink (s : State) : State :=
  match s.rgm.link with
  | .forward => changeLink (s.setRuns 0 0) .reverse
  | .reverse => changeLink (s.setRuns 0 0) .loopbackBoth
  | .loopbackBoth => goDown s .loopLost
  | .loopbackF => goDown s .loopLost
  | .loopbackR => goDown s .loopLost
  | .down => s
  | .stopped => s

/-- A lost close (R88 to R90). -/
def closeLost (s : State) : State :=
  let run := min Config.runLimit (s.rgm.failRun + 1)
  if s.tbs.ring.loopFailCount ≤ run then failLink (s.setRuns run 0) else s.setRuns run 0

/-- The probe succeeds: it returned with a good slot from every ENROLLED station (R94). -/
def probeSucceeds (s : State) (c : RingCycle) : Bool :=
  c.returned && (List.finRange 24).all fun p =>
    !decide (s.rgm.stations[p].state = .enrolled) || c.heard p

/-- The close of a probe cycle (R94). -/
def closeProbe (s : State) (c : RingCycle) : State :=
  if probeSucceeds s c then changeLink (clearDown (s.setRuns 0 0)) .forward else s

/-- The membership of a position after the close of a cycle that is not a probe (R88). -/
def memberAfter (c : RingCycle) (p : RingPos) (old : Option Half) : Option Half :=
  match c.pattern with
  | .forward => if c.heardF[p] then some .f else old
  | .reverse => if c.heardR[p] then some .r else old
  | .loopback =>
    match c.heardF[p], c.heardR[p] with
    | true, false => some .f
    | false, true => some .r
    | _, _ => old

/-- The half memberships are updated (R88). -/
def updateMembers (s : State) (c : RingCycle) : State :=
  s.setRgm { s.rgm with
      stations := Vector.ofFn fun p =>
        { s.rgm.stations[p] with member := memberAfter c p s.rgm.stations[p].member } }

/-- A station becomes FAULTY (R100). -/
def faultStation (s : State) (p : RingPos) : State :=
  let s := s.setStation p { s.rgm.stations[p] with
    state := .faulty, inhibit := s.tbs.ring.inhibitInterval }
  faultEvent (removeEnrolItems (s.setFlag .stationFault) p) p

/-- The miss count of a station after one more miss (R99). -/
def missAfter (r : Station) : Nat := min 15 (r.miss + 1)

/-- A station misses a counted close (R99, R100). -/
def missStation (s : State) (p : RingPos) : State :=
  let n := missAfter s.rgm.stations[p]
  let s := s.setStation p { s.rgm.stations[p] with miss := n }
  if s.tbs.ring.stationTimeout ≤ n then faultStation s p else s

/-- One position at a counted close (R99). -/
def missOne (c : RingCycle) (s : State) (p : RingPos) : State :=
  if s.rgm.stations[p].state = .enrolled ∧ c.heard p = false then missStation s p else s

/-- Station misses at the close of a cycle that is not a probe: the cycle was returned, or the link
status after the close is DOWN (R99). The stations are taken by ascending position, so several that
reach the station timeout at one close become FAULTY, and hand their events over, in that order
(log entry 38, DESIGN CHOICE). -/
def countMisses (s : State) (c : RingCycle) : State :=
  if c.returned || decide (s.rgm.link = .down) then
    (List.finRange 24).foldl (missOne c) s
  else s

/-- A scan time sample (R96). -/
def sampleScan (s : State) (x : Nat) : State :=
  s.setRgm { s.rgm with
      scanCurrent := x
      scanMax := max s.rgm.scanMax x
      scanMin := if s.rgm.scanMin = 0 then x else min s.rgm.scanMin x }

/-- The scan time of a returned cycle (R96). -/
def closeScan (s : State) (c : RingCycle) : State :=
  match c.lastReturn, s.rgm.sendLatest with
  | some t, some sent => sampleScan s (t - sent).toNat
  | _, _ => s

/-- An item was placed in the cycle. -/
def RingCycle.carried (c : RingCycle) (p : RingPos) (k : ItemKind) : Bool :=
  c.frames.any fun f => f.items.any fun i => decide (i = (p, k))

/-- The items that end at the close (R82). -/
def endsAtClose (c : RingCycle) (i : ControlItem) : Bool :=
  match i.kind with
  | .levelResync => i.received
  | .loopClear => c.carried i.pos .loopClear && !c.heard i.pos
  | .enrollAck => false

def endItems (s : State) (c : RingCycle) : State :=
  s.setRgm { s.rgm with items := s.rgm.items.filter fun i => !endsAtClose c i }

/-- The close of a cycle that is not a probe: returned, late or lost (R88). -/
def judgeCycle (s : State) (c : RingCycle) : State :=
  if c.returned then closeReturned s c
  else if c.overrun then closeLate s
  else closeLost s

/-- The close of a cycle that is not a probe, up to the scan time (R88). -/
def closeRunning (s : State) (c : RingCycle) : State :=
  countMisses (updateMembers (judgeCycle s c) c) c

/-- Step 1 of a cycle start: the cycle before is closed, if there is one to close (R80, R88, R103). -/
def closeCycle (s : State) : State :=
  match s.rgm.cycle with
  | none => s
  | some c => endItems (closeScan (if c.probe then closeProbe s c else closeRunning s c) c) c

/-! ## Starting a cycle (R80 to R83, R94) -/

/-- Step 2: inhibit counts and enrolment ages; `wasFaulty` as before the close (R100, R113). -/
def stepStations (s : State) (wasFaulty : Vector Bool 24) : State :=
  s.setRgm { s.rgm with
      stations := Vector.ofFn fun p => stepStation s.tbs.ring wasFaulty[p] s.rgm.stations[p] }

/-- Step 3: the probe count, and whether this cycle is a probe (R94). -/
def stepProbe (s : State) : State × Bool :=
  if s.rgm.link = .forward then (s, false)
  else
    let n := s.rgm.probeCount + 1
    let probe := decide (s.tbs.ring.probeInterval ≤ n)
    (s.setRgm { s.rgm with probeCount := if probe then 0 else n }, probe)

/-- Step 5: the first four pending items (R82). -/
def placedItems (s : State) : List (RingPos × ItemKind) :=
  (s.rgm.items.take Config.itemPlaces).map fun i => (i.pos, i.kind)

/-- In the loopback pattern an item goes in the half of its position's membership, or in both
(R82). -/
def itemGoes (s : State) (h : Half) (i : RingPos × ItemKind) : Bool :=
  match s.rgm.stations[i.1].member with
  | none => true
  | some m => decide (m = h)

/-- The half an entry goes in (R83). -/
def entryGoes (s : State) (h : Half) (e : FireEntry) : Bool :=
  decide (entryDirection s e.pos = some h)

/-- Step 6: the frame or frames of a cycle starting now (R81, Table 5-2). -/
def buildFrames (s : State) (probe : Bool) (items : List (RingPos × ItemKind))
    (entries : List FireEntry) : List CycleFrame :=
  let n := s.rgm.cycleNumber
  if probe then [⟨.probe, n, s.now, [], []⟩]
  else
    match sendPattern s with
    | .forward => [⟨.f, n, s.now, items, entries⟩]
    | .reverse => [⟨.r, n, s.now, items, entries⟩]
    | .loopback =>
      [⟨.f, n, s.now, items.filter (itemGoes s .f), entries.filter (entryGoes s .f)⟩,
       ⟨.r, n, s.now, items.filter (itemGoes s .r), entries.filter (entryGoes s .r)⟩]

/-- The cycle is sent: its send time is kept, and the next cycle start is armed one ring interval
on (R80). -/
def sendCycle (s : State) (probe : Bool) (frames : List CycleFrame) : State :=
  s.setRgm { s.rgm with
      sendBefore := s.rgm.sendLatest
      sendLatest := some s.now
      cycleAt := some (s.after s.tbs.ring.ringInterval)
      cycle := some {
        probe := probe
        pattern := sendPattern s
        frames := frames
        returnedF := false
        returnedR := false
        overrun := false
        lastReturn := none
        heardF := fill 24 false
        heardR := fill 24 false } }

/-- The cycle number steps by 1 (R80). -/
def stepNumber (s : State) : State :=
  s.setRgm { s.rgm with cycleNumber := s.rgm.cycleNumber + 1#16 }

/-- Step 4: the entry places are filled, but for a probe (R61, R94). -/
def cycleEntries (s : State) (probe : Bool) : State × List FireEntry :=
  if probe then (s, []) else fillEntries s

/-- Step 5: the items placed; none in a probe (R82, R94). -/
def cycleItems (s : State) (probe : Bool) : List (RingPos × ItemKind) :=
  if probe then [] else placedItems s

/-- Steps 4 to 6 of a cycle start (R80). -/
def finishCycle (s : State) (probe : Bool) : State :=
  let (s, entries) := cycleEntries s probe
  sendCycle s probe (buildFrames s probe (cycleItems s probe) entries)

/-- Steps 3 to 6 of a cycle start (R80). -/
def runCycle (s : State) : State :=
  let (s, probe) := stepProbe (stepNumber s)
  finishCycle s probe

/-- A cycle start (R80). -/
def startCycle (s : State) : State :=
  let wasFaulty : Vector Bool 24 :=
    Vector.ofFn fun p => decide (s.rgm.stations[p].state = .faulty)
  runCycle (stepStations (closeCycle s) wasFaulty)

/-! ## Ring restart (R103, R117) -/

/-- The Ring Master's own values at a ring restart (R103, R117). -/
def clearRing (s : State) : State :=
  s.setRgm { s.rgm with
      link := if s.tbs.station.isSome then .forward else s.rgm.link
      stations := fill 24 Station.reset
      items := []
      loopErrF := fill 24 false
      loopErrR := fill 24 false
      failRun := 0
      overrunRun := 0
      probeCount := 0
      downCause := .none
      downPattern := none
      cycleAt := none
      cycle := none }

/-- The positions whose station is ENROLLED, ascending. -/
def enrolledPositions (s : State) : List RingPos :=
  (List.finRange 24).filter fun p => decide (s.rgm.stations[p].state = .enrolled)

/-- The status event of a ring restart, when the status differs from the one before (R103). -/
def announceLink (s : State) (old : LinkStatus) : State :=
  if s.rgm.link = old then s else bothGroups (s.setFlag .ringChange) .ringStatus

/-- The first cycle after a ring restart starts at once when an ST is active (R103). -/
def firstCycle (s : State) : State := if s.tbs.station.isSome then startCycle s else s

/-- A ring restart (R103): the station-fault events of the stations that leave ENROLLED, in position
order, the status event when the status differs, and the first cycle at once. -/
def ringRestart (s : State) : State :=
  firstCycle (announceLink ((enrolledPositions s).foldl faultEvent (clearRing s)) s.rgm.link)

/-! ## Slots of a timely intact return (R87) -/

/-- The direction a marker stands for (R87). -/
def Marker.direction : Marker → Half
  | .f => .f
  | .probe => .f
  | .r => .r

/-- The latest cycle changed, if there is one. -/
def State.mapCycle (s : State) (f : RingCycle → RingCycle) : State :=
  s.setRgm { s.rgm with cycle := s.rgm.cycle.map f }

/-- The position is heard in the direction of the frame (R87). -/
def markHeard (s : State) (p : RingPos) (d : Half) : State :=
  s.mapCycle fun c =>
    match d with
    | .f => { c with heardF := setAt c.heardF p true }
    | .r => { c with heardR := setAt c.heardR p true }

/-- The line-error flag of a good slot (R97). -/
def noteLineError (s : State) (p : RingPos) (d : Half) (flag : Bool) : State :=
  match d with
  | .f => s.setRgm { s.rgm with loopErrF := setAt s.rgm.loopErrF p flag }
  | .r => s.setRgm { s.rgm with loopErrR := setAt s.rgm.loopErrR p flag }

/-- The turned flag of a good slot and the LOOP_CLEAR item of its position (R82, R95). -/
def noteTurned (s : State) (p : RingPos) (m : Marker) (flag : Bool) : State :=
  if flag then
    if s.rgm.link = .forward ∨ s.rgm.link = .reverse ∨ m = .probe then s.createItem p .loopClear
    else s
  else s.removeItem p .loopClear

/-- The frame of the latest cycle with this marker carried a LEVEL_RESYNC item of the position
(R82). -/
def resyncCarried (s : State) (p : RingPos) (m : Marker) : Bool :=
  match s.rgm.cycle with
  | none => false
  | some c => c.frames.any fun f =>
      decide (f.marker = m) && f.items.any fun i => decide (i = (p, ItemKind.levelResync))

/-- The LEVEL_RESYNC item of a position, marked received. -/
def markReceived (p : RingPos) (i : ControlItem) : ControlItem :=
  if i.pos = p ∧ i.kind = .levelResync then { i with received := true } else i

/-- A LEVEL_RESYNC item of the position that the frame with this marker carried is marked received
(R82, R87). -/
def noteResync (s : State) (p : RingPos) (m : Marker) : State :=
  if resyncCarried s p m then s.setRgm { s.rgm with items := s.rgm.items.map (markReceived p) }
  else s

/-- The extinction report of a slot, if it carries one (R119). -/
def takeExtinction (v : Valve) (d : Half) (s : State) : Option (Byte × Time) → State
  | none => s
  | some x => extinctionReport s v d x.1 x.2

/-- The reports of a good RUN slot of an ENROLLED station (R63, R87, R133): fired reports, then
acknowledgements, the extinction report, the level changes. -/
def takeReports (s : State) (v : Valve) (d : Half) (r : RunSlot) : State :=
  let n := s.rgm.cycleNumber
  r.changes.foldl (levelChange v)
    (takeExtinction v d (r.acks.foldl (takeAck v n) (r.fired.foldl (takeFired v d) s))
      r.extinction)

/-- A good RUN slot of an ENROLLED station (R87, R98, R110). -/
def takeRun (s : State) (p : RingPos) (v : Valve) (d : Half) (r : RunSlot) : State :=
  let s := s.setStation p { s.rgm.stations[p] with
    miss := 0, runStatus := some r.status, conduction := some r.conduction }
  takeReports (s.removeItem p .enrollAck) v d r

/-- A good slot of a position whose Station Table row is `row` (R87). -/
def routeSlot (s : State) (p : RingPos) (row : StationRow) (d : Half) (b : SlotBody) : State :=
  match b with
  | .ident i => takeIdent s p row s.rgm.cycleNumber i
  | .run r =>
    if s.rgm.stations[p].state = .enrolled then takeRun s p row.valve d r else runNotEnrolled s p

/-- A good slot of a position is routed by its Station Table row; no row, no station (R79, R87). -/
def routeGood (s : State) (p : RingPos) (d : Half) (b : SlotBody) : State :=
  match rowAt s p with
  | none => s
  | some row => routeSlot s p row d b

/-- What every good slot does at the Ring Master (R87): heard, the line-error flag, the turned flag,
the LEVEL_RESYNC item. -/
def noteSlot (s : State) (p : RingPos) (m : Marker) (lineError turned : Bool) : State :=
  noteResync (noteTurned (noteLineError (markHeard s p m.direction) p m.direction lineError)
    p m turned) p m

/-- One slot of a timely intact return with marker `m` (R85, R87). -/
def takeSlot (m : Marker) (s : State) (x : RingPos × Slot) : State :=
  match x.2 with
  | .empty => s
  | .bad => s.countReceiveError
  | .good lineError turned body =>
    routeGood (noteSlot s x.1 m lineError turned) x.1 m.direction body

/-- The positions whose good slot has the turned flag set, ascending. -/
def turnedPositions (slots : List (RingPos × Slot)) : List RingPos :=
  slots.filterMap fun x =>
    match x.2 with
    | .good _ true _ => some x.1
    | .good _ false _ => none
    | .empty => none
    | .bad => none

/-- The turning stations after a return in a loopback status: a half that returned on the other
input was turned (R95). -/
def noteTurning (s : State) (m : Marker) (input : Port) (slots : List (RingPos × Slot)) : State :=
  if s.rgm.link.loopback then
    match m, input with
    | .f, .rIn =>
      match (turnedPositions slots).getLast? with
      | none => s
      | some p => s.setRgm { s.rgm with fTurning := some p }
    | .r, .fIn =>
      match (turnedPositions slots).head? with
      | none => s
      | some p => s.setRgm { s.rgm with rTurning := some p }
    | _, _ => s
  else s

/-! ## A frame arrives (R86) -/

/-- A complete frame's marker and input fit the latest cycle, and it is no second copy
(R86, Table 5-2). -/
def fits (c : RingCycle) (m : Marker) (input : Port) : Bool :=
  if c.probe then decide (m = .probe) && decide (input = .fIn) && !c.returnedF
  else
    match c.pattern, m with
    | .forward, .f => decide (input = .fIn) && !c.returnedF
    | .reverse, .r => decide (input = .rIn) && !c.returnedR
    | .loopback, .f => !c.returnedF
    | .loopback, .r => !c.returnedR
    | _, _ => false

/-- The cycle latest sent has had an OVERRUN frame in its interval (R88). -/
def noteOverrun (c : RingCycle) : RingCycle := { c with overrun := true }

/-- The scan time sample of a frame of the cycle before the latest (R96). -/
def sampleLate (s : State) : State :=
  match s.rgm.sendBefore with
  | none => s
  | some t => sampleScan s (s.now - t).toNat

/-- An OVERRUN frame: it is counted, noted for the overrun run, and gives a scan time sample when
its cycle is the one before the latest (R86, R88, R96). -/
def takeOverrun (s : State) (number : BitVec 16) : State :=
  let s := s.countReceiveError.mapCycle noteOverrun
  if number + 1#16 = s.rgm.cycleNumber then sampleLate s else s

/-- The cycle latest sent has had a timely intact return of a half at `t` (R86, R88). -/
def noteReturn (d : Half) (t : Time) (c : RingCycle) : RingCycle :=
  match d with
  | .f => { c with returnedF := true, lastReturn := some t }
  | .r => { c with returnedR := true, lastReturn := some t }

/-- A timely intact return with marker `m` (R87). -/
def takeReturn (s : State) (m : Marker) (input : Port) (slots : List Slot) : State :=
  let placed := (List.finRange 24).zip slots
  placed.foldl (takeSlot m)
    (noteTurning (s.mapCycle (noteReturn m.direction s.now)) m input placed)

/-- An arriving frame is classed and taken (R86). -/
def takeArrival (s : State) (input : Port) (a : Arrival) : State :=
  match a with
  | .abort => s.countReceiveError
  | .crc => s.countReceiveError
  | .complete number marker slots =>
    if number = s.rgm.cycleNumber then
      match s.rgm.cycle, marker with
      | some c, some m =>
        if fits c m input then takeReturn s m input (slots.map judgeSlot) else s.countReceiveError
      | _, _ => s.countReceiveError
    else takeOverrun s number

end Sys2Proof.Machine
end

