-- ==== Sys2Proof/Machine/Formats.lean ====
section
/-! DEFINITION. What the part sends on the Order Link (R183, R184): the codes of its values, the
STATUS payload (Table 12-3), the REPLY payload and the contents of query replies (Tables 12-4
and 12-9). -/

namespace Sys2Proof.Machine

/-! ## Codes (R183): 0, 1, 2 and so on, in the order of the owning definition -/

def LockState.code : LockState → Nat
  | .unlocked => 0
  | .acquiring => 1
  | .locked => 2
  | .holdover => 3

def Verdict.code : Verdict → Nat
  | .accepted => 0
  | .rejected => 1
  | .initial => 2

def RecordBody.code : RecordBody → Nat
  | .normal _ => 0
  | .start => 1
  | .bypass => 2
  | .test => 3

def RecordState.code : RecordState → Nat
  | .planned => 0
  | .dispatched => 1
  | .armed => 2
  | .holding => 3
  | .cancelling => 4
  | .releasing => 5

def LastOutcome.code : LastOutcome → Nat
  | .none => 0
  | .fired => 1
  | .missed => 2
  | .cancelled => 3
  | .cancelledUnconfirmed => 4
  | .released => 5
  | .releasedUnconfirmed => 6

def TestOutcome.code : TestOutcome → Nat
  | .none => 0
  | .fired => 1
  | .missed => 2

def LinkStatus.code : LinkStatus → Nat
  | .stopped => 0
  | .forward => 1
  | .reverse => 2
  | .loopbackBoth => 3
  | .loopbackF => 4
  | .loopbackR => 5
  | .down => 6

def DownCause.code : DownCause → Nat
  | .none => 0
  | .loopLost => 1
  | .intervalTooShort => 2

def Pattern.code : Pattern → Nat
  | .forward => 0
  | .reverse => 1
  | .loopback => 2

def StationState.code : StationState → Nat
  | .absent => 0
  | .enrolling => 1
  | .mismatch => 2
  | .enrolled => 3
  | .faulty => 4

def Timing.code : Timing → Nat
  | .stamped => 0
  | .coarse => 1

def RunStatus.code : RunStatus → Nat
  | .ready => 0
  | .notReady => 1

def Conduction.code : Conduction → Nat
  | .conducting => 0
  | .blocking => 1

/-- The mismatch reason as coded; absent when none (R116; log entry 14). -/
def MismatchReason.code? : MismatchReason → Option Nat
  | .none => Option.none
  | .identity => some 1
  | .levels => some 2
  | .identityAndLevels => some 3

def LevelCause.code : LevelCause → Nat
  | .short => 0
  | .noResponse => 1

def LevelState.code : LevelState → Nat
  | .healthy => 0
  | .degraded => 1
  | .atLimit => 2
  | .overLimit => 3

def GroupState.code : GroupState → Nat
  | .blocked => 0
  | .deblocking => 1
  | .running => 2
  | .stopping => 3
  | .bypassing => 4
  | .tripped => 5

def TripCause.code (c : TripCause) : Nat := c.bit.val

def OrderState.code : OrderState → Nat
  | .ok => 0
  | .hold => 1
  | .lost => 2

def AcState.code : AcState → Nat
  | .ok => 0
  | .low => 1

def Result.code : Result → Nat
  | .ok => 0
  | .badFrame => 1
  | .badTable => 2
  | .badIndex => 3
  | .badValue => 4
  | .state => 5

/-- The code of a bypass pair: leg (1,4) 0, (3,6) 1, (5,2) 2, none 3 (Table 12-3). -/
def pairCode : Option Leg → Nat
  | some .leg14 => 0
  | some .leg36 => 1
  | some .leg52 => 2
  | none => 3

/-- The code of a membership: F 0, R 1, none 2 (Table 12-9). -/
def memberCode : Option Half → Nat
  | some .f => 0
  | some .r => 1
  | none => 2

/-- A turning station as sent: its number, or 0 for none (Table 5-1). -/
def turningByte : Option RingPos → List Byte
  | none => beBytes 1 0
  | some p => beBytes 1 (p.val + 1)

/-! ## Envelope (Table 12-1) -/

/-- The bytes of a frame after its start-of-frame symbol (Table 12-1, R183). -/
def frameBytes (type seq : Byte) (payload : List Byte) : List Byte :=
  let body := [type, seq, BitVec.ofNat 8 payload.length] ++ payload
  body ++ crcBytes body

/-! ## STATUS (R115, R128, R157, R167, Table 12-3) -/

/-- The seven station sets in the order of R115. -/
def stationSets (s : State) : List (BoolSet 24) :=
  let inState (x : StationState) : BoolSet 24 :=
    Vector.ofFn fun p => decide (s.rgm.stations[p].state = x)
  [inState .enrolled, inState .enrolling, inState .mismatch, inState .faulty,
   Vector.ofFn fun p => s.rgm.stations[p].stuck, s.rgm.loopErrF, s.rgm.loopErrR]

/-- The smallest value of a measurement window, none when it is empty (R128). -/
def windowMin : List Int → Option Int
  | [] => none
  | x :: xs => some (xs.foldl min x)

/-- The ten bytes of one group in a STATUS (Table 12-3). -/
def groupStatusBytes (s : State) (g : Group) : List Byte :=
  let r := s.groups[g]
  beBytes 1 r.state.code ++ numBytes? 1 (r.firstCause.map TripCause.code) ++
    beBytes 1 (setCode r.tripCauses) ++ beBytes 1 (setCode r.inhibits) ++
    beBytes 1 (pairCode r.pairs[0] + 4 * pairCode r.pairs[1]) ++
    angleBytes? s.fac.alphaLast[g] ++ boolByte s.fac.gammaLimiting[g] ++
    angleBytes? (windowMin s.exm.windows[g])

/-- A station set and its count in a STATUS (Table 12-3). -/
def stationSetBytes (v : BoolSet 24) : List Byte := beBytes 3 (setCode v) ++ beBytes 1 v.count

/-- The summary flags, one bit per set in the same order (R115). -/
def summaryCode (sets : List (BoolSet 24)) : Nat :=
  sets.foldr (fun v acc => 2 * acc + (BoolSet.any v).toNat) 0

/-- The payload of a STATUS built now (R167, Table 12-3). -/
def statusPayload (s : State) : List Byte :=
  let sets := stationSets s
  beBytes 1 s.olp.orderState.code ++ beBytes 1 s.olp.ac.code ++ beBytes 1 s.pru.lock.code ++
    beBytes 4 (frequency s.pru) ++ groupStatusBytes s 0 ++ groupStatusBytes s 1 ++
    beBytes 1 s.rgm.link.code ++ sets.flatMap stationSetBytes ++ beBytes 1 (summaryCode sets) ++
    beBytes 2 (setCode s.olp.sticky) ++ beBytes 2 s.tbs.generation.toNat

/-! ## REPLY (R184) -/

/-- The payload of a REPLY: five opening bytes, then the contents (R184). -/
def Reply.payload (r : Reply) : List Byte :=
  [r.type] ++ beBytes 1 r.result.code ++ [r.subject] ++ beBytes 2 r.detail.toNat ++ r.contents

/-! ## Contents of query replies (Table 12-9) -/

/-- An IDENT content as sent: identity 4, levels 1, capability 1; all ones when absent. -/
def identBytes : Option Ident → List Byte
  | none => List.replicate 6 0xFF#8
  | some i => beBytes 4 i.identity.toNat ++ beBytes 1 i.levels ++ boolByte i.stamped

/-- The bytes of a row given by its field values; all zero when unassigned (TABLE_ROW). -/
def rowContents (id : TableId) (row : Byte) (shadow : Bool) (fields : Option (List Int)) :
    List Byte :=
  [tableCode id, row] ++ boolByte shadow ++ boolByte fields.isSome ++
    (match fields with
     | none => List.replicate (rowSize id) 0#8
     | some xs => fieldBytes (rowFields id) xs)

/-- The pending extinction of a VALVE_RECORD reply: state, sequence, reversal, deadline. -/
def pendingBytes : Option PendingExtinction → List Byte
  | none => List.replicate 10 0xFF#8
  | some p => boolByte p.expired ++ [p.seq] ++ beBytes 4 p.reversal.toNat ++
      beBytes 4 p.deadline.toNat

/-- VALVE_RECORD contents (R13, R78, R129). -/
def valveContents (s : State) (v : Valve) : List Byte :=
  let f := s.fsc.valves[v]
  let b := valveBridge v
  let g := valveGroup v
  beBytes 1 (v.val + 1) ++ numBytes? 1 ((positionOf s v).map fun p => p.val + 1) ++
    numBytes? 4 (f.lastDue.map BitVec.toNat) ++ angleBytes? f.lastAlpha ++
    beBytes 1 f.lastOutcome.code ++ beBytes 2 f.misses.toNat ++ beBytes 2 f.fireCount.toNat ++
    beBytes 1 f.testOutcome.code ++ angleBytes? s.exm.lastGamma[v] ++ boolByte s.exm.late[v] ++
    beBytes 1 s.lvm.levels[v].state.code ++ pendingBytes s.exm.pendings[v] ++
    angleBytes s.exm.correction[b] ++ beBytes 1 s.exm.recovery[g] ++
    beBytes 1 s.exm.repeats[g] ++
    numBytes? 1 (s.fsc.lastFired[b].map fun w => w.val + 1)

/-- The sixteen entries of a LEVEL_SET reply, those beyond the count all zero. -/
def levelEntries (xs : List (Nat × LevelCause)) : List Byte :=
  (xs.flatMap fun x => beBytes 1 x.1 ++ beBytes 1 x.2.code) ++
    List.replicate (2 * (Config.failedLevelLimit - xs.length)) 0#8

/-- LEVEL_SET contents (R140). -/
def levelContents (s : State) (v : Valve) : List Byte :=
  let r := s.lvm.levels[v]
  beBytes 1 (v.val + 1) ++ beBytes 1 r.installed ++ beBytes 1 r.redundancy ++
    beBytes 1 r.failed.length ++ levelEntries r.failed ++ boolByte r.overflow ++
    beBytes 1 r.state.code ++ beBytes 2 r.protective.toNat ++
    boolByte (match positionOf s v with
      | none => false
      | some p => s.itemPending p .levelResync)

/-- STATION_RECORD contents (R101, R116). -/
def stationContents (s : State) (p : RingPos) : List Byte :=
  let r := s.rgm.stations[p]
  beBytes 1 (p.val + 1) ++ beBytes 1 r.state.code ++ beBytes 1 r.miss ++
    numBytes? 1 (r.timing.map Timing.code) ++ beBytes 1 (memberCode r.member) ++
    beBytes 2 r.inhibit ++ numBytes? 1 (r.runStatus.map RunStatus.code) ++
    numBytes? 1 (r.conduction.map Conduction.code) ++ identBytes r.lastIdent ++
    beBytes 1 r.consistent ++ identBytes r.enrolledIdent ++ numBytes? 1 r.mismatch.code? ++
    beBytes 2 r.age.toNat ++ boolByte r.stuck ++ boolByte (s.itemPending p .enrollAck) ++
    boolByte (s.itemPending p .levelResync) ++
    numBytes? 4 ((rowAt s p).map fun row => row.identity.toNat) ++
    numBytes? 1 ((rowAt s p).map StationRow.levels)

/-- The last six bytes of a SCHEDULE record, by kind (Table 12-4). Table 12-4 gives the fired stamp of
a BYPASS record no coding of absent of its own, so an absent one is all ones (R183). -/
def scheduleTail (r : FireRecord) : List Byte :=
  match r.body with
  | .normal n => beBytes 4 n.reversal.toNat ++ angleBytes n.alphaEff
  | .bypass => numBytes? 4 (r.firedStamp.map BitVec.toNat) ++ beBytes 2 0
  | .start => beBytes 6 0
  | .test => beBytes 6 0

/-- The first two bytes of a SCHEDULE record as a number (Table 12-4). -/
def scheduleBits (r : FireRecord) : Nat :=
  (r.valve.val + 1) + 32 * r.body.code + 128 * r.state.code + 2048 * r.late.toNat +
    4096 * r.revised.toNat + 16384 * r.seq.isSome.toNat + 32768 * r.firedStamp.isSome.toNat

/-- A SCHEDULE record (Table 12-4): the sequence number is 0 when absent. -/
def scheduleRecord (r : FireRecord) : List Byte :=
  beBytes 2 (scheduleBits r) ++ [r.seq.getD 0#8] ++ beBytes 4 r.due.toNat ++ scheduleTail r

/-- SCHEDULE contents from an offset (R76). -/
def scheduleContents (s : State) (offset : Nat) : List Byte :=
  let page := (s.fsc.records.drop offset).take Config.schedulePage
  beBytes 1 offset ++ beBytes 1 s.fsc.records.length ++ beBytes 1 page.length ++
    beBytes 3 (setCode s.fsc.waiting) ++ page.flatMap scheduleRecord

/-- A capture of a CAPTURE_HISTORY reply. -/
def captureBytes (c : Capture) : List Byte :=
  beBytes 1 c.edge ++ beBytes 4 c.time.toNat ++ beBytes 4 (BitVec.ofInt 32 c.error).toNat ++
    beBytes 1 c.verdict.code

/-- CAPTURE_HISTORY contents (R20). -/
def historyContents (p : Pru) : List Byte :=
  beBytes 1 p.lock.code ++ beBytes 4 p.origin.toNat ++ beBytes 4 p.period ++
    beBytes 1 p.history.length ++ p.history.flatMap captureBytes ++
    List.replicate (10 * (Config.historyLength - p.history.length)) 0#8

/-- The counters in the order of Table 11-7. -/
def counterList (s : State) : List Count16 :=
  [s.pru.glitch, s.fac.scheduleConflict, s.fac.revisionLate, s.fsc.fireLate, s.fsc.fireMissed,
   s.fsc.timingDeviation, s.fsc.unconfirmed, s.rgm.receiveErrors, s.rgm.retries,
   s.rgm.loopSwitches, s.exm.cfCount[0], s.exm.cfCount[1], s.exm.discard, s.lvm.rangeErrors,
   s.olp.linkCrc, s.olp.orderFormat, s.olp.duplicate, s.olp.gap, s.olp.clamp, s.olp.busyDrop]

/-- COUNTERS contents (R179, Table 11-7). -/
def counterContents (s : State) : List Byte := (counterList s).flatMap fun c => beBytes 2 c.toNat

/-- RING_STATS contents (R96, R101). -/
def ringContents (r : Rgm) : List Byte :=
  beBytes 1 r.link.code ++ beBytes 1 r.downCause.code ++
    numBytes? 1 (r.downPattern.map Pattern.code) ++ beBytes 2 r.cycleNumber.toNat ++
    beBytes 1 r.failRun ++ beBytes 1 r.overrunRun ++ beBytes 2 r.probeCount ++
    beBytes 4 r.scanCurrent ++ beBytes 4 r.scanMin ++ beBytes 4 r.scanMax ++
    turningByte r.fTurning ++ turningByte r.rTurning ++ beBytes 3 (setCode r.loopErrF) ++
    beBytes 3 (setCode r.loopErrR) ++ beBytes 2 r.receiveErrors.toNat ++
    beBytes 2 r.retries.toNat ++ beBytes 2 r.loopSwitches.toNat

end Sys2Proof.Machine
end

