-- ==== Sys2Proof/Machine/Link.lean ====
section
/-! DEFINITION. The Order Link Port (R159 to R171): orders, order states, the AC-low detector, the
output queue and its transmitter, and the answering of requests. -/

namespace Sys2Proof.Machine

/-! ## Transmitter and output queue (R165, R166) -/

/-- The bytes of a queued frame once it is built (R165): a STATUS echoes the last accepted ORDER
sequence (R167), a REPLY that of its request (Table 12-1). -/
def builtFrame (s : State) : OutFrame → List Byte
  | .status => frameBytes 2#8 (s.olp.lastSeq.getD 0#8) (statusPayload s)
  | .reply r => frameBytes 3#8 r.seq r.payload

/-- The line time of a frame: its bytes and the start-of-frame symbol, 8 tb each (R165). -/
def lineTime (bytes : List Byte) : Nat := Config.byteTime * (bytes.length + 1)

/-- An idle transmitter takes the oldest queued frame, builds it and begins to send it (R165). -/
def kickTransmitter (s : State) : State :=
  match s.olp.sending, s.olp.queue with
  | none, f :: rest =>
    let bytes := builtFrame s f
    s.setOlp { s.olp with
        queue := rest
        sending := some ⟨bytes, s.after (lineTime bytes)⟩ }
  | none, [] => s
  | some _, _ => s

/-- A frame takes a place at the newest end (R166). -/
def enqueue (s : State) (f : OutFrame) : State :=
  kickTransmitter (s.setOlp { s.olp with queue := s.olp.queue ++ [f] })

/-- A STATUS is queued, unless one already waits and stands for both (R166). -/
def queueStatus (s : State) : State :=
  if s.olp.queue.any fun f => decide (f = .status) then s else enqueue s .status

/-- The REPLYs in the queue. -/
def replyCount (q : List OutFrame) : Nat := (q.filter fun f => !decide (f = .status)).length

/-- The queue already holds three REPLYs (R166). -/
def queueFull (s : State) : Bool := decide (Config.replyPlaces ≤ replyCount s.olp.queue)

/-- The end of a frame's sending (R165). -/
def endSending (s : State) : State :=
  kickTransmitter (s.setOlp { s.olp with sending := none })

/-! ## Answers (R168, R182, R184) -/

/-- What a request is answered with (R182, R184). -/
structure Answer where
  result : Result
  subject : Byte
  detail : BitVec 16
  contents : List Byte
  deriving DecidableEq, Repr

/-- OK without contents. -/
def ok (subject : Byte) : Answer := ⟨.ok, subject, 0#16, []⟩

/-- OK with the contents of a query. -/
def okWith (subject : Byte) (contents : List Byte) : Answer := ⟨.ok, subject, 0#16, contents⟩

/-- A refusal whose detail is 0. -/
def refuse (r : Result) (subject : Byte) : Answer := ⟨r, subject, 0#16, []⟩

/-- BAD_INDEX, naming the argument refused (R182, R184). -/
def badIndex (subject arg : Byte) : Answer := ⟨.badIndex, subject, arg.zeroExtend 16, []⟩

/-- BAD_VALUE, naming the failing field or row (R182, R184). -/
def badValue (subject : Byte) (n : Nat) : Answer := ⟨.badValue, subject, BitVec.ofNat 16 n, []⟩

/-- BAD_FRAME: its subject is 0 (R160, R184). -/
def badFrame : Answer := refuse .badFrame 0#8

/-- A request is taken (R166, R168): dropped as busy when three REPLYs wait, otherwise acted on, and
its REPLY queued behind what already waits. -/
def request (s : State) (type seq : Byte) (act : State → State × Answer) : State :=
  if queueFull s then s.countBusyDrop
  else
    let (s, a) := act s
    enqueue s (.reply ⟨type, seq, a.result, a.subject, a.detail, a.contents⟩)

/-! ## Orders (R160 to R164) -/

/-- The values of an ORDER's eight payload bytes, unsigned and unclamped (Table 12-3). -/
def orderOfPayload (bs : List Byte) : OrderValues where
  alpha := beNat (bs.take 2)
  current := beNat ((bs.drop 2).take 2)
  voltage := beNat ((bs.drop 4).take 2)
  flags := #v[flagsOfByte (bs.getD 6 0#8), flagsOfByte (bs.getD 7 0#8)]

/-- The values held to their ranges (R162, step 1). -/
def clampOrder (o : OrderValues) : OrderValues :=
  { o with
    alpha := min o.alpha 18000
    current := min o.current 2047
    voltage := min o.voltage 1500 }

/-- Step 1 of R162: the sticky flag and the counter CLAMP when a quantity is above its range. -/
def noteClamp (s : State) (o : OrderValues) : State :=
  if clampOrder o = o then s
  else
    let s := s.setFlag .clamp
    s.setOlp { s.olp with clamp := satInc s.olp.clamp }

/-- The AC state that an adopted U leaves (R164). -/
def acAfter (lt : LimitsTable) (old : AcState) (u : Nat) : AcState :=
  match old with
  | .ok => if u < lt.acAssert then .low else .ok
  | .low => if lt.acRelease < u then .ok else .low

/-- The AC-low detector evaluates U (R164). -/
def detectAc (s : State) (u : Nat) : State :=
  let x := acAfter s.tbs.limits s.olp.ac u
  if x = s.olp.ac then s else (s.setOlp { s.olp with ac := x }).setFlag .acLowChange

/-- Steps 2 and 3 of R162. -/
def takeOrderValues (s : State) (seq : Byte) (o : OrderValues) : State :=
  s.setOlp { s.olp with
      order := o
      lastSeq := some seq
      orderState := .ok
      holdTimer := none
      watchdog := some (s.after (s.tbs.limits.orderWatchdog * Config.tbPerUs)) }

/-- An ORDER is adopted (R162). -/
def adoptOrder (s : State) (seq : Byte) (o : OrderValues) : State :=
  let c := clampOrder o
  let s := takeOrderValues (noteClamp s o) seq c
  queueStatus (bothGroups (detectAc s c.voltage) .orderAdopted)

/-- The gap counter (R161). -/
def noteGap (s : State) (seq : Byte) : State :=
  match s.olp.lastSeq with
  | none => s
  | some last => if seq = last + 1#8 then s else s.countGap

/-- An ORDER frame is checked for length and sequence (R160, R161), and adopted (R162). -/
def takeOrder (s : State) (seq : Byte) (payload : List Byte) : State :=
  if payload.length ≠ 8 then s.countOrderFormat
  else if s.olp.lastSeq = some seq then s.countDuplicate
  else adoptOrder (noteGap s seq) seq (orderOfPayload payload)

/-! ## Order states (R163) -/

/-- Expiry of the hold timer in ORDER_HOLD (R163). -/
def holdExpired (s : State) : State :=
  bothGroups (s.setOlp { s.olp with orderState := .lost, holdTimer := none })
    (.orderState true)

/-- Expiry of the order watchdog in ORDER_OK (R163). A hold window of 0 ms is taken at arming. -/
def watchdogExpired (s : State) : State :=
  let at_ := s.after (s.tbs.limits.holdWindow * Config.tbPerMs)
  let s := s.setOlp { s.olp with
      orderState := .hold, watchdog := none, holdTimer := some at_ }
  let s := bothGroups (s.setFlag .orderHold) (.orderState false)
  if s.reached s.olp.holdTimer then holdExpired s else s

/-! ## Frames that are dropped or unknown (R159, R160) -/

/-- The payload length of an inbound management or ORDER frame is right for its type and kind
(Tables 12-2, 12-5, 12-6). An unknown query or command kind has no defined length (R179, R180). -/
def lengthOk (type : Byte) (payload : List Byte) : Bool :=
  let n := payload.length
  match type.toNat with
  | 1 => n == 8
  | 4 =>
    match payload.head? with
    | none => false
    | some t =>
      match tableOfCode t with
      | none => decide (2 ≤ n)
      | some id => n == 2 + rowSize id
  | 5 => n == 1
  | 6 => n == 1
  | 7 =>
    match payload.head? with
    | none => false
    | some k =>
      match k.toNat with
      | 1 => n == 4
      | 2 => n == 2
      | 3 => n == 2
      | 4 => n == 2
      | 5 => n == 2
      | 6 => n == 1
      | 7 => n == 1
      | 8 => n == 1
      | _ => false
  | 8 =>
    match payload.head? with
    | none => false
    | some k =>
      match k.toNat with
      | 1 => n == 3
      | 2 => n == 1
      | 3 => n == 1
      | 4 => n == 2
      | 5 => n == 2
      | 6 => n == 2
      | 7 => n == 1
      | 8 => n == 1
      | _ => false
  | _ => false

/-- A frame of unknown type, or of the wrong length (R160): an ORDER is counted, any other frame is
answered BAD_FRAME. A well-formed frame is not this command's: nothing happens (log entry 3). -/
def takeUnknown (s : State) (type seq : Byte) (payload : List Byte) : State :=
  if lengthOk type payload then s
  else if type = 1#8 then s.countOrderFormat
  else request s type seq fun s => (s, badFrame)

end Sys2Proof.Machine
end

