-- ==== Sys2Proof/Decode.lean ====
section
/-! DEFINITION. What words and frames spell: the opcode table's words (none has bits), and the
frames of the Order Link (R159, R160, R184, Tables 12-1, 12-2, 12-5 and 12-6), read and written. -/

namespace Sys2Proof

open Sys2Proof.Machine

/-- The command that a word of the opcode table spells. The table gives no row any bits, so no word
spells a command (log entry 5). -/
def decodeTableWord (_nbits _w : Nat) : Option Instr := none

/-! ## Reading a frame of the Order Link -/

/-- The QUERY a payload of the right length spells (Table 12-6). -/
def queryOf (t : Time) (seq : Byte) (p : List Byte) : Instr :=
  match (p.getD 0 0#8).toNat with
  | 1 => .tableRow t seq (p.getD 1 0#8) (p.getD 2 0#8) (p.getD 3 0#8)
  | 2 => .valveRecord t seq (p.getD 1 0#8)
  | 3 => .levelSet t seq (p.getD 1 0#8)
  | 4 => .stationRecord t seq (p.getD 1 0#8)
  | 5 => .schedule t seq (p.getD 1 0#8)
  | 6 => .captureHistory t seq
  | 7 => .counters t seq
  | 8 => .ringStats t seq
  | _ => .unknownFrame t 7#8 seq p

/-- The COMMAND a payload of the right length spells (Table 12-6). -/
def commandOf (t : Time) (seq : Byte) (p : List Byte) : Instr :=
  match (p.getD 0 0#8).toNat with
  | 1 => .clearFlags t seq (BitVec.ofNat 16 (beNat ((p.drop 1).take 2)))
  | 2 => .clearCounters t seq
  | 3 => .clearRingStats t seq
  | 4 => .clearLevelFaults t seq (p.getD 1 0#8)
  | 5 => .testFire t seq (p.getD 1 0#8)
  | 6 => .resetTrip t seq (p.getD 1 0#8)
  | 7 => .ringRestart t seq
  | 8 => .warmRestart t seq
  | _ => .unknownFrame t 8#8 seq p

/-- The command of a frame whose CRC checks, by its type and length (R160, Table 12-2). -/
def ofFrame (t : Time) (type seq : Byte) (p : List Byte) : Instr :=
  if type = 1#8 then .order t seq p
  else if lengthOk type p then
    match type.toNat with
    | 4 => .tableWrite t seq (p.getD 0 0#8) (p.getD 1 0#8) (p.drop 2)
    | 5 => .tableCommit t seq (p.getD 0 0#8)
    | 6 => .tableDiscard t seq (p.getD 0 0#8)
    | 7 => queryOf t seq p
    | 8 => commandOf t seq p
    | _ => .unknownFrame t type seq p
  else .unknownFrame t type seq p

/-- The command of the bytes between a start-of-frame byte and the next one (R159): the length field
is weighed first, then whether the frame is complete, then its CRC. Bytes beyond the number the
length field calls for are not part of the frame. -/
def receiveFrame (t : Time) : List Byte → Instr
  | type :: seq :: n :: rest =>
    if Config.maxPayload < n.toNat then .linkFrameDropped t .length
    else if rest.length < n.toNat + 2 then .linkFrameDropped t .interrupted
    else
      let p := rest.take n.toNat
      if (rest.drop n.toNat).take 2 = crcBytes (type :: seq :: n :: p) then ofFrame t type seq p
      else .linkFrameDropped t .crc
  | _ => .linkFrameDropped t .interrupted

/-! ## Writing a frame of the Order Link -/

/-- Type, sequence number and payload of the frame that spells a command (Tables 12-2, 12-5, 12-6);
none for a command that no frame spells. -/
def frameOf : Instr → Option (Byte × Byte × List Byte)
  | .powerUp => none
  | .comparatorEdge _ _ _ => none
  | .captureWatch _ => none
  | .cycleMarker _ => none
  | .planningInstant _ _ => none
  | .ringCycleStart _ => none
  | .ringFrameReturn _ _ _ => none
  | .latenessInstant _ _ => none
  | .confirmInstant _ _ => none
  | .holdInstant _ _ => none
  | .releaseTimeout _ _ => none
  | .deadlineInstant _ _ => none
  | .bypassHoldTimer _ _ => none
  | .linkFrameDropped _ _ => none
  | .unknownFrame _ type seq p => some (type, seq, p)
  | .order _ seq p => some (1#8, seq, p)
  | .orderWatchdog _ => none
  | .holdTimer _ => none
  | .transmitEnd _ => none
  | .tableWrite _ seq table row contents => some (4#8, seq, table :: row :: contents)
  | .tableCommit _ seq table => some (5#8, seq, [table])
  | .tableDiscard _ seq table => some (6#8, seq, [table])
  | .tableRow _ seq table row selector => some (7#8, seq, [1#8, table, row, selector])
  | .valveRecord _ seq valve => some (7#8, seq, [2#8, valve])
  | .levelSet _ seq valve => some (7#8, seq, [3#8, valve])
  | .stationRecord _ seq position => some (7#8, seq, [4#8, position])
  | .schedule _ seq offset => some (7#8, seq, [5#8, offset])
  | .captureHistory _ seq => some (7#8, seq, [6#8])
  | .counters _ seq => some (7#8, seq, [7#8])
  | .ringStats _ seq => some (7#8, seq, [8#8])
  | .clearFlags _ seq mask => some (8#8, seq, 1#8 :: beBytes 2 mask.toNat)
  | .clearCounters _ seq => some (8#8, seq, [2#8])
  | .clearRingStats _ seq => some (8#8, seq, [3#8])
  | .clearLevelFaults _ seq valve => some (8#8, seq, [4#8, valve])
  | .testFire _ seq valve => some (8#8, seq, [5#8, valve])
  | .resetTrip _ seq group => some (8#8, seq, [6#8, group])
  | .ringRestart _ seq => some (8#8, seq, [7#8])
  | .warmRestart _ seq => some (8#8, seq, [8#8])

end Sys2Proof
end

