-- ==== Sys2Proof/Machine/Store.lean ====
section
/-! DEFINITION. The Table Store's tables (R172 to R178): shadows, row writes, discards, commits and
what a commit does to the other blocks. -/

namespace Sys2Proof.Machine

/-- Both groups are BLOCKED (R157, R177, R181). -/
def bothBlocked (s : State) : Bool :=
  decide (s.groups[0].state = .blocked) && decide (s.groups[1].state = .blocked)

/-! ## Rows (R172, R175) -/

/-- The row number lies in the table's rows 1..n (R172). -/
def rowOk (id : TableId) (row : Byte) : Bool :=
  decide (1 ≤ row.toNat) && decide (row.toNat ≤ rowCount id)

/-- Row 1..4 of the OT as an index. -/
def overlapRow (row : Byte) : Fin 4 := Fin.ofNat 4 (row.toNat - 1)

/-- Row 1..24 of the ST as a ring position. -/
def stationRow (row : Byte) : RingPos := Fin.ofNat 24 (row.toNat - 1)

/-- The ST shadow as opened: a copy of the active ST, or every row unassigned (R174, R175). -/
def openedStation (t : Tbs) : StationShadow :=
  match t.station with
  | none => fill 24 none
  | some st => mapVec some st

/-- The shadow of a table, opened if there is none, with one row replaced (R175). -/
def writeRow (t : Tbs) (id : TableId) (row : Byte) (xs : List Int) : Tbs :=
  match id with
  | .limits => { t with limitsShadow := some (LimitsTable.ofFields xs) }
  | .overlap =>
    let rows := t.overlapShadow.getD t.overlap
    { t with overlapShadow := some (setAt rows (overlapRow row) (overlapRowOfFields xs)) }
  | .converter => { t with converterShadow := some (ConverterTable.ofFields xs) }
  | .station =>
    let st := t.stationShadow.getD (openedStation t)
    { t with stationShadow := some (setAt st (stationRow row) (some (StationRow.ofFields xs))) }
  | .ring => { t with ringShadow := some (RingTable.ofFields xs) }

/-- A TABLE_WRITE of a known table (R175). -/
def writeKnown (s : State) (id : TableId) (table row : Byte) (contents : List Byte) :
    State × Answer :=
  let xs := parseFields (rowFields id) contents
  if contents.length ≠ rowSize id then (s, badFrame)
  else if rowOk id row then
    match firstBadField id 1 (rowFields id) xs with
    | some n => (s, badValue table n)
    | none => (s.setTbs (writeRow s.tbs id row xs), ok table)
  else (s, badIndex table row)

/-- A TABLE_WRITE (R175). -/
def writeTable (s : State) (table row : Byte) (contents : List Byte) : State × Answer :=
  match tableOfCode table with
  | none => (s, refuse .badTable table)
  | some id => writeKnown s id table row contents

/-! ## Discard (R176) -/

/-- The table has no shadow any more. -/
def dropShadow (t : Tbs) : TableId → Tbs
  | .limits => { t with limitsShadow := none }
  | .overlap => { t with overlapShadow := none }
  | .converter => { t with converterShadow := none }
  | .station => { t with stationShadow := none }
  | .ring => { t with ringShadow := none }

/-- A TABLE_DISCARD (R176). -/
def discardTable (s : State) (table : Byte) : State × Answer :=
  match tableOfCode table with
  | none => (s, refuse .badTable table)
  | some id => (s.setTbs (dropShadow s.tbs id), ok table)

/-! ## Commit (R177, R178) -/

/-- The table has an open shadow. -/
def hasShadow (t : Tbs) : TableId → Bool
  | .limits => t.limitsShadow.isSome
  | .overlap => t.overlapShadow.isSome
  | .converter => t.converterShadow.isSome
  | .station => t.stationShadow.isSome
  | .ring => t.ringShadow.isSome

/-- The table is committed only with both groups BLOCKED (R177). -/
def needsBlocked : TableId → Bool
  | .limits => false
  | .overlap => false
  | .converter => true
  | .station => true
  | .ring => true

/-- The number of the one row when its cross-field condition fails. -/
def rowOne {α : Type} (valid : α → Bool) : Option α → Option Nat
  | none => none
  | some x => if valid x then none else some 1

/-- The number of the first failing row of a table's shadow (R177). -/
def failingRow (t : Tbs) : TableId → Option Nat
  | .limits => rowOne LimitsTable.valid t.limitsShadow
  | .overlap => none
  | .converter => rowOne ConverterTable.valid t.converterShadow
  | .station =>
    match t.stationShadow with
    | none => none
    | some st => (firstFailingRow st).map fun p => p.val + 1
  | .ring => rowOne RingTable.valid t.ringShadow

/-- The shadow becomes the active table (R177, step 1). -/
def activate (t : Tbs) : TableId → Tbs
  | .limits => { t with limits := t.limitsShadow.getD t.limits, limitsShadow := none }
  | .overlap => { t with overlap := t.overlapShadow.getD t.overlap, overlapShadow := none }
  | .converter =>
    { t with converter := t.converterShadow.getD t.converter, converterShadow := none }
  | .station =>
    { t with
      station := match t.stationShadow with
        | none => t.station
        | some st => stationTableOf st
      stationShadow := none }
  | .ring => { t with ring := t.ringShadow.getD t.ring, ringShadow := none }

/-- Steps 1 and 2 of R177. -/
def noteCommit (s : State) (id : TableId) : State :=
  let t := activate s.tbs id
  (s.setTbs { t with generation := t.generation + 1#16 }).setFlag .tableEvent

/-- The level records are made anew from the active ST (R132, R178). -/
def remakeFromStation (s : State) : State :=
  match s.tbs.station with
  | none => s
  | some st => remakeLevels s st

/-- The next fire sequence numbers become 0 (R178). -/
def clearSequences (s : State) : State := s.setFsc { s.fsc with nextSeq := fill 24 0#8 }

/-- The effects of a Station Table commit (R178): level records, sequence numbers, ring restart. -/
def stationEffects (s : State) : State := ringRestart (clearSequences (remakeFromStation s))

/-- Step 3 of R177: a commit's effects on the other blocks (R178). -/
def commitEffects (s : State) : TableId → State
  | .limits => clampToLimits s
  | .overlap => s
  | .converter => disarmPlannings (restartPru s)
  | .station => stationEffects s
  | .ring => ringRestart s

/-- A commit that passed its checks (R177). -/
def takeCommit (s : State) (id : TableId) : State :=
  bothGroups (commitEffects (noteCommit s id) id) .tableCommit

/-- A TABLE_COMMIT (R177). -/
def commitTable (s : State) (table : Byte) : State × Answer :=
  match tableOfCode table with
  | none => (s, refuse .badTable table)
  | some id =>
    if !hasShadow s.tbs id then (s, refuse .badTable table)
    else if needsBlocked id && !bothBlocked s then (s, refuse .state table)
    else
      match failingRow s.tbs id with
      | some n => (s, badValue table n)
      | none => (takeCommit s id, ok table)

end Sys2Proof.Machine
end

