-- ==== Sys2Proof/Machine/Queries.lean ====
section
/-! DEFINITION. The answers to the eight QUERY kinds (R179, Table 11-6). A query changes no state. -/

namespace Sys2Proof.Machine

/-! ## Kinds (Table 12-6) -/

def kindTableRow : Byte := 1#8
def kindValveRecord : Byte := 2#8
def kindLevelSet : Byte := 3#8
def kindStationRecord : Byte := 4#8
def kindSchedule : Byte := 5#8
def kindCaptureHistory : Byte := 6#8
def kindCounters : Byte := 7#8
def kindRingStats : Byte := 8#8

/-! ## TABLE_ROW -/

/-- The field values of a row of the active table; none for a row of an ST never committed
(R179). -/
def activeRow (t : Tbs) (id : TableId) (row : Byte) : Option (List Int) :=
  match id with
  | .limits => some t.limits.toFields
  | .overlap => some t.overlap[overlapRow row].toList
  | .converter => some t.converter.toFields
  | .station =>
    match t.station with
    | none => none
    | some st => some st[stationRow row].toFields
  | .ring => some t.ring.toFields

/-- The field values of a row of the shadow; none when the row is unassigned. -/
def shadowRow (t : Tbs) (id : TableId) (row : Byte) : Option (List Int) :=
  match id with
  | .limits => t.limitsShadow.map LimitsTable.toFields
  | .overlap => t.overlapShadow.map fun o => o[overlapRow row].toList
  | .converter => t.converterShadow.map ConverterTable.toFields
  | .station =>
    match t.stationShadow with
    | none => none
    | some st => st[stationRow row].map StationRow.toFields
  | .ring => t.ringShadow.map RingTable.toFields

/-- TABLE_ROW (R179). The selector is checked after the row and before the shadow (log
entry 24). -/
def answerTableRow (s : State) (table row selector : Byte) : Answer :=
  match tableOfCode table with
  | none => refuse .badTable kindTableRow
  | some id =>
    if rowOk id row then
      match selector.toNat with
      | 0 => okWith kindTableRow (rowContents id row false (activeRow s.tbs id row))
      | 1 =>
        if hasShadow s.tbs id then
          okWith kindTableRow (rowContents id row true (shadowRow s.tbs id row))
        else refuse .badTable kindTableRow
      | _ => badIndex kindTableRow selector
    else badIndex kindTableRow row

/-! ## The other kinds -/

/-- VALVE_RECORD (R13, R78, R129, R179). -/
def answerValve (s : State) (valve : Byte) : Answer :=
  match valveOfIndex valve with
  | none => badIndex kindValveRecord valve
  | some v => okWith kindValveRecord (valveContents s v)

/-- LEVEL_SET (R140). -/
def answerLevels (s : State) (valve : Byte) : Answer :=
  match valveOfIndex valve with
  | none => badIndex kindLevelSet valve
  | some v => okWith kindLevelSet (levelContents s v)

/-- STATION_RECORD (R101, R116). -/
def answerStation (s : State) (position : Byte) : Answer :=
  match posOfNumber position with
  | none => badIndex kindStationRecord position
  | some p => okWith kindStationRecord (stationContents s p)

/-- SCHEDULE (R76): the offset is 0..47. -/
def answerSchedule (s : State) (offset : Byte) : Answer :=
  if offset.toNat ≤ 47 then okWith kindSchedule (scheduleContents s offset.toNat)
  else badIndex kindSchedule offset

/-- CAPTURE_HISTORY (R20). -/
def answerHistory (s : State) : Answer := okWith kindCaptureHistory (historyContents s.pru)

/-- COUNTERS (R179, Table 11-7). -/
def answerCounters (s : State) : Answer := okWith kindCounters (counterContents s)

/-- RING_STATS (R101). -/
def answerRing (s : State) : Answer := okWith kindRingStats (ringContents s.rgm)

/-- A QUERY is taken (R168, R179): its reply is built from the state as it stands. -/
def query (s : State) (seq : Byte) (answer : State → Answer) : State :=
  request s 7#8 seq fun s => (s, answer s)

end Sys2Proof.Machine
end

