-- ==== Sys2Proof/Machine/Commands.lean ====
section
/-! DEFINITION. What the eight COMMAND kinds do (R138, R155, R156, R180, R181). -/

namespace Sys2Proof.Machine

/-! ## Kinds (Table 12-6) -/

def kindClearFlags : Byte := 1#8
def kindClearCounters : Byte := 2#8
def kindClearRingStats : Byte := 3#8
def kindClearLevelFaults : Byte := 4#8
def kindTestFire : Byte := 5#8
def kindResetTrip : Byte := 6#8
def kindRingRestart : Byte := 7#8
def kindWarmRestart : Byte := 8#8

/-! ## The kinds that clear (R180) -/

/-- CLEAR_FLAGS (R169). -/
def clearFlags (s : State) (mask : BitVec 16) : State :=
  s.setOlp { s.olp with sticky := clearMasked s.olp.sticky mask }

/-- CLEAR_COUNTERS: every counter of Table 11-7 and every protective-firing count (R180). -/
def clearCounters (s : State) : State :=
  { s with
    pru := { s.pru with glitch := 0#16 }
    fac := { s.fac with scheduleConflict := 0#16, revisionLate := 0#16 }
    fsc := { s.fsc with
      fireLate := 0#16, fireMissed := 0#16, timingDeviation := 0#16, unconfirmed := 0#16 }
    rgm := { s.rgm with receiveErrors := 0#16, retries := 0#16, loopSwitches := 0#16 }
    exm := { s.exm with cfCount := fill 2 0#16, discard := 0#16 }
    lvm := { s.lvm with
      rangeErrors := 0#16
      levels := mapVec (fun r => { r with protective := 0#16 }) s.lvm.levels }
    olp := { s.olp with
      linkCrc := 0#16, orderFormat := 0#16, duplicate := 0#16, gap := 0#16, clamp := 0#16
      busyDrop := 0#16 } }

/-- CLEAR_RING_STATS: the minimum and maximum scan times and both turning stations (R180). -/
def clearRingStats (s : State) : State :=
  s.setRgm { s.rgm with scanMin := 0, scanMax := 0, fTurning := none, rTurning := none }

/-- The clear of one valve by command, with a LEVEL_RESYNC item when its station is ENROLLED
(R138). -/
def clearFaultsOf (s : State) (v : Valve) : State :=
  let s := clearLevel s v true
  match positionOf s v with
  | none => s
  | some p => if valveEnrolled s v then s.createItem p .levelResync else s

/-- The clear of every valve by command, in ascending index (R138). -/
def clearAllFaults (s : State) : State := (List.finRange 24).foldl clearFaultsOf s

/-- CLEAR_LEVEL_FAULTS: 0 names all valves (R138, Table 12-6). -/
def clearLevelFaults (s : State) (valve : Byte) : State × Answer :=
  if valve = 0#8 then (clearAllFaults s, ok kindClearLevelFaults)
  else
    match valveOfIndex valve with
    | none => (s, badIndex kindClearLevelFaults valve)
    | some v => (clearFaultsOf s v, ok kindClearLevelFaults)

/-! ## TEST_FIRE and RESET_TRIP (R155, R156) -/

/-- The three conditions of R156, and room for a TEST record (R74). -/
def testAllowed (s : State) (v : Valve) : Bool :=
  decide (s.groups[valveGroup v].state = .blocked) && s.tbs.limits.testEnable &&
    valveEnrolled s v && s.hasRoom v

/-- TEST_FIRE (R156). A refused one changes nothing (R182). -/
def testFire (s : State) (valve : Byte) : State × Answer :=
  match valveOfIndex valve with
  | none => (s, badIndex kindTestFire valve)
  | some v =>
    if testAllowed s v then
      (groupEvent (placeTest s v) (valveGroup v) .testFire, ok kindTestFire)
    else (s, refuse .state kindTestFire)

/-- RESET_TRIP (R155). A refused one changes nothing (R182). -/
def resetTrip (s : State) (group : Byte) : State × Answer :=
  match groupOfCode group with
  | none => (s, badIndex kindResetTrip group)
  | some g =>
    if s.groups[g].state = .tripped then (groupEvent s g .resetTrip, ok kindResetTrip)
    else (s, refuse .state kindResetTrip)

/-! ## Restarts (R181) -/

/-- RING_RESTART (R181). -/
def ringRestartCommand (s : State) : State × Answer :=
  if bothBlocked s then (ringRestart s, ok kindRingRestart) else (s, refuse .state kindRingRestart)

/-- The consecutive-miss counts become 0 (R14). -/
def clearMisses (s : State) : State :=
  s.setFsc { s.fsc with valves := mapVec (fun f => { f with misses := 0#16 }) s.fsc.valves }

/-- A group takes its warm-restart values and evaluates its deblock conditions (R158). -/
def restartGroup (s : State) (g : Group) : State := evalInhibits (s.setGroup g GroupRecord.reset) g

/-- The effects of WARM_RESTART, in order (R181). -/
def warmRestart (s : State) : State :=
  let s := restartExm (restartFsc (restartFac (restartPru s)))
  let s := clearMisses (ringRestart s)
  restartGroup (restartGroup s 0) 1

/-- WARM_RESTART (R181). -/
def warmRestartCommand (s : State) : State × Answer :=
  if bothBlocked s then (warmRestart s, ok kindWarmRestart) else (s, refuse .state kindWarmRestart)

/-- A COMMAND is taken (R168, R180). -/
def command (s : State) (seq : Byte) (act : State → State × Answer) : State :=
  request s 8#8 seq act

end Sys2Proof.Machine
end

