-- ==== Sys2Proof/Machine/Events.lean ====
section
/-! DEFINITION. The meanings of the commands that are events of the part itself and of the Valve
Ring: power-up, comparator edges, armed instants, ring cycles and returning frames. An armed instant
that is not armed, or not reached, is not taken: only the time moves (R7; log entry 2). -/

namespace Sys2Proof.Machine

/-- A command with an effect and no fault: every command of the part is one. -/
abbrev Outcome := Host.Outcome State Fault Refusal

/-- The state at `t`, changed by the event if its armed instant has been reached (R7). -/
def takeIf (instant : State → Option Time) (event : State → State) (t : Time) (s : State) : State :=
  let s := s.at t
  if s.reached (instant s) then event s else s

/-- POWER_UP (R5, R14, R32, R53, R77, R102, R117, R131, R141, R158, R171, R172). The waiting
commands are not the part's state and stay. -/
def execPowerUp (s : State) : Outcome := .next { State.reset with pending := s.pending }

/-! ## Phase Reference Unit and planning -/

/-- COMPARATOR_EDGE (R15 to R22, R24, R25). -/
def execComparatorEdge (t : Time) (line : Line) (rising : Bool) (s : State) : Outcome :=
  .next (takeEdge (s.at t) line rising)

/-- CAPTURE_WATCH (R23). -/
def execCaptureWatch (t : Time) (s : State) : Outcome :=
  .next (takeIf (fun s => s.pru.watch) watchEvent t s)

/-- CYCLE_MARKER (R28); a marker armed again at a passed time is taken too (R7). -/
def execCycleMarker (t : Time) (s : State) : Outcome :=
  .next (runMarkers markerFuel (s.at t))

/-- PLANNING_INSTANT (R36 to R44, R46). -/
def execPlanningInstant (t : Time) (v : Valve) (s : State) : Outcome :=
  .next (takeIf (fun s => s.fac.plannings[v].map Planning.time) (fun s => takePlanning s v) t s)

/-! ## Valve Ring -/

/-- RING_CYCLE_START (R80). -/
def execRingCycleStart (t : Time) (s : State) : Outcome :=
  .next (takeIf (fun s => s.rgm.cycleAt) startCycle t s)

/-- RING_FRAME_RETURN (R86, R87, R185). -/
def execRingFrameReturn (t : Time) (input : Port) (bytes : List Byte) (s : State) : Outcome :=
  .next (takeArrival (s.at t) input (readFrame bytes))

/-! ## Instants of fire records -/

/-- LATENESS_INSTANT (R65). -/
def execLatenessInstant (t : Time) (v : Valve) (s : State) : Outcome :=
  .next (takeInstant (s.at t) v FireRecord.latenessAt latenessEvent)

/-- CONFIRM_INSTANT (R67, R70). -/
def execConfirmInstant (t : Time) (v : Valve) (s : State) : Outcome :=
  .next (takeInstant (s.at t) v FireRecord.confirmAt confirmEvent)

/-- HOLD_INSTANT (R72). -/
def execHoldInstant (t : Time) (v : Valve) (s : State) : Outcome :=
  .next (takeInstant (s.at t) v FireRecord.holdAt holdEvent)

/-- RELEASE_TIMEOUT (R73). -/
def execReleaseTimeout (t : Time) (v : Valve) (s : State) : Outcome :=
  .next (takeInstant (s.at t) v FireRecord.releaseAt releaseTimeoutEvent)

/-! ## Extinction Monitor and groups -/

/-- The deadline instant of a valve: armed while its pending extinction is OPEN (R118, R124). -/
def deadlineOf (s : State) (v : Valve) : Option Time :=
  match s.exm.pendings[v] with
  | none => none
  | some p => if p.expired then none else some p.deadline

/-- The deadline of a valve's pending extinction is taken (R124). -/
def takeDeadline (v : Valve) (s : State) : State :=
  match s.exm.pendings[v] with
  | none => s
  | some p => deadlineEvent s v p

/-- DEADLINE_INSTANT (R124). -/
def execDeadlineInstant (t : Time) (v : Valve) (s : State) : Outcome :=
  .next (takeIf (fun s => deadlineOf s v) (takeDeadline v) t s)

/-- The bypass hold timer of a group is taken: it is armed no more, and its expiry is an event of
the group (R142, R148). -/
def holdTimerEvent (g : Group) (s : State) : State :=
  groupEvent (s.setHoldTimer g none) g .holdExpiry

/-- BYPASS_HOLD_TIMER (R148). -/
def execBypassHoldTimer (t : Time) (g : Group) (s : State) : Outcome :=
  .next (takeIf (fun s => s.groups[g].holdTimer) (holdTimerEvent g) t s)

end Sys2Proof.Machine
end

