-- ==== Sys2Proof/Machine/LinkFrames.lean ====
section
/-! DEFINITION. The meanings of the commands at the Order Link that are no requests: dropped and
unknown frames, ORDER frames, the order watchdog, the hold timer and the end of a sending. -/

namespace Sys2Proof.Machine

/-- LINK_FRAME_DROPPED (R159): the cause makes no difference. -/
def execLinkFrameDropped (t : Time) (_cause : DropCause) (s : State) : Outcome :=
  .next (s.at t).countLinkCrc

/-- UNKNOWN_FRAME (R160). -/
def execUnknownFrame (t : Time) (type seq : Byte) (payload : List Byte) (s : State) : Outcome :=
  .next (takeUnknown (s.at t) type seq payload)

/-- ORDER (R160 to R162). -/
def execOrder (t : Time) (seq : Byte) (payload : List Byte) (s : State) : Outcome :=
  .next (takeOrder (s.at t) seq payload)

/-- The order watchdog: armed in ORDER_OK (Table 10-2). -/
def watchdogOf (s : State) : Option Time := if s.olp.orderState = .ok then s.olp.watchdog else none

/-- ORDER_WATCHDOG (R163). -/
def execOrderWatchdog (t : Time) (s : State) : Outcome :=
  .next (takeIf watchdogOf watchdogExpired t s)

/-- The hold timer: armed in ORDER_HOLD (Table 10-2). -/
def holdTimerOf (s : State) : Option Time := if s.olp.orderState = .hold then s.olp.holdTimer else none

/-- HOLD_TIMER (R163). -/
def execHoldTimer (t : Time) (s : State) : Outcome :=
  .next (takeIf holdTimerOf holdExpired t s)

/-- The end of the sending under way (R165). -/
def sendingEnd (s : State) : Option Time := s.olp.sending.map Sending.ends

/-- TRANSMIT_END (R165). -/
def execTransmitEnd (t : Time) (s : State) : Outcome :=
  .next (takeIf sendingEnd endSending t s)

end Sys2Proof.Machine
end

