-- ==== Sys2Proof/Machine/Requests.lean ====
section
/-! DEFINITION. The meanings of the requests: table frames (R175 to R178), the eight QUERY kinds
(R179) and the eight COMMAND kinds (R180, R181). Each is dropped as busy, or acted on and answered
(R166, R168). -/

namespace Sys2Proof.Machine

/-! ## Tables -/

/-- TABLE_WRITE (R175). -/
def execTableWrite (t : Time) (seq table row : Byte) (contents : List Byte) (s : State) : Outcome :=
  .next (request (s.at t) 4#8 seq fun s => writeTable s table row contents)

/-- TABLE_COMMIT (R177, R178). -/
def execTableCommit (t : Time) (seq table : Byte) (s : State) : Outcome :=
  .next (request (s.at t) 5#8 seq fun s => commitTable s table)

/-- TABLE_DISCARD (R176). -/
def execTableDiscard (t : Time) (seq table : Byte) (s : State) : Outcome :=
  .next (request (s.at t) 6#8 seq fun s => discardTable s table)

/-! ## Queries -/

/-- TABLE_ROW (R179). -/
def execTableRow (t : Time) (seq table row selector : Byte) (s : State) : Outcome :=
  .next (query (s.at t) seq fun s => answerTableRow s table row selector)

/-- VALVE_RECORD (R13, R78, R129). -/
def execValveRecord (t : Time) (seq valve : Byte) (s : State) : Outcome :=
  .next (query (s.at t) seq fun s => answerValve s valve)

/-- LEVEL_SET (R140). -/
def execLevelSet (t : Time) (seq valve : Byte) (s : State) : Outcome :=
  .next (query (s.at t) seq fun s => answerLevels s valve)

/-- STATION_RECORD (R101, R116). -/
def execStationRecord (t : Time) (seq position : Byte) (s : State) : Outcome :=
  .next (query (s.at t) seq fun s => answerStation s position)

/-- SCHEDULE (R76). -/
def execSchedule (t : Time) (seq offset : Byte) (s : State) : Outcome :=
  .next (query (s.at t) seq fun s => answerSchedule s offset)

/-- CAPTURE_HISTORY (R20). -/
def execCaptureHistory (t : Time) (seq : Byte) (s : State) : Outcome :=
  .next (query (s.at t) seq answerHistory)

/-- COUNTERS (R179). -/
def execCounters (t : Time) (seq : Byte) (s : State) : Outcome :=
  .next (query (s.at t) seq answerCounters)

/-- RING_STATS (R101). -/
def execRingStats (t : Time) (seq : Byte) (s : State) : Outcome :=
  .next (query (s.at t) seq answerRing)

/-! ## Commands -/

/-- CLEAR_FLAGS (R169, R180). -/
def execClearFlags (t : Time) (seq : Byte) (mask : BitVec 16) (s : State) : Outcome :=
  .next (command (s.at t) seq fun s => (clearFlags s mask, ok kindClearFlags))

/-- CLEAR_COUNTERS (R180). -/
def execClearCounters (t : Time) (seq : Byte) (s : State) : Outcome :=
  .next (command (s.at t) seq fun s => (clearCounters s, ok kindClearCounters))

/-- CLEAR_RING_STATS (R180). -/
def execClearRingStats (t : Time) (seq : Byte) (s : State) : Outcome :=
  .next (command (s.at t) seq fun s => (clearRingStats s, ok kindClearRingStats))

/-- CLEAR_LEVEL_FAULTS (R138). -/
def execClearLevelFaults (t : Time) (seq valve : Byte) (s : State) : Outcome :=
  .next (command (s.at t) seq fun s => clearLevelFaults s valve)

/-- TEST_FIRE (R74, R156). -/
def execTestFire (t : Time) (seq valve : Byte) (s : State) : Outcome :=
  .next (command (s.at t) seq fun s => testFire s valve)

/-- RESET_TRIP (R155). -/
def execResetTrip (t : Time) (seq group : Byte) (s : State) : Outcome :=
  .next (command (s.at t) seq fun s => resetTrip s group)

/-- RING_RESTART (R103, R181). -/
def execRingRestart (t : Time) (seq : Byte) (s : State) : Outcome :=
  .next (command (s.at t) seq ringRestartCommand)

/-- WARM_RESTART (R181). -/
def execWarmRestart (t : Time) (seq : Byte) (s : State) : Outcome :=
  .next (command (s.at t) seq warmRestartCommand)

end Sys2Proof.Machine
end

