-- ==== Sys2Proof/Machine/Dispatch.lean ====
section
/-! DEFINITION. The dispatch of a command to its meaning: one arm per constructor of `Instr`. -/

namespace Sys2Proof.Machine

def exec (i : Instr) (s : State) : Host.Outcome State Fault Refusal :=
  match i with
  | .powerUp => Sys2Proof.Machine.execPowerUp s
  | .comparatorEdge t line rising => Sys2Proof.Machine.execComparatorEdge t line rising s
  | .captureWatch t => Sys2Proof.Machine.execCaptureWatch t s
  | .cycleMarker t => Sys2Proof.Machine.execCycleMarker t s
  | .planningInstant t v => Sys2Proof.Machine.execPlanningInstant t v s
  | .ringCycleStart t => Sys2Proof.Machine.execRingCycleStart t s
  | .ringFrameReturn t input bytes => Sys2Proof.Machine.execRingFrameReturn t input bytes s
  | .latenessInstant t v => Sys2Proof.Machine.execLatenessInstant t v s
  | .confirmInstant t v => Sys2Proof.Machine.execConfirmInstant t v s
  | .holdInstant t v => Sys2Proof.Machine.execHoldInstant t v s
  | .releaseTimeout t v => Sys2Proof.Machine.execReleaseTimeout t v s
  | .deadlineInstant t v => Sys2Proof.Machine.execDeadlineInstant t v s
  | .bypassHoldTimer t g => Sys2Proof.Machine.execBypassHoldTimer t g s
  | .linkFrameDropped t cause => Sys2Proof.Machine.execLinkFrameDropped t cause s
  | .unknownFrame t type seq payload => Sys2Proof.Machine.execUnknownFrame t type seq payload s
  | .order t seq payload => Sys2Proof.Machine.execOrder t seq payload s
  | .orderWatchdog t => Sys2Proof.Machine.execOrderWatchdog t s
  | .holdTimer t => Sys2Proof.Machine.execHoldTimer t s
  | .transmitEnd t => Sys2Proof.Machine.execTransmitEnd t s
  | .tableWrite t seq table row contents => Sys2Proof.Machine.execTableWrite t seq table row contents s
  | .tableCommit t seq table => Sys2Proof.Machine.execTableCommit t seq table s
  | .tableDiscard t seq table => Sys2Proof.Machine.execTableDiscard t seq table s
  | .tableRow t seq table row selector => Sys2Proof.Machine.execTableRow t seq table row selector s
  | .valveRecord t seq valve => Sys2Proof.Machine.execValveRecord t seq valve s
  | .levelSet t seq valve => Sys2Proof.Machine.execLevelSet t seq valve s
  | .stationRecord t seq position => Sys2Proof.Machine.execStationRecord t seq position s
  | .schedule t seq offset => Sys2Proof.Machine.execSchedule t seq offset s
  | .captureHistory t seq => Sys2Proof.Machine.execCaptureHistory t seq s
  | .counters t seq => Sys2Proof.Machine.execCounters t seq s
  | .ringStats t seq => Sys2Proof.Machine.execRingStats t seq s
  | .clearFlags t seq mask => Sys2Proof.Machine.execClearFlags t seq mask s
  | .clearCounters t seq => Sys2Proof.Machine.execClearCounters t seq s
  | .clearRingStats t seq => Sys2Proof.Machine.execClearRingStats t seq s
  | .clearLevelFaults t seq valve => Sys2Proof.Machine.execClearLevelFaults t seq valve s
  | .testFire t seq valve => Sys2Proof.Machine.execTestFire t seq valve s
  | .resetTrip t seq group => Sys2Proof.Machine.execResetTrip t seq group s
  | .ringRestart t seq => Sys2Proof.Machine.execRingRestart t seq s
  | .warmRestart t seq => Sys2Proof.Machine.execWarmRestart t seq s

end Sys2Proof.Machine
end

