-- ==== Sys2Proof/Machine/Timers.lean ====
section
/-! DEFINITION. What one count of the timebase does when no command waits: the timebase moves on by
one, and the event of every armed instant that it has reached is put in the queue, in one fixed
order (R5, R7; log entry 4). -/

namespace Sys2Proof.Machine

/-- The event, if its instant has been reached. -/
def dueEvent (s : State) (instant : Option Time) (c : Instr) : List Instr :=
  if s.reached instant then [c] else []

/-- The events of one instant of the live records, in schedule order. -/
def dueRecords (s : State) (instant : FireRecord → Option Time) (c : Valve → Instr) :
    List Instr :=
  s.fsc.records.flatMap fun r => dueEvent s (instant r) (c r.valve)

/-- The plannings whose instants have been reached, in the order of their times. -/
def duePlannings (s : State) : List Instr :=
  (planningOrder s fun p => s.reached (some p.time)).map fun v => .planningInstant s.now v

/-- The deadlines that have been reached, in valve order. -/
def dueDeadlines (s : State) : List Instr :=
  (List.finRange 24).flatMap fun v => dueEvent s (deadlineOf s v) (.deadlineInstant s.now v)

/-- The events of every armed instant that the timebase has reached. -/
def dueEvents (s : State) : List Instr :=
  dueEvent s s.pru.watch (.captureWatch s.now) ++
  dueEvent s s.pru.marker (.cycleMarker s.now) ++
  duePlannings s ++
  dueDeadlines s ++
  dueRecords s FireRecord.latenessAt (.latenessInstant s.now) ++
  dueRecords s FireRecord.confirmAt (.confirmInstant s.now) ++
  dueRecords s FireRecord.holdAt (.holdInstant s.now) ++
  dueRecords s FireRecord.releaseAt (.releaseTimeout s.now) ++
  ((List.finRange 2).flatMap fun g =>
    dueEvent s s.groups[g].holdTimer (.bypassHoldTimer s.now g)) ++
  dueEvent s (watchdogOf s) (.orderWatchdog s.now) ++
  dueEvent s (holdTimerOf s) (.holdTimer s.now) ++
  dueEvent s s.rgm.cycleAt (.ringCycleStart s.now) ++
  dueEvent s (sendingEnd s) (.transmitEnd s.now)

/-- One count of the timebase with no command waiting (R5). -/
def tick (s : State) : State :=
  let s := s.at (s.now + 1#32)
  { s with pending := dueEvents s }

end Sys2Proof.Machine
end

