-- ==== Sys2Proof/Safety.lean ====
section
/-! DEFINITION. What the manual promises of every state of the part, as predicates on a state: the
bounds and laws of the Fire Schedule, the period limits, the correction and recovery limits, the
bounded buffers, the tables in range, and the laws of the order states and of the groups; and what the
statements say in common of a trip, a ring restart, a protective revision, a commutation failure and a
returning frame. -/

namespace Sys2Proof.Machine

/-! ## Fire Schedule (R50, R57, R60, R71) -/

/-- No valve has more than two live records (R57). -/
def RecordsBounded (s : State) : Prop := ∀ v, (s.recordsOf v).length ≤ Config.recordsPerValve

/-- No two live records of one valve carry the same fire sequence number (R57, R60). -/
def SequencesDistinct (s : State) : Prop := ∀ v, ((s.recordsOf v).filterMap FireRecord.seq).Nodup

/-- The BYPASS records of a bridge all lie in one leg (R71). -/
def OneLegPerBridge (s : State) : Prop :=
  ∀ x ∈ s.fsc.records, ∀ y ∈ s.fsc.records, x.isBypass = true → y.isBypass = true →
    valveBridge x.valve = valveBridge y.valve → valveLeg x.valve = valveLeg y.valve

/-- The angle of every NORMAL record lies between the α limits of its planning (R38, R41, R42, R50). -/
def AnglesHeld (s : State) : Prop :=
  ∀ r ∈ s.fsc.records, ∀ n, r.body = .normal n → n.inputs.alphaMin ≤ n.alphaEff ∧ n.alphaEff ≤ n.inputs.alphaMax

/-! ## Phase Reference Unit (R11, R19, R26) -/

/-- The period lies in P_min..P_max of the active Converter Table (R19). -/
def PeriodHeld (s : State) : Prop :=
  s.tbs.converter.periodMin ≤ s.pru.period ∧ s.pru.period ≤ s.tbs.converter.periodMax

/-- In UNLOCKED neither the cycle marker nor the capture watch is armed (R26, R32, R33). -/
def UnlockedIdle (s : State) : Prop :=
  s.pru.lock = .unlocked → s.pru.marker = none ∧ s.pru.watch = none

/-! ## Extinction Monitor (R123, R126, R127) -/

/-- Every gamma correction lies in 0..C_max, every recovery counter in 0..N_cf, and a repeat count
is at most 255, and 0 whenever the recovery counter is 0 (R123, R125, R126, R127). -/
def CorrectionsHeld (s : State) : Prop :=
  (∀ b : Bridge, 0 ≤ s.exm.correction[b] ∧ s.exm.correction[b] ≤ s.tbs.limits.cMax) ∧
    ∀ g : Group, s.exm.recovery[g] ≤ s.tbs.limits.nCf ∧ s.exm.repeats[g] ≤ 255 ∧
      (s.exm.recovery[g] = 0 → s.exm.repeats[g] = 0)

/-! ## Buffers (R20, R128, R134, R165, R166) -/

/-- A failed-level set holds at most 16 distinct level numbers, ascending, each within 1..the levels
installed (R132, R134). -/
def LevelsListed (r : LevelRecord) : Prop :=
  r.failed.length ≤ Config.failedLevelLimit ∧ r.failed.Pairwise (fun a b => a.1 < b.1) ∧
    ∀ x ∈ r.failed, 1 ≤ x.1 ∧ x.1 ≤ r.installed

/-- The capture history and the measurement windows hold at most 12 entries, and every failed-level set
keeps its law (R20, R128, R132, R134). -/
def BuffersBounded (s : State) : Prop :=
  s.pru.history.length ≤ Config.historyLength ∧
    (∀ g : Group, s.exm.windows[g].length ≤ Config.windowLength) ∧
    ∀ v : Valve, LevelsListed s.lvm.levels[v]

/-- The output queue holds at most one STATUS and three REPLYs, and none while the transmitter is
idle (R165, R166). -/
def QueueBounded (s : State) : Prop :=
  replyCount s.olp.queue ≤ Config.replyPlaces ∧ s.olp.queue.count .status ≤ 1 ∧
    (s.olp.sending = none → s.olp.queue = [])

/-! ## Tables (R173, R174) -/

/-- The field values of a row of a table are in range (R173, R175). -/
def rowInRange (id : TableId) (xs : List Int) : Bool :=
  (firstBadField id 1 (rowFields id) xs).isNone

/-- The active tables hold rows in range that meet the conditions at commit, and the Station Table
serves each valve once (R173, R174). -/
def ActiveInRange (t : Tbs) : Prop :=
  (rowInRange .limits t.limits.toFields && t.limits.valid) = true ∧
    (∀ b : Fin 4, rowInRange .overlap t.overlap[b].toList = true) ∧
    (rowInRange .converter t.converter.toFields && t.converter.valid) = true ∧
    (rowInRange .ring t.ring.toFields && t.ring.valid) = true ∧
    ∀ st, t.station = some st → (∀ p : RingPos, rowInRange .station st[p].toFields = true) ∧
      ∀ p q : RingPos, st[p].valve = st[q].valve → p = q

/-- The rows of the open shadows are in range (R173, R175). -/
def ShadowsInRange (t : Tbs) : Prop :=
  (∀ x, t.limitsShadow = some x → rowInRange .limits x.toFields = true) ∧
    (∀ x, t.overlapShadow = some x → ∀ b : Fin 4, rowInRange .overlap x[b].toList = true) ∧
    (∀ x, t.converterShadow = some x → rowInRange .converter x.toFields = true) ∧
    (∀ x, t.ringShadow = some x → rowInRange .ring x.toFields = true) ∧
    ∀ x, t.stationShadow = some x → ∀ p : RingPos, ∀ row, x[p] = some row →
      rowInRange .station row.toFields = true

/-- Every table, active or shadow, is in range (R173 to R175, R177). -/
def TablesInRange (s : State) : Prop := ActiveInRange s.tbs ∧ ShadowsInRange s.tbs

/-! ## Orders and groups (R109, R137, R143 to R155, R163) -/

/-- The order watchdog is armed in ORDER_OK only, the hold timer in ORDER_HOLD only (R163). -/
def OrderTimersHeld (s : State) : Prop :=
  (s.olp.orderState = .ok ↔ s.olp.watchdog.isSome = true) ∧
    (s.olp.orderState = .hold ↔ s.olp.holdTimer.isSome = true)

/-- A group has bypass pairs only in BYPASSING or TRIPPED, an armed bypass hold timer only in
BYPASSING, and a trip cause just in TRIPPED (R147, R148, R152, R155). -/
def GroupHeld (r : GroupRecord) : Prop :=
  (r.state ≠ .bypassing → r.state ≠ .tripped → r.pairs = fill 2 none) ∧
    (r.holdTimer.isSome = true → r.state = .bypassing) ∧
    (r.firstCause.isSome = true ↔ r.state = .tripped) ∧
    (BoolSet.any r.tripCauses = true ↔ r.state = .tripped)

/-- Both groups keep their law (R147, R148, R152, R155). -/
def GroupsHeld (s : State) : Prop := ∀ g : Group, GroupHeld s.groups[g]

/-- A BLOCKED group has no live record but TEST records (R150), and BYPASS is not its command in force
(R143). A group is DEBLOCKING or RUNNING only while the stations of its valves are ENROLLED and none of
its valves is OVER_LIMIT (R109, R137), and neither BLOCK nor BYPASS is its command in force (R143). A
bypass waits only in BYPASSING or TRIPPED (R71, R73, R147, R152). -/
def GroupFits (s : State) (g : Group) : Prop :=
  let x := s.groups[g].state
  let command := commandOf s.olp.order.flags[g]
  (x = .blocked → command ≠ .bypass ∧
    ∀ r ∈ s.fsc.records, valveGroup r.valve = g → r.isTest = true) ∧
    (x = .deblocking ∨ x = .running → command ≠ .block ∧ command ≠ .bypass ∧
      ∀ v : Valve, valveGroup v = g →
        valveEnrolled s v = true ∧ s.lvm.levels[v].state ≠ .overLimit) ∧
    ∀ v : Valve, valveGroup v = g → s.fsc.waiting[v] = true → x = .bypassing ∨ x = .tripped

/-- Both groups fit the records, stations, levels and orders (R109, R137, R143, R150). -/
def GroupsFit (s : State) : Prop := ∀ g : Group, GroupFits s g

/-- A live PLANNED record is NORMAL (R56), and its group is DEBLOCKING or RUNNING: the group plans in them
only (R36), and each way out of them cancels what is PLANNED (R69, R146, R147, R152). -/
def PlannedFits (s : State) : Prop :=
  ∀ r ∈ s.fsc.records, r.state = .planned → r.isNormal = true ∧
    (s.groups[valveGroup r.valve].state = .deblocking ∨
      s.groups[valveGroup r.valve].state = .running)

/-! ## What several statements say of a state -/

/-- A group has been tripped by a cause alone (R152): the state, the first cause, the cause set and the
trip flag. -/
def TrippedBy (t : State) (g : Group) (c : TripCause) : Prop :=
  t.groups[g].state = .tripped ∧ t.groups[g].firstCause = some c ∧
    t.groups[g].tripCauses = setAt (fill 7 false) c.bit true ∧ t.hasFlag (tripFlag g) = true

/-- The bypass pair of a bridge: the leg of its last fired valve, or leg (1,4) when it has none (R147). -/
def pairOf (u : State) (b : Bridge) : Leg :=
  match u.fsc.lastFired[b] with
  | none => .leg14
  | some v => valveLeg v

/-- `t` comes from `u`, in which a group has just become BLOCKED with no live record but TEST records and
its deblock conditions evaluated, by the evaluation of the flags in BLOCKED (R142, R143, R149). BYPASS
enters BYPASSING: the pair of each bridge is chosen, a cancel decision is counted, and each valve of the pairs
has a BYPASS record two ring intervals ahead, or waits where it holds two records (R71, R147). DEBLOCK with
an empty inhibit set enters DEBLOCKING (R145). Else `t` is `u`. -/
def TakesFlags (u t : State) (g : Group) : Prop :=
  let paired (v : Valve) : Bool :=
    decide (valveGroup v = g) && decide (valveLeg v = pairOf u (valveBridge v))
  let room (v : Valve) : Bool := decide ((u.recordsOf v).length < 2)
  let placed := ((List.finRange 24).filter fun v => paired v && room v).map fun v =>
    newBypass v (addTb u.now (2 * u.tbs.ring.ringInterval : Nat))
  match commandOf u.olp.order.flags[g] with
  | .bypass =>
    t.fsc.records.Perm (u.fsc.records ++ placed) ∧
      t = { u with
        groups := setAt u.groups g { u.groups[g] with
          state := .bypassing, holdTimer := none
          pairs := Vector.ofFn fun side => some (pairOf u (groupBridge g side)) }
        fsc := { u.fsc with
          records := t.fsc.records
          waiting := Vector.ofFn fun v => if paired v then !room v else u.fsc.waiting[v]
          decisionCount := u.fsc.decisionCount + 1#32 } }
  | .deblock =>
    t = if BoolSet.any u.groups[g].inhibits = true then u
      else { u with
        groups := setAt u.groups g { u.groups[g] with
          state := .deblocking, fired := fill 12 false }
        fac := { u.fac with
          firstFiring := setAt u.fac.firstFiring g true
          startPending := Vector.ofFn fun b =>
            u.fac.startPending[b] || decide (b = groupBridge g 0) || decide (b = groupBridge g 1) } }
  | _ => t = u

/-- The Ring Master's values after a ring restart at `n` (R103, R117), with a Station Table active (`table`)
or with none. With one the ring is FORWARD and the first cycle, which carries nothing, is sent at once. -/
def restartedRing (r : Rgm) (table : Bool) (interval : Nat) (n : Time) : Rgm :=
  let cleared : Rgm := { r with
    stations := fill 24 Station.reset, items := []
    loopErrF := fill 24 false, loopErrR := fill 24 false
    failRun := 0, overrunRun := 0, probeCount := 0
    downCause := .none, downPattern := none, cycleAt := none, cycle := none }
  if table then
    { cleared with
      link := .forward
      cycleNumber := r.cycleNumber + 1#16
      sendBefore := r.sendLatest
      sendLatest := some n
      cycleAt := some (addTb n interval)
      cycle := some {
        probe := false, pattern := .forward
        frames := [⟨.f, r.cycleNumber + 1#16, n, [], []⟩]
        returnedF := false, returnedR := false, overrun := false, lastReturn := none
        heardF := fill 24 false, heardR := fill 24 false } }
  else cleared

/-- The due time and the angle that the stages give a record again from its stored inputs, with the
correction and the recovery counter of `t` and its A_cf, and whether the floor was applied (R49). -/
def recomputed (t : State) (v : Valve) (i : PlanInputs) : Time × Int × Bool :=
  let advance : Int := if 0 < t.exm.recovery[valveGroup v] then t.tbs.limits.aCf else 0
  let limit := 18000 - i.gammaMinEff - i.overlap - t.exm.correction[valveBridge v] - advance
  let bounded := min (min (max i.alphaOrd i.alphaMin) i.alphaMax) (max limit i.alphaMin)
  let alpha := match i.rateReference with
    | none => bounded
    | some last => max i.alphaMin (min bounded (last + i.deltaAlphaUp))
  (timeAt i.target (phase t.tbs.converter v + alpha) i.period, alpha, decide (limit < i.alphaMin))

/-- The recomputed due time is earlier, and too near to be sent any more (R50). -/
def revisedTooLate (t : State) (r : FireRecord) : Bool :=
  match r.body with
  | .normal n =>
    let due := (recomputed t r.valve n.inputs).1
    before due r.due && !atOrBefore (addTb t.now (2 * t.tbs.ring.ringInterval : Nat)) due
  | _ => false

/-- A record after its recomputation: with a due time that is earlier and can still be sent it takes due
time, angle and REVISED, and its instants move with it; otherwise it is left unchanged (R50, R58). -/
def revisedTo (t : State) (r : FireRecord) : FireRecord :=
  match r.body with
  | .normal n =>
    let (due, alpha, _) := recomputed t r.valve n.inputs
    let lateness := addTb due (-(t.tbs.ring.ackMargin : Int))
    if before due r.due = true ∧ revisedTooLate t r = false then
      { r with
        body := .normal { n with alphaEff := alpha }
        due := due
        revised := true
        latenessAt := if passed t.now lateness then none else r.latenessAt.map fun _ => lateness
        confirmAt := r.confirmAt.map fun _ => addTb due t.tbs.ring.confirmTimeout }
    else r
  | _ => r

/-- `t` comes from `s` by a protective revision of a scope, with the corrections and recovery counters of `t`
(R49 to R51): every PLANNED NORMAL record of the scope is recomputed, every other record is as it was; no due
time becomes later; a record revised alone stands in schedule order (of equal due times log entry 35, of due
times 2^31 tb apart log entry 40); the revision-late counter counts those that come too late, GAMMA_FLOOR is
set if the floor was applied, and the rest of the calculator and of the Fire Schedule stands. -/
def Revises (s t : State) (scope : Valve → Bool) : Prop :=
  let fit (r : FireRecord) : Bool := r.isNormal && decide (r.state = .planned) && scope r.valve
  let floored (r : FireRecord) : Bool :=
    match r.body with
    | .normal n => (recomputed t r.valve n.inputs).2.2
    | _ => false
  let late := (s.fsc.records.filter fun r => fit r && revisedTooLate t r).length
  t.fsc.records.Perm (s.fsc.records.map fun r => if fit r then revisedTo t r else r) ∧
    (∀ r ∈ s.fsc.records, before r.due (revisedTo t r).due = false) ∧
    (∀ r ∈ s.fsc.records, fit r = true → revisedTo t r ≠ r →
      (s.fsc.records.erase r).any fit = false →
      t.fsc.records = insertBy schedBefore (revisedTo t r) (s.fsc.records.erase r)) ∧
    t.fsc = { s.fsc with records := t.fsc.records } ∧
    t.fac = { s.fac with
      revisionLate := BitVec.ofNat 16 (min 65535 (s.fac.revisionLate.toNat + late)) } ∧
    t.hasFlag .gammaFloor =
      (s.hasFlag .gammaFloor || s.fsc.records.any fun r => fit r && floored r)

/-- `t` comes from `s` by a commutation failure declared for a group that fires (R125): the repeat count,
the recovery counter and the CF count step, CF_EVENT is set, and the group's PLANNED NORMAL records are
revised (R49); a repeat count at the CF trip count trips the group (R152). `x` is what the Extinction
Monitor holds before the declaration. -/
def Declares (s t : State) (g : Group) (x : Exm) : Prop :=
  t.exm = { x with
    repeats := setAt x.repeats g (if 0 < x.recovery[g] then min 255 (x.repeats[g] + 1) else 1)
    recovery := setAt x.recovery g s.tbs.limits.nCf
    cfCount := setAt x.cfCount g (satInc x.cfCount[g]) } ∧
    t.hasFlag .cfEvent = true ∧
    (t.exm.repeats[g] < s.tbs.limits.cfTripCount →
      t.groups = s.groups ∧ Revises s t fun v => decide (valveGroup v = g)) ∧
    (s.tbs.limits.cfTripCount ≤ t.exm.repeats[g] → TrippedBy t g .repeatedCf)

/-- A marker and an input fit Table 5-2 for a cycle, and the half has not been taken before (R86). -/
def FitsCycle (c : RingCycle) (m : Marker) (input : Port) : Prop :=
  match c.probe, c.pattern, m with
  | true, _, .probe => input = .fIn ∧ c.returnedF = false
  | false, .forward, .f => input = .fIn ∧ c.returnedF = false
  | false, .reverse, .r => input = .rIn ∧ c.returnedR = false
  | false, .loopback, .f => c.returnedF = false
  | false, .loopback, .r => c.returnedR = false
  | _, _, _ => False

/-- The bytes that come back at an input are a timely intact return, with marker `m`, of the latest cycle
`c`: in FORWARD, in REVERSE, a half on either input, or a probe (R86); its one slot that is not empty is
that of position `p`, whose Station Table row is `row`, and it is good (R185). -/
def ReturnsOneSlot (s : State) (input : Port) (bytes : List Byte) (c : RingCycle) (m : Marker)
    (p : RingPos) (row : StationRow) (lineError turned : Bool) (body : SlotBody) : Prop :=
  (∃ slots, readFrame bytes = .complete s.rgm.cycleNumber (some m) slots ∧
    slots.map judgeSlot =
      (List.finRange 24).map fun q => if q = p then .good lineError turned body else .empty) ∧
    s.rgm.cycle = some c ∧ rowAt s p = some row ∧ FitsCycle c m input

end Sys2Proof.Machine
end

