-- ==== Sys2Proof/WellFormed.lean ====
section
/-! DEFINITION. Which commands can arise: the payloads and lengths that the links can carry
(R159, R160, R184, Table 12-7). The types of the other operands admit no ill-formed value. -/

namespace Sys2Proof

open Sys2Proof.Machine

/-- A payload that an Order Link frame can hold (R159). -/
def payloadFits (p : List Byte) : Bool := decide (p.length ≤ Config.maxPayload)

/-- The largest CYCLE frame in bytes (Table 12-7). -/
abbrev maxCycleFrame : Nat := 811

/-- The command can arise (R159, R160, R184). -/
def Instr.wf : Instr → Bool
  | .powerUp => true
  | .comparatorEdge _ _ _ => true
  | .captureWatch _ => true
  | .cycleMarker _ => true
  | .planningInstant _ _ => true
  | .ringCycleStart _ => true
  | .ringFrameReturn _ _ bytes => decide (bytes.length ≤ maxCycleFrame)
  | .latenessInstant _ _ => true
  | .confirmInstant _ _ => true
  | .holdInstant _ _ => true
  | .releaseTimeout _ _ => true
  | .deadlineInstant _ _ => true
  | .bypassHoldTimer _ _ => true
  | .linkFrameDropped _ _ => true
  | .unknownFrame _ type _ payload =>
    payloadFits payload && decide (type ≠ 1#8) && !lengthOk type payload
  | .order _ _ payload => payloadFits payload
  | .orderWatchdog _ => true
  | .holdTimer _ => true
  | .transmitEnd _ => true
  | .tableWrite _ _ table row contents =>
    payloadFits (table :: row :: contents) && lengthOk 4#8 (table :: row :: contents)
  | .tableCommit _ _ _ => true
  | .tableDiscard _ _ _ => true
  | .tableRow _ _ _ _ _ => true
  | .valveRecord _ _ _ => true
  | .levelSet _ _ _ => true
  | .stationRecord _ _ _ => true
  | .schedule _ _ _ => true
  | .captureHistory _ _ => true
  | .counters _ _ => true
  | .ringStats _ _ => true
  | .clearFlags _ _ _ => true
  | .clearCounters _ _ => true
  | .clearRingStats _ _ => true
  | .clearLevelFaults _ _ _ => true
  | .testFire _ _ _ => true
  | .resetTrip _ _ _ => true
  | .ringRestart _ _ => true
  | .warmRestart _ _ => true

end Sys2Proof
end

