-- ==== Sys2Proof/Certificates/Slice0/Obligations.lean ====
section
/-! DEFINITION. The statements about the model. -/

open Sys2Proof Sys2Proof.Machine

/-! ## The queue of commands -/

/-- One step takes the command at the front of the queue. -/
def Obligations.StepTakesTheFrontCommand : Prop :=
  ∀ (c : Instr) (rest : List Instr) (s : State),
    step { s with pending := c :: rest } = exec c { s with pending := rest }

/-- Every command has a next state in every state; it leaves the queue as it is, and the timebase
reads the command's time (R5; log entry 1: the time operand is the model's). -/
def Obligations.EveryCommandCompletes : Prop :=
  ∀ (c : Instr) (s : State), ∃ t, exec c s = .next t ∧ t.pending = s.pending ∧
    ∀ n, c.time? = some n → t.now = n

/-- The model's choice (log entry 4): with no command waiting one count passes, and the queue then holds
just the events, at that count, of the armed instants that it has reached, of every kind; nothing else
changes (R5, R7). -/
def Obligations.IdleStepCountsTheTimebase : Prop :=
  ∀ s : State, s.pending = [] →
    let n := s.now + 1#32
    let due (i : Option Time) : Prop := ∃ x, i = some x ∧ passed n x = true
    ∃ q, step s = .next { s with now := n, pending := q } ∧
      ∀ c : Instr, c ∈ q ↔ c.time? = some n ∧
        match c with
        | .captureWatch _ => due s.pru.watch
        | .cycleMarker _ => due s.pru.marker
        | .planningInstant _ v => due (s.fac.plannings[v].map Planning.time)
        | .deadlineInstant _ v =>
          ∃ p, s.exm.pendings[v] = some p ∧ p.expired = false ∧ passed n p.deadline = true
        | .latenessInstant _ v => ∃ r ∈ s.fsc.records, r.valve = v ∧ due r.latenessAt
        | .confirmInstant _ v => ∃ r ∈ s.fsc.records, r.valve = v ∧ due r.confirmAt
        | .holdInstant _ v => ∃ r ∈ s.fsc.records, r.valve = v ∧ due r.holdAt
        | .releaseTimeout _ v => ∃ r ∈ s.fsc.records, r.valve = v ∧ due r.releaseAt
        | .bypassHoldTimer _ g => due s.groups[g].holdTimer
        | .orderWatchdog _ => s.olp.orderState = .ok ∧ due s.olp.watchdog
        | .holdTimer _ => s.olp.orderState = .hold ∧ due s.olp.holdTimer
        | .ringCycleStart _ => due s.rgm.cycleAt
        | .transmitEnd _ => due (s.olp.sending.map Sending.ends)
        | _ => False

/-! ## Rules about every command -/

/-- A QUERY changes no state but the output queue, the frame being sent and, when it is dropped, the
BUSY_DROP counter (R166, R179). -/
def Obligations.QueriesChangeNothing : Prop :=
  ∀ (c : Instr) (s t : State),
    (match c with
     | .tableRow _ _ _ _ _ | .valveRecord _ _ _ | .levelSet _ _ _ | .stationRecord _ _ _
     | .schedule _ _ _ | .captureHistory _ _ | .counters _ _ | .ringStats _ _ => True
     | _ => False) →
    exec c s = .next t →
    ∃ queue sending drops,
      t = { s with
        now := t.now
        olp := { s.olp with queue := queue, sending := sending, busyDrop := drops } }

/-- A request refused with a result other than OK changes no state: tables, tests, resets, restarts
and level clears (R182). -/
def Obligations.RefusedRequestsChangeNothing : Prop :=
  ∀ (s : State) (a b : Byte) (xs : List Byte),
    ((writeTable s a b xs).2.result ≠ .ok → (writeTable s a b xs).1 = s) ∧
    ((commitTable s a).2.result ≠ .ok → (commitTable s a).1 = s) ∧
    ((discardTable s a).2.result ≠ .ok → (discardTable s a).1 = s) ∧
    ((testFire s a).2.result ≠ .ok → (testFire s a).1 = s) ∧
    ((resetTrip s a).2.result ≠ .ok → (resetTrip s a).1 = s) ∧
    ((clearLevelFaults s a).2.result ≠ .ok → (clearLevelFaults s a).1 = s) ∧
    ((ringRestartCommand s).2.result ≠ .ok → (ringRestartCommand s).1 = s) ∧
    ((warmRestartCommand s).2.result ≠ .ok → (warmRestartCommand s).1 = s)

/-- Only TABLE_COMMIT and power-up change an active table or the generation, and only the three table
frames and power-up change a shadow (R172, R175 to R177). -/
def Obligations.OnlyCommitsChangeActiveTables : Prop :=
  ∀ (c : Instr) (s t : State), exec c s = .next t → c ≠ .powerUp →
    (∀ m n k, c ≠ .tableCommit m n k) →
    t.tbs.limits = s.tbs.limits ∧ t.tbs.overlap = s.tbs.overlap ∧
      t.tbs.converter = s.tbs.converter ∧ t.tbs.ring = s.tbs.ring ∧
      t.tbs.station = s.tbs.station ∧ t.tbs.generation = s.tbs.generation ∧
      ((∀ m n k, c ≠ .tableDiscard m n k) → (∀ m n k r x, c ≠ .tableWrite m n k r x) →
        t.tbs = s.tbs)

/-- A sticky flag that is set stays set but for CLEAR_FLAGS and power-up (R169). -/
def Obligations.OnlyClearFlagsClearsAFlag : Prop :=
  ∀ (c : Instr) (s t : State) (f : StickyFlag), exec c s = .next t → c ≠ .powerUp →
    (∀ m n k, c ≠ .clearFlags m n k) → s.hasFlag f = true → t.hasFlag f = true

/-- Each part of the state changes at its own commands only: the order in force, the last accepted
sequence and the AC state at an ORDER, the order state also at the two order timers; the phase model,
lock state, history, marker and watch at edges, watch, marker, TABLE_COMMIT, CLEAR_COUNTERS and
WARM_RESTART; the level records at returning frames, TABLE_COMMIT, CLEAR_COUNTERS and
CLEAR_LEVEL_FAULTS; all of them at power-up (R33, R133, R138, R141, R162 to R164, R171, R180). -/
def Obligations.BlocksChangeByTheirOwnCommands : Prop :=
  ∀ (c : Instr) (s t : State), exec c s = .next t → c ≠ .powerUp →
    ((∀ m n p, c ≠ .order m n p) →
      t.olp.order = s.olp.order ∧ t.olp.lastSeq = s.olp.lastSeq ∧ t.olp.ac = s.olp.ac ∧
        ((∀ m, c ≠ .orderWatchdog m) → (∀ m, c ≠ .holdTimer m) →
          t.olp.orderState = s.olp.orderState ∧ t.olp.watchdog = s.olp.watchdog ∧
            t.olp.holdTimer = s.olp.holdTimer)) ∧
    ((match c with
      | .comparatorEdge _ _ _ | .captureWatch _ | .cycleMarker _ | .tableCommit _ _ _
      | .clearCounters _ _ | .warmRestart _ _ => False
      | _ => True) → t.pru = s.pru) ∧
    ((match c with
      | .ringFrameReturn _ _ _ | .tableCommit _ _ _ | .clearCounters _ _
      | .clearLevelFaults _ _ _ => False
      | _ => True) → t.lvm = s.lvm)

/-! ## Invariants -/

/-- The state after reset meets every invariant stated below. -/
def Obligations.ResetMeetsTheInvariants : Prop :=
  RecordsBounded State.reset ∧ SequencesDistinct State.reset ∧ OneLegPerBridge State.reset ∧
    AnglesHeld State.reset ∧ PeriodHeld State.reset ∧ UnlockedIdle State.reset ∧
    CorrectionsHeld State.reset ∧ BuffersBounded State.reset ∧ QueueBounded State.reset ∧
    TablesInRange State.reset ∧ OrderTimersHeld State.reset ∧ GroupsHeld State.reset ∧
    GroupsFit State.reset ∧ PlannedFits State.reset

/-- A step keeps the bound of two live records per valve, and with it the distinct sequence numbers of
a valve's records (R57, R60). -/
def Obligations.StepKeepsRecordsBoundedAndNumbered : Prop :=
  ∀ s t : State, step s = .next t → RecordsBounded s →
    RecordsBounded t ∧ (SequencesDistinct s → SequencesDistinct t)

/-- A step keeps the BYPASS records of every bridge in one leg (R71), and the angle of every NORMAL
record between the α limits of its planning, the tables in range being the premise (R38, R42, R50). -/
def Obligations.StepKeepsLegsAndAngles : Prop :=
  ∀ s t : State, step s = .next t →
    (OneLegPerBridge s → OneLegPerBridge t) ∧
      (TablesInRange s → AnglesHeld s → AnglesHeld t)

/-- A step keeps the period in P_min..P_max of the active Converter Table (R19), and a unit in
UNLOCKED without an armed marker or watch (R26). -/
def Obligations.StepKeepsThePeriod : Prop :=
  ∀ s t : State, step s = .next t → (PeriodHeld s → PeriodHeld t) ∧ (UnlockedIdle s → UnlockedIdle t)

/-- A step keeps every gamma correction in 0..C_max, every recovery counter in 0..N_cf and every
repeat count at most 255, and 0 whenever the recovery counter is 0 (R123, R125 to R127); the tables in
range are the premise. -/
def Obligations.StepKeepsCorrections : Prop :=
  ∀ s t : State, step s = .next t → TablesInRange s → CorrectionsHeld s → CorrectionsHeld t

/-- A step keeps the bounds of the capture history and the measurement windows (R20, R128), every
failed-level set ascending, with distinct level numbers within 1..the levels installed and at most 16
entries (R132, R134), and the bounds of the output queue (R165, R166). -/
def Obligations.StepKeepsBuffersBounded : Prop :=
  ∀ s t : State, step s = .next t →
    (BuffersBounded s → BuffersBounded t) ∧ (QueueBounded s → QueueBounded t)

/-- A step keeps every table in range, and the Station Table one to one (R173 to R175, R177). -/
def Obligations.StepKeepsTablesInRange : Prop :=
  ∀ s t : State, step s = .next t → TablesInRange s → TablesInRange t

/-- A step keeps the laws of the order timers (R163) and of the groups' pairs, hold timers and trip
causes (R147, R148, R152, R155). It keeps every live PLANNED record NORMAL and its group in DEBLOCKING or
RUNNING (R36, R56, R69, R147). With that as a premise it keeps a BLOCKED group without a live record
but TEST records (R150), and a group in DEBLOCKING or RUNNING with the stations of its valves ENROLLED and
none of its valves OVER_LIMIT (R109, R137); with these, that the command in force is not BYPASS in BLOCKED,
nor BLOCK or BYPASS in DEBLOCKING and RUNNING (R143), and that a bypass waits in BYPASSING and TRIPPED
only. -/
def Obligations.StepKeepsOrderTimersAndGroups : Prop :=
  ∀ s t : State, step s = .next t →
    (OrderTimersHeld s → OrderTimersHeld t) ∧ (GroupsHeld s → GroupsHeld t) ∧
      (PlannedFits s → PlannedFits t ∧ (GroupsFit s → GroupsFit t))

/-! ## Power-up -/

/-- Power-up at the Phase Reference Unit, and the first edge after it, which starts acquisition as R21
specifies (R32). -/
def Obligations.PowerUpAtThePhaseReference : Prop :=
  ∀ s : State, ∃ t, exec .powerUp s = .next t ∧
    t.pru.lock = .unlocked ∧ t.pru.period = 800000 ∧ t.pru.origin = 0#32 ∧
    t.pru.acquisition = 0 ∧ t.pru.rejectRun = 0 ∧ t.pru.holdover = 0 ∧
    (∀ i : Fin 3, t.pru.lastEdge[i] = none) ∧ t.pru.history = [] ∧
    t.pru.marker = none ∧ t.pru.watch = none ∧ t.pru.glitch = 0#16 ∧
    t.tbs.converter = ConverterTable.defaults ∧
    ∀ (n : Time) (line : Line) (rising : Bool),
      ∃ u, exec (.comparatorEdge n line rising) t = .next u ∧
        u.pru.lock = .acquiring ∧ u.pru.acquisition = 0 ∧ u.pru.rejectRun = 0 ∧
        u.pru.period = 800000 ∧
        u.pru.origin = addTb n (-(angleToTb (edgeIndex line rising * 6000 : Nat) 800000)) ∧
        u.pru.history = [⟨edgeIndex line rising, n, 0, .initial⟩] ∧
        u.pru.marker = some (addTb u.pru.origin 800000) ∧
        u.pru.watch = some (addTb n 400000) ∧ u.pru.glitch = 0#16

/-- Power-up at the Ring Master (R102). -/
def Obligations.PowerUpAtTheRingMaster : Prop :=
  ∀ s : State, ∃ t, exec .powerUp s = .next t ∧
    t.rgm.link = .stopped ∧ t.rgm.downCause = .none ∧ t.rgm.downPattern = none ∧
    t.rgm.cycle = none ∧ t.rgm.cycleAt = none ∧ t.rgm.cycleNumber = 0#16 ∧
    t.rgm.sendLatest = none ∧ t.rgm.sendBefore = none ∧
    t.rgm.failRun = 0 ∧ t.rgm.overrunRun = 0 ∧ t.rgm.probeCount = 0 ∧
    (∀ p : RingPos, t.rgm.stations[p].state = .absent ∧ t.rgm.stations[p].miss = 0 ∧
      t.rgm.stations[p].timing = none ∧ t.rgm.stations[p].member = none ∧
      t.rgm.stations[p].inhibit = 0 ∧ t.rgm.stations[p].runStatus = none ∧
      t.rgm.stations[p].conduction = none) ∧
    t.rgm.items = [] ∧ t.rgm.fTurning = none ∧ t.rgm.rTurning = none ∧
    (∀ p : RingPos, t.rgm.loopErrF[p] = false ∧ t.rgm.loopErrR[p] = false) ∧
    t.rgm.scanCurrent = 0 ∧ t.rgm.scanMin = 0 ∧ t.rgm.scanMax = 0 ∧
    t.rgm.receiveErrors = 0#16 ∧ t.rgm.retries = 0#16 ∧ t.rgm.loopSwitches = 0#16

/-- Power-up at the other blocks: the timebase (R5), the valves' records (R14), the calculator (R53),
the Fire Schedule (R77), the enrolment records (R117), the Extinction Monitor (R131), the Level Monitor
(R141), the Group Controller (R158), the Order Link Port (R171) and the Table Store (R172). -/
def Obligations.PowerUpAtTheOtherBlocks : Prop :=
  ∀ s : State, ∃ t, exec .powerUp s = .next t ∧ t.now = 0#32 ∧
    (∀ v : Valve, t.fac.plannings[v] = none ∧ t.fsc.waiting[v] = false ∧
      t.fsc.valves[v].lastDue = none ∧ t.fsc.valves[v].lastAlpha = none ∧
      t.fsc.valves[v].lastOutcome = .none ∧ t.fsc.valves[v].misses = 0#16 ∧
      t.fsc.valves[v].fireCount = 0#16 ∧ t.fsc.valves[v].testOutcome = .none ∧
      t.exm.pendings[v] = none ∧ t.exm.lastGamma[v] = none ∧ t.exm.late[v] = false ∧
      t.lvm.levels[v].installed = 0 ∧ t.lvm.levels[v].redundancy = 0 ∧
      t.lvm.levels[v].failed = [] ∧ t.lvm.levels[v].overflow = false ∧
      t.lvm.levels[v].state = .healthy ∧ t.lvm.levels[v].protective = 0#16) ∧
    t.lvm.rangeErrors = 0#16 ∧ t.fac.scheduleConflict = 0#16 ∧ t.fac.revisionLate = 0#16 ∧
    t.fsc.records = [] ∧ t.fsc.decisionCount = 0#32 ∧
    t.fsc.fireLate = 0#16 ∧ t.fsc.fireMissed = 0#16 ∧ t.fsc.timingDeviation = 0#16 ∧
    t.fsc.unconfirmed = 0#16 ∧ t.exm.discard = 0#16 ∧
    (∀ p : RingPos, t.fsc.nextSeq[p] = 0#8 ∧ t.rgm.stations[p].lastIdent = none ∧
      t.rgm.stations[p].consistent = 0 ∧ t.rgm.stations[p].enrolledIdent = none ∧
      t.rgm.stations[p].mismatch = .none ∧ t.rgm.stations[p].age = 0#16 ∧
      t.rgm.stations[p].stuck = false) ∧
    (∀ b : Bridge, t.fsc.lastFired[b] = none ∧ t.exm.correction[b] = 0 ∧
      t.fac.startPending[b] = false) ∧
    (∀ g : Group, t.fac.alphaLast[g] = none ∧ t.fac.firstFiring[g] = false ∧
      t.fac.gammaLimiting[g] = false ∧ t.exm.recovery[g] = 0 ∧ t.exm.repeats[g] = 0 ∧
      t.exm.windows[g] = [] ∧ t.exm.cfCount[g] = 0#16 ∧
      t.groups[g].state = .blocked ∧ t.groups[g].firstCause = none ∧
      t.groups[g].tripCauses = fill 7 false ∧ t.groups[g].fired = fill 12 false ∧
      t.groups[g].pairs = fill 2 none ∧
      t.groups[g].holdTimer = none ∧ t.groups[g].inhibits = inhibitSet t g) ∧
    t.olp.order = ⟨18000, 0, 0, fill 2 ⟨false, false, false⟩⟩ ∧ t.olp.lastSeq = none ∧
    t.olp.orderState = .lost ∧ t.olp.watchdog = none ∧ t.olp.holdTimer = none ∧
    t.olp.ac = .low ∧ (∀ f, t.hasFlag f = false) ∧ t.olp.queue = [] ∧ t.olp.sending = none ∧
    t.olp.linkCrc = 0#16 ∧ t.olp.orderFormat = 0#16 ∧ t.olp.duplicate = 0#16 ∧
    t.olp.gap = 0#16 ∧ t.olp.clamp = 0#16 ∧ t.olp.busyDrop = 0#16 ∧
    t.tbs.limits = LimitsTable.defaults ∧ t.tbs.overlap = OverlapTable.defaults ∧
    t.tbs.converter = ConverterTable.defaults ∧ t.tbs.ring = RingTable.defaults ∧
    t.tbs.station = none ∧ t.tbs.generation = 0#16 ∧ ∀ id, hasShadow t.tbs id = false

/-! ## Phase Reference Unit -/

/-- An edge inside the holdoff of its line is counted and nothing else (R16), and in LOCKED or HOLDOVER
a capture outside the capture window is recorded as rejected and counted, and the model, the marker
and the watch stand (R17, R18, R20, R24, R25). -/
def Obligations.EdgesThatLeaveTheModel : Prop :=
  ∀ (s : State) (n : Time) (line : Line) (rising : Bool),
    (∀ l, s.pru.lastEdge[lineIndex line] = some l →
      ((n - l).toNat : Int) < angleToTb s.tbs.converter.edgeHoldoff s.pru.period →
      exec (.comparatorEdge n line rising) s =
        .next { s with now := n, pru := { s.pru with glitch := satInc s.pru.glitch } }) ∧
    ((∀ l, s.pru.lastEdge[lineIndex line] = some l →
        angleToTb s.tbs.converter.edgeHoldoff s.pru.period ≤ ((n - l).toNat : Int)) →
      s.pru.lock = .locked ∨ s.pru.lock = .holdover →
      angleToTb s.tbs.converter.captureWindow s.pru.period <
        ((phaseError s.pru (edgeIndex line rising) n).natAbs : Int) →
      exec (.comparatorEdge n line rising) s =
        .next { s with
          now := n
          pru := { s.pru with
            glitch := satInc s.pru.glitch
            lastEdge := setAt s.pru.lastEdge (lineIndex line) (some n)
            history := pushLast 12 s.pru.history
              ⟨edgeIndex line rising, n, phaseError s.pru (edgeIndex line rising) n,
                .rejected⟩ } })

/-- In UNLOCKED an edge outside the holdoff of its line starts acquisition: the model is made from the
edge alone, marker and watch are armed, the history takes an INITIAL entry, LOCK_CHANGE is set (R21,
R23, R27). The other blocks are left as they are, but for the groups, which are handed the change
(R142). -/
def Obligations.FirstCaptureStartsAcquisition : Prop :=
  ∀ (s : State) (n : Time) (line : Line) (rising : Bool), s.pru.lock = .unlocked →
    (∀ l, s.pru.lastEdge[lineIndex line] = some l →
      angleToTb s.tbs.converter.edgeHoldoff s.pru.period ≤ ((n - l).toNat : Int)) →
    let ct := s.tbs.converter
    let j := edgeIndex line rising
    let origin := addTb n (-(angleToTb (j * 6000 : Nat) ct.periodNominal))
    ∃ t, exec (.comparatorEdge n line rising) s = .next t ∧
      t.pru = { s.pru with
        lock := .acquiring
        acquisition := 0
        rejectRun := 0
        period := ct.periodNominal
        origin := origin
        marker := some (addTb origin ct.periodNominal)
        watch := some (timeAt n 18000 ct.periodNominal)
        lastEdge := setAt s.pru.lastEdge (lineIndex line) (some n)
        history := pushLast 12 s.pru.history ⟨j, n, 0, .initial⟩ } ∧
      t.hasFlag .lockChange = true ∧
      t.rgm = s.rgm ∧ t.exm = s.exm ∧ t.lvm = s.lvm ∧ t.tbs = s.tbs ∧ t.pending = s.pending ∧
      t.olp = { s.olp with sticky := t.olp.sticky }

/-- A capture inside the capture window moves T0 by round(e × Kp / 256) and P by round(e × Ki / 4096),
held to P_min..P_max, arms the marker and the watch again and is recorded as accepted (R17 to R20, R23).
In LOCKED nothing else changes (R24). In HOLDOVER the unit returns to LOCKED when the capture lies inside
the lock window, and goes to ACQUIRING with both counts 0 when it does not; LOCK_CHANGE is set and the
groups are handed the change, and no other block changes but through them (R25, R27). The marker's new
time lies ahead. -/
def Obligations.AcceptedCaptureUpdatesTheModel : Prop :=
  ∀ (s : State) (n : Time) (line : Line) (rising : Bool),
    (∀ l, s.pru.lastEdge[lineIndex line] = some l →
      angleToTb s.tbs.converter.edgeHoldoff s.pru.period ≤ ((n - l).toNat : Int)) →
    let ct := s.tbs.converter
    let j := edgeIndex line rising
    let e := phaseError s.pru j n
    let origin := addTb s.pru.origin (roundDiv (e * ct.kp) 256)
    let period := (max (ct.periodMin : Int)
      (min (ct.periodMax : Int) (s.pru.period + roundDiv (e * ct.ki) 4096))).toNat
    let updated : Pru := { s.pru with
      origin := origin
      period := period
      marker := some (addTb origin period)
      watch := some (timeAt n 18000 period)
      lastEdge := setAt s.pru.lastEdge (lineIndex line) (some n)
      history := pushLast 12 s.pru.history ⟨j, n, e, .accepted⟩ }
    (e.natAbs : Int) ≤ angleToTb ct.captureWindow s.pru.period →
    passed n (addTb origin period) = false →
    (s.pru.lock = .locked → exec (.comparatorEdge n line rising) s =
      .next { s with now := n, pru := updated }) ∧
    (s.pru.lock = .holdover → ∃ t, exec (.comparatorEdge n line rising) s = .next t ∧
      ((e.natAbs : Int) ≤ angleToTb ct.lockWindow s.pru.period →
        t.pru = { updated with lock := .locked }) ∧
      (angleToTb ct.lockWindow s.pru.period < (e.natAbs : Int) →
        t.pru = { updated with lock := .acquiring, acquisition := 0, rejectRun := 0 }) ∧
      t.hasFlag .lockChange = true ∧ t.rgm = s.rgm ∧ t.exm = s.exm ∧ t.lvm = s.lvm ∧
      t.tbs = s.tbs ∧ t.pending = s.pending ∧ t.olp = { s.olp with sticky := t.olp.sticky })

/-- A capture in ACQUIRING (R17 to R20, R22, R23). One that is accepted moves T0 and P by the ACQUIRING
gains; inside the lock window it adds 1 to the acquisition count, and the twelfth in a row gives LOCKED;
outside it the count becomes 0; the reject run becomes 0 either way, and below the twelfth nothing else
changes. One that is rejected leaves the model, makes the acquisition count 0 and adds 1 to the reject
run; below the sixth nothing else changes, and the sixth in a row gives UNLOCKED with marker and watch
disarmed, and trips a group in DEBLOCKING or RUNNING with cause LOCK_LOST alone (R26, R27, R151, R152). -/
def Obligations.AcquiringCountsCaptures : Prop :=
  ∀ (s : State) (n : Time) (line : Line) (rising : Bool), s.pru.lock = .acquiring →
    (∀ l, s.pru.lastEdge[lineIndex line] = some l →
      angleToTb s.tbs.converter.edgeHoldoff s.pru.period ≤ ((n - l).toNat : Int)) →
    let ct := s.tbs.converter
    let j := edgeIndex line rising
    let e := phaseError s.pru j n
    let origin := addTb s.pru.origin (roundDiv (e * (min (4 * ct.kp) 256 : Nat)) 256)
    let period := (max (ct.periodMin : Int)
      (min (ct.periodMax : Int) (s.pru.period + roundDiv (e * (4 * ct.ki : Nat)) 4096))).toNat
    let seen (verdict : Verdict) : Pru := { s.pru with
      lastEdge := setAt s.pru.lastEdge (lineIndex line) (some n)
      history := pushLast 12 s.pru.history ⟨j, n, e, verdict⟩ }
    let updated (acquisition : Nat) : Pru := { seen .accepted with
      origin := origin
      period := period
      marker := some (addTb origin period)
      watch := some (timeAt n 18000 period)
      acquisition := acquisition
      rejectRun := 0 }
    let captured : Prop := (e.natAbs : Int) ≤ angleToTb ct.captureWindow s.pru.period
    let inside : Prop := (e.natAbs : Int) ≤ angleToTb ct.lockWindow s.pru.period
    (captured → passed n (addTb origin period) = false →
      (inside → s.pru.acquisition < 11 → exec (.comparatorEdge n line rising) s =
        .next { s with now := n, pru := updated (s.pru.acquisition + 1) }) ∧
      (¬ inside → exec (.comparatorEdge n line rising) s =
        .next { s with now := n, pru := updated 0 }) ∧
      (inside → s.pru.acquisition = 11 →
        ∃ t, exec (.comparatorEdge n line rising) s = .next t ∧
          t.pru = { updated 12 with lock := .locked } ∧ t.hasFlag .lockChange = true)) ∧
    (¬ captured →
      (s.pru.rejectRun < 5 → exec (.comparatorEdge n line rising) s =
        .next { s with
          now := n
          pru := { seen .rejected with
            glitch := satInc s.pru.glitch, acquisition := 0, rejectRun := s.pru.rejectRun + 1 } }) ∧
      (s.pru.rejectRun = 5 →
        ∃ t, exec (.comparatorEdge n line rising) s = .next t ∧
          t.pru = { seen .rejected with
            glitch := satInc s.pru.glitch, lock := .unlocked, marker := none, watch := none
            acquisition := 0, rejectRun := 0, holdover := 0 } ∧
          t.hasFlag .lockChange = true ∧
          ∀ g : Group, s.groups[g].state = .deblocking ∨ s.groups[g].state = .running →
            TrippedBy t g .lockLost))

/-- The capture watch expires: LOCKED becomes HOLDOVER with holdover count 0 and ACQUIRING becomes
UNLOCKED, marker and counts cleared; the watch is left disarmed and LOCK_CHANGE set (R23, R26, R27).
Entry to UNLOCKED trips a group in DEBLOCKING or RUNNING with cause LOCK_LOST alone (R151, R152). The
blocks that are not handed the change stand. -/
def Obligations.CaptureWatchExpires : Prop :=
  ∀ (s : State) (n i : Time), s.pru.watch = some i → passed n i = true →
    (s.pru.lock = .locked → ∃ t, exec (.captureWatch n) s = .next t ∧
      t.pru = { s.pru with lock := .holdover, holdover := 0, watch := none } ∧
      t.hasFlag .lockChange = true ∧ t.rgm = s.rgm ∧ t.exm = s.exm ∧ t.lvm = s.lvm ∧
      t.tbs = s.tbs ∧ t.olp = { s.olp with sticky := t.olp.sticky }) ∧
    (s.pru.lock = .acquiring → ∃ t, exec (.captureWatch n) s = .next t ∧
      t.pru = { s.pru with
        lock := .unlocked, marker := none, watch := none
        acquisition := 0, rejectRun := 0, holdover := 0 } ∧
      t.hasFlag .lockChange = true ∧
      (∀ g : Group, s.groups[g].state = .deblocking ∨ s.groups[g].state = .running →
        TrippedBy t g .lockLost) ∧
      t.rgm = s.rgm ∧ t.exm = s.exm ∧ t.lvm = s.lvm ∧
      t.tbs = s.tbs ∧ t.olp = { s.olp with sticky := t.olp.sticky })

/-- A cycle marker moves T0 on by P and is armed again one period later, and the planning instants of
the new cycle that lie ahead stand armed; so in HOLDOVER, where the holdover count steps, and at the holdover
limit the unit becomes UNLOCKED, no instant is armed and a group in DEBLOCKING or RUNNING is tripped with
cause LOCK_LOST alone (R25, R26, R28, R34, R151, R152). -/
def Obligations.CycleMarkerStepsTheOrigin : Prop :=
  ∀ (s : State) (n i : Time), s.pru.marker = some i → passed n i = true →
    let ct := s.tbs.converter
    let origin := addTb s.pru.origin s.pru.period
    (s.pru.lock ≠ .holdover → passed n (addTb origin s.pru.period) = false →
      ∃ t, exec (.cycleMarker n) s = .next t ∧
        t.pru = { s.pru with
          origin := origin, marker := some (addTb origin s.pru.period) } ∧
        ∀ v : Valve, passed n (planningOf ct origin s.pru.period v).time = false →
          t.fac.plannings[v] = some (planningOf ct origin s.pru.period v)) ∧
    (s.pru.lock = .holdover → s.pru.holdover + 1 < ct.holdoverLimit →
      passed n (addTb origin s.pru.period) = false →
      ∃ t, exec (.cycleMarker n) s = .next t ∧
        t.pru = { s.pru with
          origin := origin, marker := some (addTb origin s.pru.period)
          holdover := s.pru.holdover + 1 } ∧
        ∀ v : Valve, passed n (planningOf ct origin s.pru.period v).time = false →
          t.fac.plannings[v] = some (planningOf ct origin s.pru.period v)) ∧
    (s.pru.lock = .holdover → ct.holdoverLimit ≤ s.pru.holdover + 1 →
      ∃ t, exec (.cycleMarker n) s = .next t ∧
        t.pru = { s.pru with
          origin := origin, lock := .unlocked, marker := none, watch := none
          acquisition := 0, rejectRun := 0, holdover := 0 } ∧
        t.fac.plannings = s.fac.plannings ∧ t.hasFlag .lockChange = true ∧
        ∀ g : Group, s.groups[g].state = .deblocking ∨ s.groups[g].state = .running →
          TrippedBy t g .lockLost)

/-! ## Firing Angle Calculator -/

/-- A planning instant passes without a record unless the group is DEBLOCKING or RUNNING and the unit
LOCKED or HOLDOVER; a planning whose valve holds two live records sets SCHEDULE_CONFLICT, counts, and
leaves α_last, the indications and the schedule (R36, R44). -/
def Obligations.PlanningWithoutARecord : Prop :=
  ∀ (s : State) (n : Time) (v : Valve) (p : Planning), s.fac.plannings[v] = some p →
    passed n p.time = true →
    let g := valveGroup v
    let runs : Prop := (s.groups[g].state = .deblocking ∨ s.groups[g].state = .running) ∧
      (s.pru.lock = .locked ∨ s.pru.lock = .holdover)
    (¬ runs → exec (.planningInstant n v) s =
      .next { s with
        now := n, fac := { s.fac with plannings := setAt s.fac.plannings v none } }) ∧
    (runs → 2 ≤ (s.recordsOf v).length →
      ∃ t, exec (.planningInstant n v) s = .next t ∧
        t.fac = { s.fac with
          plannings := setAt s.fac.plannings v none
          scheduleConflict := satInc s.fac.scheduleConflict } ∧
        t.hasFlag .scheduleConflict = true ∧
        t = { s with now := n, fac := t.fac, olp := { s.olp with sticky := t.olp.sticky } })

/-- A planning that runs and finds room places a PLANNED NORMAL record with the angle of the stages, α_eff =
max(α_min, min(min(α1, α_gl), α_last + Δα_up)) or min(α1, α_gl) without a reference, with its due time,
reversal time and hold (R36 to R44). It stands in schedule order (R57), after a record of the same valve with
an equal due time (the model's choice, log entry 35), and before the first record it is before, also where a
live due time is 2^31 tb behind another (the model's choice, log entry 40). α_last and the indications
follow, GAMMA_FLOOR is set when the floor was applied (R40), and the recovery counter falls by 1, the repeat
count becoming 0 with it (R44, R126). With the bridge's start-pending indication set a START record of the
predecessor with the same due time and hold is placed too, or refused with SCHEDULE_CONFLICT and counted when
the predecessor has two live records (R45, R46). No other flag changes. The instants of the records lie
ahead. -/
def Obligations.PlanningPlacesTheRecords : Prop :=
  ∀ (s : State) (n : Time) (v : Valve) (p : Planning), s.fac.plannings[v] = some p →
    passed n p.time = true →
    let g := valveGroup v
    let b := valveBridge v
    let lt := s.tbs.limits
    let band := voltageBand s.olp.order.voltage
    let mu := predictedOverlap s.tbs.overlap[band] s.olp.order.current
    let gMin := match s.olp.ac with | .ok => lt.gammaMin | .low => lt.gammaMin + lt.gammaLowRaise
    let advance : Int := if 0 < s.exm.recovery[g] then lt.aCf else 0
    let a1 := min (max (s.olp.order.alpha : Int) lt.alphaMin) lt.alphaMax
    let limit := 18000 - gMin - mu - s.exm.correction[b] - advance
    let gl := max limit lt.alphaMin
    let reference := if s.fac.firstFiring[g] then none else s.fac.alphaLast[g]
    let alpha := match reference with
      | none => min a1 gl
      | some last => max lt.alphaMin (min (min a1 gl) (last + lt.deltaAlphaUp))
    let due := timeAt p.target (phase s.tbs.converter v + alpha) s.pru.period
    let hold := (angleToTb 12000 s.pru.period).toNat
    let reversal := timeAt p.target (phase s.tbs.converter v + 18000) s.pru.period
    let inputs : PlanInputs := ⟨s.olp.order.alpha, s.olp.order.current, band, mu, lt.alphaMin,
      lt.alphaMax, lt.deltaAlphaUp, gMin, reference, p.target, s.pru.period⟩
    let normal := newNormal s.tbs.ring v due hold ⟨reversal, alpha, inputs⟩
    let placed := insertBy schedBefore normal s.fsc.records
    let start := newStart s.tbs.ring (predecessor v) due hold
    let started := s.fac.startPending[b]
    let refused := started && decide (2 ≤ (s.recordsOf (predecessor v)).length)
    (s.groups[g].state = .deblocking ∨ s.groups[g].state = .running) →
    (s.pru.lock = .locked ∨ s.pru.lock = .holdover) → (s.recordsOf v).length < 2 →
    passed n (addTb due (-(s.tbs.ring.ackMargin : Int))) = false →
    passed n (addTb due s.tbs.ring.confirmTimeout) = false →
    ∃ t, exec (.planningInstant n v) s = .next t ∧
      t.fsc = { s.fsc with
        records := if started && !refused then insertBy schedBefore start placed else placed } ∧
      t.fac = { s.fac with
        plannings := setAt s.fac.plannings v none
        alphaLast := setAt s.fac.alphaLast g (some alpha)
        firstFiring := setAt s.fac.firstFiring g false
        gammaLimiting := setAt s.fac.gammaLimiting g (decide (gl < a1))
        startPending := setAt s.fac.startPending b false
        scheduleConflict :=
          if refused then satInc s.fac.scheduleConflict else s.fac.scheduleConflict } ∧
      t.exm = { s.exm with
        recovery := setAt s.exm.recovery g (s.exm.recovery[g] - 1)
        repeats := if s.exm.recovery[g] = 1 then setAt s.exm.repeats g 0 else s.exm.repeats } ∧
      (∀ f, t.hasFlag f = (s.hasFlag f || (decide (f = .gammaFloor) && decide (limit < lt.alphaMin)) ||
        (decide (f = .scheduleConflict) && refused))) ∧
      t.pru = s.pru ∧ t.rgm = s.rgm ∧ t.lvm = s.lvm ∧
      t.groups = s.groups ∧ t.tbs = s.tbs ∧ t.pending = s.pending ∧
      t.olp = { s.olp with sticky := t.olp.sticky }

/-! ## Fire Schedule -/

/-- The lateness instant of a record marks a DISPATCHED NORMAL or START record of a STAMPED station LATE
and counts it, and passes with no other effect (R58, R65); the hold instant of a record makes ARMED
HOLDING and passes otherwise (R72). The release timeout of a RELEASING BYPASS record that is the valve's
one live record ends it RELEASED with UNCONFIRMED set, and counts it; the blocks that take no part stand
(R73, R75). The record is the first of the valve whose instant has been reached (log entry 2). -/
def Obligations.LatenessHoldAndReleaseInstants : Prop :=
  ∀ (s : State) (n : Time) (v : Valve) (r : FireRecord),
    (dueRecord (s.at n) v FireRecord.latenessAt = some r →
      let marks := decide (r.state = .dispatched) && r.isRegular && !r.late && valveStamped s v
      exec (.latenessInstant n v) s =
        .next { s with
          now := n
          fsc := { s.fsc with
            records := replaceFirst r { r with latenessAt := none, late := r.late || marks }
              s.fsc.records
            fireLate := if marks then satInc s.fsc.fireLate else s.fsc.fireLate } }) ∧
    (dueRecord (s.at n) v FireRecord.holdAt = some r →
      exec (.holdInstant n v) s =
        .next { s with
          now := n
          fsc := { s.fsc with
            records := replaceFirst r
              { r with holdAt := none, state := if r.state = .armed then .holding else r.state }
              s.fsc.records } }) ∧
    (dueRecord (s.at n) v FireRecord.releaseAt = some r → r.isBypass = true →
      r.state = .releasing → s.recordsOf v = [r] →
      ∃ t, exec (.releaseTimeout n v) s = .next t ∧
        t.fsc.unconfirmed = satInc s.fsc.unconfirmed ∧
        t.fsc.valves[v].lastOutcome = .releasedUnconfirmed ∧
        t.fsc.valves[v].lastDue = some r.due ∧ t.fsc.valves[v].lastAlpha = none ∧
        t.fsc.valves[v].misses = s.fsc.valves[v].misses ∧
        (∀ x ∈ t.fsc.records, x.valve = v → x.isBypass = true ∧ x.state ≠ .releasing) ∧
        t.pru = s.pru ∧ t.rgm = s.rgm ∧ t.exm = s.exm ∧ t.lvm = s.lvm ∧ t.tbs = s.tbs ∧
        t.pending = s.pending ∧ t.olp = { s.olp with sticky := t.olp.sticky })

/-- The confirm instant of the one live record of a valve (R13, R67, R68, R70). A NORMAL or START record in
PLANNED, DISPATCHED or ARMED is MISSED: it is counted, FIRE_MISSED is set, the last outcome, the last due
time and, for a NORMAL record, the consecutive misses are written; a DEBLOCKING group is tripped with
START_FAIL (R146), a RUNNING one with MISFIRE at the second consecutive miss of a NORMAL record (R154). A
TEST record is MISSED with the test outcome alone. A CANCELLING NORMAL or START record is CANCELLED with
UNCONFIRMED set, and counted. The blocks that take no part stand. -/
def Obligations.ConfirmInstantEndsTheRecord : Prop :=
  ∀ (s : State) (n : Time) (v : Valve) (r : FireRecord),
    dueRecord (s.at n) v FireRecord.confirmAt = some r → s.recordsOf v = [r] →
    let g := valveGroup v
    let old := s.fsc.valves[v]
    let waits : Prop := r.state = .planned ∨ r.state = .dispatched ∨ r.state = .armed
    let others (t : State) : Prop := t.fsc.lastFired = s.fsc.lastFired ∧
      t.pru = s.pru ∧ t.rgm = s.rgm ∧ t.exm = s.exm ∧ t.lvm = s.lvm ∧ t.tbs = s.tbs ∧
      t.pending = s.pending ∧ t.olp = { s.olp with sticky := t.olp.sticky } ∧
      ∀ x ∈ t.fsc.records, x.valve = v → x.isBypass = true
    (r.isRegular = true → waits → ∃ t, exec (.confirmInstant n v) s = .next t ∧ others t ∧
      t.fsc.fireMissed = satInc s.fsc.fireMissed ∧ t.hasFlag .fireMissed = true ∧
      t.fsc.unconfirmed = s.fsc.unconfirmed ∧
      t.fsc.valves[v] = { old with
        lastDue := some r.due, lastAlpha := r.alpha?, lastOutcome := .missed
        misses := if r.isNormal then satInc old.misses else old.misses } ∧
      (s.groups[g].state = .deblocking → TrippedBy t g .startFail) ∧
      (s.groups[g].state = .running → r.isNormal = true → 1 ≤ old.misses.toNat →
        TrippedBy t g .misfire)) ∧
    (r.isTest = true → waits → ∃ t, exec (.confirmInstant n v) s = .next t ∧ others t ∧
      t.fsc.fireMissed = s.fsc.fireMissed ∧ t.olp = s.olp ∧ t.groups = s.groups ∧
      t.fsc.valves[v] = { old with testOutcome := .missed }) ∧
    (r.isRegular = true → r.state = .cancelling → ∃ t, exec (.confirmInstant n v) s = .next t ∧
      others t ∧ t.fsc.fireMissed = s.fsc.fireMissed ∧
      t.fsc.unconfirmed = satInc s.fsc.unconfirmed ∧
      t.fsc.valves[v] = { old with
        lastDue := some r.due, lastAlpha := r.alpha?, lastOutcome := .cancelledUnconfirmed })

/-- The reports of the good RUN slot of an ENROLLED station, taken at the return of its frame, end or move
the record of the station's valve that carries the sequence number reported (R63). A fired report
counts a deviation beyond the timing tolerance of a STAMPED station (R66); it ends a NORMAL or START
record FIRED, with the Valve Record, the last fired valve, the pending extinction of a NORMAL record
(R68, R118) and, at the group's twelfth valve, RUNNING (R146); it ends a TEST record with its test outcome,
and leaves a BYPASS record live with its stamp. An acknowledgement makes DISPATCHED ARMED, or HOLDING for
a BYPASS record whose due time has passed (at the due count itself log entry 36), changes nothing in
ARMED or HOLDING, and ends CANCELLING or RELEASING from the first-cancel cycle on (R64, R70, R73). A
report that matches no record is discarded. A record that ends is the valve's one live record. -/
def Obligations.StationReportsActOnRecords : Prop :=
  ∀ (s : State) (n : Time) (input : Port) (bytes : List Byte) (c : RingCycle) (m : Marker)
    (p : RingPos) (row : StationRow) (lineError turned : Bool) (r : RunSlot) (q : Byte) (stamp : Time),
    ReturnsOneSlot s input bytes c m p row lineError turned (.run r) →
    s.rgm.stations[p].state = .enrolled → r.extinction = none → r.changes = [] →
    let v := row.valve
    let g := valveGroup v
    let old := s.fsc.valves[v]
    let fired := addTb stamp (valveDelay s v m.direction)
    let others (t : State) : Prop := t.pru = s.pru ∧ t.lvm = s.lvm ∧ t.tbs = s.tbs ∧
      t.pending = s.pending ∧ t.olp = { s.olp with sticky := t.olp.sticky }
    (r.fired = [(q, stamp)] → r.acks = [] →
      ∃ t, exec (.ringFrameReturn n input bytes) s = .next t ∧ others t ∧
        (matchRecord s v q = none → t.fsc = s.fsc ∧ t.exm = s.exm ∧ t.groups = s.groups) ∧
        ∀ x, matchRecord s v q = some x →
          t.fsc.timingDeviation =
            (if valveStamped s v = true ∧
                s.tbs.ring.timingTolerance < (signedDiff x.due fired).natAbs then
              satInc s.fsc.timingDeviation else s.fsc.timingDeviation) ∧
          (x.isBypass = true → t.fsc.valves = s.fsc.valves ∧ t.exm = s.exm ∧
            t.groups = s.groups ∧
            t.fsc.records = replaceFirst x { x with firedStamp := some fired } s.fsc.records) ∧
          (x.isTest = true → s.recordsOf v = [x] → t.exm = s.exm ∧ t.groups = s.groups ∧
            t.fsc.valves[v] = { old with testOutcome := .fired } ∧
            ∀ y ∈ t.fsc.records, y.valve = v → y.isBypass = true) ∧
          (x.isRegular = true → s.recordsOf v = [x] →
            t.fsc.valves[v] = { old with
              lastDue := some x.due, lastAlpha := x.alpha?, lastOutcome := .fired
              misses := if x.isNormal then 0#16 else old.misses
              fireCount := old.fireCount + 1#16 } ∧
            t.fsc.lastFired[valveBridge v] = some v ∧
            (∀ y ∈ t.fsc.records, y.valve = v → y.isBypass = true) ∧
            (x.body = .start → t.exm = s.exm) ∧
            (∀ k, x.body = .normal k →
              passed n (addTb k.reversal s.tbs.ring.extinctionAllowance) = false →
              t.exm = { s.exm with pendings := setAt s.exm.pendings v (some
                ⟨false, q, k.reversal, addTb k.reversal s.tbs.ring.extinctionAllowance⟩) }) ∧
            ((∀ k, x.body = .normal k →
                passed n (addTb k.reversal s.tbs.ring.extinctionAllowance) = false) →
              s.groups[g].state = .deblocking →
              Machine.commandOf s.olp.order.flags[g] ≠ .block →
              Machine.commandOf s.olp.order.flags[g] ≠ .bypass →
              BoolSet.full (setAt s.groups[g].fired (placeInGroup v) true) = true →
              t.groups[g].state = .running))) ∧
    (r.fired = [] → r.acks = [q] →
      ∃ t, exec (.ringFrameReturn n input bytes) s = .next t ∧ others t ∧ t.exm = s.exm ∧
        (matchRecord s v q = none → t.fsc = s.fsc ∧ t.groups = s.groups) ∧
        ∀ x, matchRecord s v q = some x →
          (x.state = .dispatched → t.groups = s.groups ∧ t.fsc = { s.fsc with
            records := replaceFirst x
              { x with state := if x.isBypass = true ∧ passed n x.due = true then .holding
                                else .armed }
              s.fsc.records }) ∧
          (x.state = .armed ∨ x.state = .holding → t.groups = s.groups ∧ t.fsc = s.fsc) ∧
          (x.state = .cancelling ∨ x.state = .releasing →
            (∀ k, x.firstCancel = some k → 32767 < (s.rgm.cycleNumber - k).toNat) →
            t.groups = s.groups ∧ t.fsc = s.fsc) ∧
          (∀ k, x.firstCancel = some k → (s.rgm.cycleNumber - k).toNat ≤ 32767 →
            s.recordsOf v = [x] → x.isTest = false →
            (x.state = .cancelling → t.fsc.valves[v] = { old with
              lastDue := some x.due, lastAlpha := x.alpha?, lastOutcome := .cancelled }) ∧
            (x.state = .releasing → t.fsc.valves[v] = { old with
              lastDue := some x.due, lastAlpha := x.alpha?, lastOutcome := .released }) ∧
            (x.state = .cancelling ∨ x.state = .releasing → t.fsc.lastFired = s.fsc.lastFired ∧
              t.fsc.unconfirmed = s.fsc.unconfirmed ∧
              ∀ y ∈ t.fsc.records, y.valve = v → y.isBypass = true) ∧
            (x.isBypass = true → x.state = .releasing →
              ∀ y ∈ t.fsc.records, y.valve = v → y.state ≠ .releasing)))

/-! ## Extinction Monitor -/

/-- The deadline instant of an OPEN pending extinction: outside DEBLOCKING and RUNNING it closes
silently; in them it becomes EXPIRED and a commutation failure is declared, with repeat count, recovery
counter, CF count and CF_EVENT, and no correction, last γ or window changes (R124, R125). The declaration
revises the PLANNED NORMAL records of the group (R49 to R51; of equal due times of one valve log entry 35, of
due times 2^31 tb apart log entry 40), or trips it at the CF trip count. -/
def Obligations.DeadlineActsByTheGroupState : Prop :=
  ∀ (s : State) (n : Time) (v : Valve) (p : PendingExtinction), s.exm.pendings[v] = some p →
    p.expired = false → passed n p.deadline = true →
    let g := valveGroup v
    let firing : Prop := s.groups[g].state = .deblocking ∨ s.groups[g].state = .running
    (¬ firing → exec (.deadlineInstant n v) s =
      .next { s with now := n, exm := { s.exm with pendings := setAt s.exm.pendings v none } }) ∧
    (firing → ∃ t, exec (.deadlineInstant n v) s = .next t ∧ t.now = n ∧
      Declares s t g { s.exm with
        pendings := setAt s.exm.pendings v (some { p with expired := true }) } ∧
      t.pru = s.pru ∧ t.rgm = s.rgm ∧ t.lvm = s.lvm ∧ t.tbs = s.tbs ∧ t.pending = s.pending ∧
      t.olp = { s.olp with sticky := t.olp.sticky })

/-- An on-time measurement in DEBLOCKING or RUNNING closes the pending extinction, shows γ and enters
the window; a sufficient margin lowers the bridge's correction by C_decay, never below 0, and revises
nothing; a short one raises it by the shortfall, up to C_max, and a rise revises the PLANNED NORMAL records
of the bridge (R49 to R51; of equal due times of one valve log entry 35, of due times 2^31 tb apart log entry
40); a negative γ declares a commutation failure of the group (R120 to R122, R125, R128). So does the
extinction report of the good RUN slot of an ENROLLED station that matches the OPEN pending extinction of its
valve, with γ from the reversal time less the stamp corrected by the path delay (R119); a report that matches
an EXPIRED one shows γ as late and steers nothing (R124), and one that matches none is discarded and
counted. -/
def Obligations.MeasurementSteersTheCorrection : Prop :=
  ∀ (s : State) (v : Valve),
    let g := valveGroup v
    let b := valveBridge v
    let lt := s.tbs.limits
    let gMin := match s.olp.ac with
      | .ok => lt.gammaMin
      | .low => lt.gammaMin + lt.gammaLowRaise
    let shown (gamma : Int) (late : Bool) : Exm := { s.exm with
      pendings := setAt s.exm.pendings v none
      lastGamma := setAt s.exm.lastGamma v (some gamma)
      late := setAt s.exm.late v late }
    let entered (gamma : Int) : Exm := { shown gamma false with
      windows := setAt s.exm.windows g (pushLast 12 s.exm.windows[g] gamma) }
    let steered (gamma : Int) (x : Int) : Exm := { entered gamma with
      correction := setAt s.exm.correction b x }
    let stands (t : State) : Prop := t.fsc = s.fsc ∧ t.groups = s.groups ∧ t.fac = s.fac
    let raised (t : State) (gamma : Int) : Prop :=
      let new := min lt.cMax (s.exm.correction[b] + (gMin - gamma))
      t.exm = steered gamma new ∧ t.groups = s.groups ∧
        (s.exm.correction[b] < new → Revises s t fun w => decide (valveBridge w = b)) ∧
        (new ≤ s.exm.correction[b] → stands t)
    let measured (t : State) (gamma : Int) : Prop :=
      (gamma < 0 → Declares s t g (entered gamma)) ∧
      (0 ≤ gamma → gMin ≤ gamma →
        t.exm = steered gamma (max 0 (s.exm.correction[b] - lt.cDecay)) ∧ stands t ∧ t.olp = s.olp) ∧
      (0 ≤ gamma → gamma < gMin → s.exm.correction[b] ≤ lt.cMax → raised t gamma)
    let firing : Prop := s.groups[g].state = .deblocking ∨ s.groups[g].state = .running
    (firing → ∀ gamma : Int, measured (onTimeMeasurement s v gamma) gamma) ∧
    ∀ (n : Time) (input : Port) (bytes : List Byte) (c : RingCycle) (m : Marker) (p : RingPos)
      (row : StationRow) (lineError turned : Bool) (r : RunSlot) (q : Byte) (stamp : Time),
      ReturnsOneSlot s input bytes c m p row lineError turned (.run r) →
      s.rgm.stations[p].state = .enrolled → row.valve = v →
      r.fired = [] → r.acks = [] → r.extinction = some (q, stamp) → r.changes = [] →
      ∃ t, exec (.ringFrameReturn n input bytes) s = .next t ∧ t.now = n ∧
        t.pru = s.pru ∧ t.lvm = s.lvm ∧ t.tbs = s.tbs ∧ t.pending = s.pending ∧
        t.olp = { s.olp with sticky := t.olp.sticky } ∧
        ((∀ k, s.exm.pendings[v] = some k → k.seq ≠ q) →
          t.exm = { s.exm with discard := satInc s.exm.discard } ∧ stands t) ∧
        ∀ k, s.exm.pendings[v] = some k → k.seq = q →
          let gamma := tbToAngle
            (signedDiff (addTb stamp (valveDelay s v m.direction)) k.reversal) s.pru.period
          (k.expired = true → t.exm = shown gamma true ∧ stands t) ∧
          (k.expired = false → ¬ firing → t.exm = shown gamma false ∧ stands t) ∧
          (k.expired = false → firing → measured t gamma)

/-! ## Group Controller -/

/-- The bypass hold timer expires in BYPASSING: the group becomes STOPPING, its pairs are none, its timer is
disarmed, and a release decision marks its BYPASS records and clears its waiting bypasses; nothing else
changes (R73, R144, R148, R149). With no NORMAL, START or BYPASS record left the group is BLOCKED in the same
handling (R149), and takes the flags in force in BLOCKED (R142, R145, R147). -/
def Obligations.BypassHoldTimerExpires : Prop :=
  ∀ (s : State) (n i : Time) (g : Group), s.groups[g].holdTimer = some i → passed n i = true →
    s.groups[g].state = .bypassing →
    let number := s.fsc.decisionCount + 1#32
    let stopped (x : GroupState) : State := { s with
      now := n
      groups := setAt s.groups g { s.groups[g] with
        state := x, pairs := fill 2 none, holdTimer := none, inhibits := inhibitSet s g }
      fsc := { s.fsc with
        decisionCount := number
        records := s.fsc.records.map fun r =>
          if valveGroup r.valve = g ∧ r.isBypass = true ∧ r.state ≠ .releasing then
            { r with
              state := .releasing, decision := some number, firstCancel := none
              releaseAt := some (addTb n s.tbs.ring.confirmTimeout) }
          else r
        waiting := Vector.ofFn fun v => s.fsc.waiting[v] && !decide (valveGroup v = g) } }
    (s.groupBusy g = true → exec (.bypassHoldTimer n g) s = .next (stopped .stopping)) ∧
      (s.groupBusy g = false →
        ∃ t, exec (.bypassHoldTimer n g) s = .next t ∧ TakesFlags (stopped .blocked) t g)

/-! ## Order Link Port -/

/-- A dropped frame adds 1 to the link CRC counter and has no other effect, whatever its cause (R159). A
frame of an unknown type or of the wrong length is answered BAD_FRAME with its type and sequence
number, and an ORDER of the wrong length is counted without a reply (R160). -/
def Obligations.DroppedAndUnknownFrames : Prop :=
  ∀ (s : State) (n : Time) (cause : DropCause) (type seq : Byte) (payload : List Byte),
    exec (.linkFrameDropped n cause) s =
      .next { s with now := n, olp := { s.olp with linkCrc := satInc s.olp.linkCrc } } ∧
    (payload.length ≠ 8 →
      let counted : State :=
        { s with now := n, olp := { s.olp with orderFormat := satInc s.olp.orderFormat } }
      exec (.order n seq payload) s = .next counted ∧
      exec (.unknownFrame n 1#8 seq payload) s = .next counted) ∧
    (type ≠ 1#8 → lengthOk type payload = false → replyCount s.olp.queue < 3 →
      exec (.unknownFrame n type seq payload) s =
        .next (enqueue (s.at n) (.reply ⟨type, seq, .badFrame, 0#8, 0#16, []⟩)))

/-- Sequence handling (R161): a well-formed ORDER with the last accepted number is a duplicate, counted
and nothing else; any other is adopted, and counted as a gap when it does not follow the last number;
the first after power-up counts no gap. Management frames take no part: they leave the last accepted
sequence, and their numbers are echoed in their REPLYs. -/
def Obligations.OrderSequenceHandling : Prop :=
  (∀ (s : State) (n : Time) (seq : Byte) (payload : List Byte), payload.length = 8 →
    (s.olp.lastSeq = some seq → exec (.order n seq payload) s =
      .next { s with now := n, olp := { s.olp with duplicate := satInc s.olp.duplicate } }) ∧
    (s.olp.lastSeq ≠ some seq → ∃ t, exec (.order n seq payload) s = .next t ∧
      t = adoptOrder { s with
          now := n
          olp := { s.olp with gap := match s.olp.lastSeq with
            | none => s.olp.gap
            | some last => if seq = last + 1#8 then s.olp.gap else satInc s.olp.gap } }
        seq (orderOfPayload payload) ∧
      t.olp.lastSeq = some seq ∧ t.olp.orderState = .ok)) ∧
  ∀ (s t : State) (c : Instr) (type seq : Byte) (payload : List Byte),
    frameOf c = some (type, seq, payload) → c.wf = true → type ≠ 1#8 → exec c s = .next t →
    t.olp.lastSeq = s.olp.lastSeq ∧
      (s.olp.sending = none → s.olp.queue = [] →
        ∃ r : Reply, r.type = type ∧ r.seq = seq ∧
          t.olp.sending.map Sending.bytes = some (frameBytes 3#8 seq r.payload))

/-- An accepted ORDER is adopted: quantities above their ranges are clamped, flagged and counted once;
order, sequence, order state and watchdog are written; the AC state follows the new U against the assert
and release levels; a STATUS is queued, or by an idle transmitter built now and sent at once (R162, R164
to R167; its code for gamma-limiting set or clear is the model's choice, log entry 39). Only the groups and
what they hand their decisions to change beside the Order Link Port. -/
def Obligations.AcceptedOrderIsAdopted : Prop :=
  ∀ (s : State) (n : Time) (seq : Byte) (payload : List Byte), payload.length = 8 →
    s.olp.lastSeq ≠ some seq →
    let o := orderOfPayload payload
    let u := min o.voltage 1500
    let clamped : Prop := 18000 < o.alpha ∨ 2047 < o.current ∨ 1500 < o.voltage
    let lt := s.tbs.limits
    ∃ t, exec (.order n seq payload) s = .next t ∧
      t.olp.order = { o with alpha := min o.alpha 18000, current := min o.current 2047, voltage := u } ∧
      t.olp.lastSeq = some seq ∧ t.olp.orderState = .ok ∧ t.olp.holdTimer = none ∧
      t.olp.watchdog = some (addTb n (lt.orderWatchdog * 40 : Nat)) ∧
      (clamped → t.olp.clamp = satInc s.olp.clamp ∧ t.hasFlag .clamp = true) ∧
      (¬ clamped → t.olp.clamp = s.olp.clamp) ∧
      (s.olp.ac = .ok → t.olp.ac = if u < lt.acAssert then .low else .ok) ∧
      (s.olp.ac = .low → t.olp.ac = if lt.acRelease < u then .ok else .low) ∧
      (t.olp.ac ≠ s.olp.ac → t.hasFlag .acLowChange = true) ∧
      (s.olp.sending = none → s.olp.queue = [] → t.olp.queue = [] ∧
        let bytes := frameBytes 2#8 seq (statusPayload t)
        t.olp.sending = some ⟨bytes, addTb n (8 * (bytes.length + 1) : Nat)⟩) ∧
      (s.olp.sending ≠ none → .status ∈ t.olp.queue ∧ t.olp.sending = s.olp.sending) ∧
      t.olp.linkCrc = s.olp.linkCrc ∧ t.olp.orderFormat = s.olp.orderFormat ∧
      t.olp.duplicate = s.olp.duplicate ∧ t.olp.busyDrop = s.olp.busyDrop ∧
      t.pru = s.pru ∧ t.rgm = s.rgm ∧ t.exm = s.exm ∧ t.lvm = s.lvm ∧ t.tbs = s.tbs ∧
      t.pending = s.pending

/-- An ORDER whose flags carry BYPASS for a BLOCKED group makes the group enter BYPASSING with its hold
timer disarmed and the pair of each bridge in the leg of its last fired valve, leg (1,4) when it has
none (R142, R143, R145, R147). -/
def Obligations.OrderWithBypassEntersBypassing : Prop :=
  ∀ (s : State) (n : Time) (seq : Byte) (payload : List Byte) (g : Group), payload.length = 8 →
    s.olp.lastSeq ≠ some seq → s.groups[g].state = .blocked →
    (orderOfPayload payload).flags[g].bypass = true →
    ∃ t, exec (.order n seq payload) s = .next t ∧ t.groups[g].state = .bypassing ∧
      t.groups[g].holdTimer = none ∧
      ∀ side : Fin 2, t.groups[g].pairs[side] =
        some (match s.fsc.lastFired[groupBridge g side] with
          | none => .leg14
          | some v => valveLeg v)

/-- The order watchdog expires in ORDER_OK: ORDER_HOLD with the hold timer armed at the hold window, or,
with a window that ends at once, ORDER_LOST in the same handling; ORDER_HOLD is flagged (R163). The hold
timer expires in ORDER_HOLD: ORDER_LOST, and a group in DEBLOCKING or RUNNING is tripped with cause
ORDER_LOST alone and its trip flag (R151, R152, R163). The order in force stands, and so do the blocks
that are not handed the change. -/
def Obligations.OrderTimersExpire : Prop :=
  ∀ (s : State) (n i : Time), passed n i = true →
    let others (t : State) : Prop := t.olp.order = s.olp.order ∧
      t.pru = s.pru ∧ t.rgm = s.rgm ∧ t.exm = s.exm ∧ t.lvm = s.lvm ∧ t.tbs = s.tbs ∧
      t.pending = s.pending
    (s.olp.orderState = .ok → s.olp.watchdog = some i →
      let hold := addTb n (s.tbs.limits.holdWindow * 40000 : Nat)
      ∃ t, exec (.orderWatchdog n) s = .next t ∧ others t ∧ t.olp.watchdog = none ∧
        (passed n hold = false → t.olp.orderState = .hold ∧ t.olp.holdTimer = some hold) ∧
        (passed n hold = true → t.olp.orderState = .lost ∧ t.olp.holdTimer = none ∧
          ∀ g : Group, s.groups[g].state = .deblocking ∨ s.groups[g].state = .running →
            Machine.commandOf s.olp.order.flags[g] ≠ .block →
            Machine.commandOf s.olp.order.flags[g] ≠ .bypass → TrippedBy t g .orderLost) ∧
        t.hasFlag .orderHold = true ∧ t.olp.lastSeq = s.olp.lastSeq ∧
        t.olp.ac = s.olp.ac ∧ t.olp.queue = s.olp.queue ∧ t.olp.sending = s.olp.sending) ∧
    (s.olp.orderState = .hold → s.olp.holdTimer = some i →
      ∃ t, exec (.holdTimer n) s = .next t ∧ others t ∧
        { t.olp with sticky := s.olp.sticky } =
          { s.olp with orderState := .lost, holdTimer := none } ∧
        ∀ g : Group, s.groups[g].state = .deblocking ∨ s.groups[g].state = .running →
          TrippedBy t g .orderLost)

/-- The end of a sending makes the transmitter idle, or starts the oldest queued frame at once, built
now, its end n + 6 bytes of 8 tb later (R165), counted from the time at which the command is taken (the
model's choice, log entry 27); nothing else changes. -/
def Obligations.TransmitEndTakesTheNextFrame : Prop :=
  ∀ (s : State) (n : Time) (x : Sending), s.olp.sending = some x → passed n x.ends = true →
    (s.olp.queue = [] → exec (.transmitEnd n) s =
      .next { s with now := n, olp := { s.olp with sending := none } }) ∧
    ∀ f rest, s.olp.queue = f :: rest →
      let bytes := builtFrame { s with now := n, olp := { s.olp with sending := none } } f
      exec (.transmitEnd n) s =
        .next { s with
          now := n
          olp := { s.olp with
            queue := rest
            sending := some ⟨bytes, addTb n (8 * (bytes.length + 1) : Nat)⟩ } }

/-- The queue holds three REPLYs: every request is dropped unanswered and not acted on, and BUSY_DROP adds
1 (R166). -/
def Obligations.BusyQueueDropsEveryRequest : Prop :=
  ∀ (c : Instr) (s : State) (n : Time) (type seq : Byte) (payload : List Byte),
    frameOf c = some (type, seq, payload) → c.time? = some n → c.wf = true → type ≠ 1#8 →
    3 ≤ replyCount s.olp.queue →
    exec c s = .next { s with now := n, olp := { s.olp with busyDrop := satInc s.olp.busyDrop } }

/-! ## Tables -/

/-- A row in range is written to the table's shadow, opened if there was none, and is answered OK; the
active table stands (R172, R175). A write is refused, and changes nothing but the reply, with BAD_TABLE for
an unknown table, with BAD_INDEX for a row outside the table's rows, and with BAD_VALUE naming the first
field outside its range, in every table (R175, R184). -/
def Obligations.TableWriteGoesToTheShadow : Prop :=
  ∀ (s : State) (n : Time) (seq row : Byte) (contents : List Byte), replyCount s.olp.queue < 3 →
    let refused (table : Byte) (result : Result) (detail : BitVec 16) : Prop :=
      exec (.tableWrite n seq table row contents) s =
        .next (enqueue (s.at n) (.reply ⟨4#8, seq, result, table, detail, []⟩))
    (∀ k : Byte, tableOfCode k = none → refused k .badTable 0#16) ∧
    ∀ id : TableId, contents.length = rowSize id →
      let xs := parseFields (rowFields id) contents
      (row.toNat = 0 ∨ rowCount id < row.toNat →
        refused (tableCode id) .badIndex (row.zeroExtend 16)) ∧
      (1 ≤ row.toNat → row.toNat ≤ rowCount id →
        (∀ k, firstBadField id 1 (rowFields id) xs = some k →
          refused (tableCode id) .badValue (BitVec.ofNat 16 k)) ∧
        (rowInRange id xs = true →
          exec (.tableWrite n seq (tableCode id) row contents) s =
            .next (enqueue { s with now := n, tbs := writeRow s.tbs id row xs }
              (.reply ⟨4#8, seq, .ok, tableCode id, 0#16, []⟩)) ∧
          (∀ other, ∀ k : Byte,
            activeRow (writeRow s.tbs id row xs) other k = activeRow s.tbs other k) ∧
          hasShadow (writeRow s.tbs id row xs) id = true))

/-- A commit of an open, valid shadow is answered OK: it becomes the active table, the shadow is closed, the
generation adds 1 and TABLE_EVENT is set (R177). The Limits Table is committed in any group state, and
holds every gamma correction to the new C_max and every recovery counter to the new N_cf, with the repeat
counts as they were (R127, R178); so is the Overlap Table, which changes no other block by itself. The
Converter Table is committed with both groups BLOCKED: the Phase Reference Unit restarts with the new
nominal period and every planning instant is disarmed (R33, R178); with no BYPASS order in force the groups
evaluate their conditions alone. The Ring and Station Tables are `RingRestartStartsAfresh`'s. -/
def Obligations.CommitsTakeEffect : Prop :=
  ∀ (s : State) (n : Time) (seq : Byte), replyCount s.olp.queue < 3 →
    let kept (u : State) : Prop :=
      u.rgm = s.rgm ∧ u.lvm = s.lvm ∧ u.pending = s.pending ∧ u.hasFlag .tableEvent = true ∧
        u.olp = { s.olp with sticky := u.olp.sticky }
    (∀ lt, s.tbs.limitsShadow = some lt → lt.acAssert < lt.acRelease →
      ∃ u, exec (.tableCommit n seq 1#8) s =
          .next (enqueue u (.reply ⟨5#8, seq, .ok, 1#8, 0#16, []⟩)) ∧ kept u ∧
        u.tbs = { s.tbs with
          limits := lt, limitsShadow := none, generation := s.tbs.generation + 1#16 } ∧
        (∀ b : Bridge, u.exm.correction[b] = min s.exm.correction[b] lt.cMax) ∧
        (∀ g : Group, u.exm.recovery[g] = min s.exm.recovery[g] lt.nCf) ∧
        u.exm.repeats = s.exm.repeats ∧ u.exm.pendings = s.exm.pendings ∧
        u.exm.windows = s.exm.windows ∧ u.pru = s.pru) ∧
    (∀ ot, s.tbs.overlapShadow = some ot →
      ∃ u, exec (.tableCommit n seq 2#8) s =
          .next (enqueue u (.reply ⟨5#8, seq, .ok, 2#8, 0#16, []⟩)) ∧ kept u ∧
        u.tbs = { s.tbs with
          overlap := ot, overlapShadow := none, generation := s.tbs.generation + 1#16 } ∧
        u.exm = s.exm ∧ u.pru = s.pru) ∧
    (∀ ct, s.tbs.converterShadow = some ct → ct.lockWindow < ct.captureWindow →
      (∀ g : Group, s.groups[g].state = .blocked) →
      ∃ u, exec (.tableCommit n seq 3#8) s =
          .next (enqueue u (.reply ⟨5#8, seq, .ok, 3#8, 0#16, []⟩)) ∧ kept u ∧
        u.tbs = { s.tbs with
          converter := ct, converterShadow := none, generation := s.tbs.generation + 1#16 } ∧
        u.pru = { s.pru with
          lock := .unlocked, marker := none, watch := none
          acquisition := 0, rejectRun := 0, holdover := 0
          period := ct.periodNominal, origin := 0#32
          lastEdge := fill 3 none, history := [] } ∧
        (s.pru.lock ≠ .unlocked → u.hasFlag .lockChange = true) ∧
        u.fac = { s.fac with plannings := fill 24 none } ∧ u.exm = s.exm ∧
        ((∀ g : Group, Machine.commandOf s.olp.order.flags[g] ≠ .bypass) → u.fsc = s.fsc ∧
          ∀ g : Group, u.groups[g] = { s.groups[g] with inhibits := inhibitSet u g }))

/-- A TABLE_COMMIT is refused, with no state changed but the reply: BAD_TABLE for an unknown table or one
with no shadow; STATE for the Converter, Station and Ring Tables unless both groups are BLOCKED;
BAD_VALUE with the first failing row otherwise, for the Limits and Overlap Tables in any group state
(R157, R173, R174, R177). -/
def Obligations.CommitIsRefused : Prop :=
  ∀ (s : State) (n : Time) (seq : Byte), replyCount s.olp.queue < 3 →
    (∀ k : Byte, tableOfCode k = none → exec (.tableCommit n seq k) s =
      .next (enqueue (s.at n) (.reply ⟨5#8, seq, .badTable, k, 0#16, []⟩))) ∧
    ∀ id : TableId,
      (hasShadow s.tbs id = false → exec (.tableCommit n seq (tableCode id)) s =
        .next (enqueue (s.at n) (.reply ⟨5#8, seq, .badTable, tableCode id, 0#16, []⟩))) ∧
      (hasShadow s.tbs id = true → (id = .converter ∨ id = .station ∨ id = .ring) →
        (∃ g : Group, s.groups[g].state ≠ .blocked) → exec (.tableCommit n seq (tableCode id)) s =
        .next (enqueue (s.at n) (.reply ⟨5#8, seq, .state, tableCode id, 0#16, []⟩))) ∧
      (hasShadow s.tbs id = true →
        (id = .limits ∨ id = .overlap ∨ ∀ g : Group, s.groups[g].state = .blocked) →
        ∀ k, failingRow s.tbs id = some k → exec (.tableCommit n seq (tableCode id)) s =
        .next (enqueue (s.at n)
          (.reply ⟨5#8, seq, .badValue, tableCode id, BitVec.ofNat 16 k, []⟩)))

/-- TABLE_DISCARD (R176): an unknown identifier is answered BAD_TABLE; otherwise any open shadow of the
table is dropped and the reply is OK, and with no shadow nothing changes; no active value, generation or
flag changes. -/
def Obligations.TableDiscardDropsTheShadow : Prop :=
  ∀ (s : State) (n : Time) (seq : Byte), replyCount s.olp.queue < 3 →
    (∀ k : Byte, tableOfCode k = none → exec (.tableDiscard n seq k) s =
      .next (enqueue (s.at n) (.reply ⟨6#8, seq, .badTable, k, 0#16, []⟩))) ∧
    ∀ id : TableId, ∃ x : Tbs,
      exec (.tableDiscard n seq (tableCode id)) s =
        .next (enqueue { s with
            now := n
            tbs := x }
          (.reply ⟨6#8, seq, .ok, tableCode id, 0#16, []⟩)) ∧
      hasShadow x id = false ∧ (hasShadow s.tbs id = false → x = s.tbs) ∧
      (∀ other, other ≠ id → ∀ row, shadowRow x other row = shadowRow s.tbs other row) ∧
      (∀ other row, activeRow x other row = activeRow s.tbs other row) ∧
      x.generation = s.tbs.generation

/-! ## Queries -/

/-- The eight QUERY kinds are answered OK with their contents, built from the state as it stands, or
BAD_INDEX with the argument refused; TABLE_ROW with an unknown table, or with SHADOW and no open shadow, is
answered BAD_TABLE (R76, R101, R116, R129, R140, R179, R182, R184). That a TABLE_ROW's table, row, selector
and shadow are checked in this order is log entry 24. The code of an indication that is set or clear in these
contents is the model's choice (log entry 39). -/
def Obligations.QueriesAreAnswered : Prop :=
  ∀ (s : State) (n : Time) (seq : Byte), replyCount s.olp.queue < 3 →
    let answered (c : Instr) (a : Answer) : Prop :=
      exec c s = .next (enqueue (s.at n) (.reply ⟨7#8, seq, a.result, a.subject, a.detail, a.contents⟩))
    (∀ id : TableId, ∀ row : Byte, 1 ≤ row.toNat → row.toNat ≤ rowCount id →
      answered (.tableRow n seq (tableCode id) row 0#8)
        (okWith 1#8 (rowContents id row false (activeRow s.tbs id row))) ∧
      (hasShadow s.tbs id = true → answered (.tableRow n seq (tableCode id) row 1#8)
        (okWith 1#8 (rowContents id row true (shadowRow s.tbs id row)))) ∧
      (hasShadow s.tbs id = false → answered (.tableRow n seq (tableCode id) row 1#8)
        (refuse .badTable 1#8))) ∧
    (∀ id : TableId, ∀ row x : Byte, row = 0#8 ∨ rowCount id < row.toNat →
      answered (.tableRow n seq (tableCode id) row x) (badIndex 1#8 row)) ∧
    (∀ id : TableId, ∀ row x : Byte, 1 ≤ row.toNat → row.toNat ≤ rowCount id → 1 < x.toNat →
      answered (.tableRow n seq (tableCode id) row x) (badIndex 1#8 x)) ∧
    (∀ k row x : Byte, tableOfCode k = none →
      answered (.tableRow n seq k row x) (refuse .badTable 1#8)) ∧
    (∀ v : Valve, let k := BitVec.ofNat 8 (v.val + 1)
      answered (.valveRecord n seq k) (okWith 2#8 (valveContents s v)) ∧
      answered (.levelSet n seq k) (okWith 3#8 (levelContents s v)) ∧
      answered (.stationRecord n seq k) (okWith 4#8 (stationContents s v))) ∧
    (∀ k : Byte, k = 0#8 ∨ 24 < k.toNat →
      answered (.valveRecord n seq k) (badIndex 2#8 k) ∧
      answered (.levelSet n seq k) (badIndex 3#8 k) ∧
      answered (.stationRecord n seq k) (badIndex 4#8 k)) ∧
    (∀ k : Byte, k.toNat ≤ 47 →
      answered (.schedule n seq k) (okWith 5#8 (scheduleContents s k.toNat))) ∧
    (∀ k : Byte, 47 < k.toNat → answered (.schedule n seq k) (badIndex 5#8 k)) ∧
    answered (.captureHistory n seq) (okWith 6#8 (historyContents s.pru)) ∧
    answered (.counters n seq) (okWith 7#8 (counterContents s)) ∧
    answered (.ringStats n seq) (okWith 8#8 (ringContents s.rgm))

/-! ## Commands -/

/-- CLEAR_FLAGS clears the flags its mask names, CLEAR_COUNTERS the counters of Table 11-7 and the
protective-firing counts, CLEAR_RING_STATS the scan limits and the turning stations; each is answered OK
and changes nothing else (R169, R180). CLEAR_LEVEL_FAULTS naming a valve empties its failed-level set and
its overflow indication, makes it HEALTHY, keeps the rest of its record and every other valve's record,
and is answered OK; 0 names every valve; an index above 24 is refused with BAD_INDEX (R136 to R138). -/
def Obligations.ClearingCommands : Prop :=
  ∀ (s : State) (n : Time) (seq : Byte) (mask : BitVec 16) (v : Valve),
    replyCount s.olp.queue < 3 →
    exec (.clearFlags n seq mask) s =
      .next (enqueue { s with
          now := n
          olp := { s.olp with
            sticky := Vector.ofFn fun i => s.olp.sticky[i] && !mask.getLsbD i.val } }
        (.reply ⟨8#8, seq, .ok, 1#8, 0#16, []⟩)) ∧
    exec (.clearCounters n seq) s =
      .next (enqueue { s with
          now := n
          pru := { s.pru with glitch := 0#16 }
          fac := { s.fac with scheduleConflict := 0#16, revisionLate := 0#16 }
          fsc := { s.fsc with
            fireLate := 0#16, fireMissed := 0#16, timingDeviation := 0#16, unconfirmed := 0#16 }
          rgm := { s.rgm with receiveErrors := 0#16, retries := 0#16, loopSwitches := 0#16 }
          exm := { s.exm with cfCount := fill 2 0#16, discard := 0#16 }
          lvm := { s.lvm with
            levels := Vector.ofFn fun w => { s.lvm.levels[w] with protective := 0#16 }
            rangeErrors := 0#16 }
          olp := { s.olp with
            linkCrc := 0#16, orderFormat := 0#16, duplicate := 0#16, gap := 0#16, clamp := 0#16
            busyDrop := 0#16 } }
        (.reply ⟨8#8, seq, .ok, 2#8, 0#16, []⟩)) ∧
    exec (.clearRingStats n seq) s =
      .next (enqueue { s with
          now := n
          rgm := { s.rgm with scanMin := 0, scanMax := 0, fTurning := none, rTurning := none } }
        (.reply ⟨8#8, seq, .ok, 3#8, 0#16, []⟩)) ∧
    let cleared (w : Valve) : LevelRecord :=
      { s.lvm.levels[w] with failed := [], overflow := false, state := .healthy }
    (∀ k : Byte, 24 < k.toNat → exec (.clearLevelFaults n seq k) s =
      .next (enqueue (s.at n) (.reply ⟨8#8, seq, .badIndex, 4#8, k.zeroExtend 16, []⟩))) ∧
    (∃ u, exec (.clearLevelFaults n seq 0#8) s =
        .next (enqueue u (.reply ⟨8#8, seq, .ok, 4#8, 0#16, []⟩)) ∧
      (∀ w : Valve, u.lvm.levels[w] = cleared w) ∧ u.pru = s.pru ∧ u.exm = s.exm ∧
      u.tbs = s.tbs ∧ u.olp = { s.olp with sticky := u.olp.sticky }) ∧
    ∃ u, exec (.clearLevelFaults n seq (BitVec.ofNat 8 (v.val + 1))) s =
        .next (enqueue u (.reply ⟨8#8, seq, .ok, 4#8, 0#16, []⟩)) ∧
      u.lvm.levels[v] = cleared v ∧
      (∀ w : Valve, w ≠ v → u.lvm.levels[w] = s.lvm.levels[w]) ∧
      (s.lvm.levels[v].state ≠ .healthy → u.hasFlag .levelChange = true) ∧
      (∀ p, positionOf s v = some p → s.rgm.stations[p].state = .enrolled →
        u.itemPending p .levelResync = true) ∧
      u.pru = s.pru ∧ u.exm = s.exm ∧ u.tbs = s.tbs ∧ u.lvm.rangeErrors = s.lvm.rangeErrors ∧
      u.olp = { s.olp with sticky := u.olp.sticky }

/-- TEST_FIRE for a valve of a BLOCKED group, with the test enable set, the valve's station ENROLLED and
room, places a TEST record two ring intervals ahead and is answered OK; with one of the four missing it
is refused with STATE and changes nothing but the reply (R74, R156). -/
def Obligations.TestFirePlacesATestRecord : Prop :=
  ∀ (s : State) (n : Time) (seq : Byte) (v : Valve), replyCount s.olp.queue < 3 →
    let k := BitVec.ofNat 8 (v.val + 1)
    let allowed : Prop := s.groups[valveGroup v].state = .blocked ∧ s.tbs.limits.testEnable = true ∧
      valveEnrolled s v = true ∧ (s.recordsOf v).length < 2
    let due := addTb n (2 * s.tbs.ring.ringInterval : Nat)
    (allowed → passed n (addTb due s.tbs.ring.confirmTimeout) = false →
      ∃ u, exec (.testFire n seq k) s = .next (enqueue u (.reply ⟨8#8, seq, .ok, 5#8, 0#16, []⟩)) ∧
        newTest s.tbs.ring v due (angleToTb 12000 s.pru.period).toNat ∈ u.fsc.records ∧
        u.fac.alphaLast = s.fac.alphaLast ∧ u.pru = s.pru ∧ u.rgm = s.rgm ∧ u.exm = s.exm ∧
        u.lvm = s.lvm ∧ u.tbs = s.tbs ∧ u.olp = { s.olp with sticky := u.olp.sticky }) ∧
    (¬ allowed → exec (.testFire n seq k) s =
      .next (enqueue (s.at n) (.reply ⟨8#8, seq, .state, 5#8, 0#16, []⟩)))

/-- RESET_TRIP for a TRIPPED group (R155) is answered OK. The group becomes STOPPING with no trip cause, no
bypass pair and no PLANNED record; a cancel decision marks its sent NORMAL and START records (R69), and then a
release decision its BYPASS records, and clears its waiting bypasses (R73); with no NORMAL, START or BYPASS
record left it is BLOCKED in the same handling (R149), and takes the flags in force there (R142, R145, R147).
The whole next state is given for a group without PLANNED records, as every TRIPPED one is by PlannedFits. A
group value other than 1 and 2 is refused with BAD_INDEX, a group in another state with STATE, and then
nothing changes but the reply. -/
def Obligations.ResetTripLeavesTripped : Prop :=
  ∀ (s : State) (n : Time) (seq : Byte), replyCount s.olp.queue < 3 →
    (∀ g : Group, s.groups[g].state = .tripped →
      let cancel := s.fsc.decisionCount + 1#32
      let release := cancel + 1#32
      let marked (r : FireRecord) : FireRecord :=
        if valveGroup r.valve ≠ g then r
        else if r.isRegular = true ∧ (r.state = .dispatched ∨ r.state = .armed) then
          { r with state := .cancelling, decision := some cancel, firstCancel := none }
        else if r.isBypass = true ∧ r.state ≠ .releasing then
          { r with
            state := .releasing, decision := some release, firstCancel := none
            releaseAt := some (addTb n s.tbs.ring.confirmTimeout) }
        else r
      let stopped (x : GroupState) : State := { s with
        now := n
        groups := setAt s.groups g { s.groups[g] with
          state := x, tripCauses := fill 7 false, firstCause := none, pairs := fill 2 none
          inhibits := inhibitSet s g }
        fsc := { s.fsc with
          decisionCount := release
          records := s.fsc.records.map marked
          waiting := Vector.ofFn fun v => s.fsc.waiting[v] && !decide (valveGroup v = g) } }
      ∃ u, exec (.resetTrip n seq (BitVec.ofNat 8 (g.val + 1))) s =
          .next (enqueue u (.reply ⟨8#8, seq, .ok, 6#8, 0#16, []⟩)) ∧
        u.groups[g].state ≠ .tripped ∧ u.groups[g].firstCause = none ∧
        u.groups[g].tripCauses = fill 7 false ∧
        (u.groups[g].state ≠ .bypassing → u.groups[g].pairs = fill 2 none) ∧
        (∀ r ∈ u.fsc.records, valveGroup r.valve = g → r.isRegular = true → r.state ≠ .planned) ∧
        ((∀ r ∈ s.fsc.records, valveGroup r.valve = g → r.state ≠ .planned) →
          (s.groupBusy g = true → u = stopped .stopping) ∧
          (s.groupBusy g = false → TakesFlags (stopped .blocked) u g)) ∧
        u.olp = s.olp ∧ u.pru = s.pru ∧ u.rgm = s.rgm ∧ u.exm = s.exm ∧ u.lvm = s.lvm ∧
        u.tbs = s.tbs) ∧
    (∀ g : Group, s.groups[g].state ≠ .tripped →
      exec (.resetTrip n seq (BitVec.ofNat 8 (g.val + 1))) s =
        .next (enqueue (s.at n) (.reply ⟨8#8, seq, .state, 6#8, 0#16, []⟩))) ∧
    ∀ k : Byte, k ≠ 1#8 → k ≠ 2#8 → exec (.resetTrip n seq k) s =
      .next (enqueue (s.at n) (.reply ⟨8#8, seq, .badIndex, 6#8, k.zeroExtend 16, []⟩))

/-- RING_RESTART and WARM_RESTART are refused with STATE, and change nothing but the reply, unless both
groups are BLOCKED (R181, R182). A RING_RESTART taken makes every station ABSENT and clears items,
loop-error sets, runs and the down state; with a Station Table active the link is FORWARD and a cycle is
sent at once, numbered on from the last; with none the link stands and no cycle is sent (R103, R117). A
commit of the Ring Table or of the Station Table, with both groups BLOCKED and a valid shadow, makes the
same restart: the Ring Table with the new interval, and armed instants stay; the Station Table makes
every level record anew, gives the valves their new positions and sets the next sequence numbers to 0
(R14, R77, R132, R177, R178). With no BYPASS order in force the Fire Schedule else stands. -/
def Obligations.RingRestartStartsAfresh : Prop :=
  ∀ (s : State) (n : Time) (seq : Byte), replyCount s.olp.queue < 3 →
    let unbypassed : Prop := ∀ g : Group, Machine.commandOf s.olp.order.flags[g] ≠ .bypass
    let others (u : State) : Prop := u.pru = s.pru ∧ u.exm = s.exm ∧ u.pending = s.pending ∧
      u.olp = { s.olp with sticky := u.olp.sticky } ∧
      (s.tbs.station.isSome = true → s.rgm.link ≠ .forward → u.hasFlag .ringChange = true)
    ((∃ g : Group, s.groups[g].state ≠ .blocked) →
      exec (.ringRestart n seq) s =
        .next (enqueue (s.at n) (.reply ⟨8#8, seq, .state, 7#8, 0#16, []⟩)) ∧
      exec (.warmRestart n seq) s =
        .next (enqueue (s.at n) (.reply ⟨8#8, seq, .state, 8#8, 0#16, []⟩))) ∧
    ((∀ g : Group, s.groups[g].state = .blocked) →
      ∃ u, exec (.ringRestart n seq) s =
          .next (enqueue u (.reply ⟨8#8, seq, .ok, 7#8, 0#16, []⟩)) ∧
        u.rgm = restartedRing s.rgm s.tbs.station.isSome s.tbs.ring.ringInterval n ∧
        others u ∧ u.lvm = s.lvm ∧ u.tbs = s.tbs ∧ (unbypassed → u.fsc = s.fsc)) ∧
    ((∀ g : Group, s.groups[g].state = .blocked) →
      ∀ rt, s.tbs.ringShadow = some rt → rt.ackMargin < rt.dispatchHorizon →
      ∃ u, exec (.tableCommit n seq 5#8) s =
          .next (enqueue u (.reply ⟨5#8, seq, .ok, 5#8, 0#16, []⟩)) ∧
        u.rgm = restartedRing s.rgm s.tbs.station.isSome rt.ringInterval n ∧
        u.tbs = { s.tbs with
          ring := rt, ringShadow := none, generation := s.tbs.generation + 1#16 } ∧
        u.hasFlag .tableEvent = true ∧
        others u ∧ u.lvm = s.lvm ∧ (unbypassed → u.fsc = s.fsc)) ∧
    ((∀ g : Group, s.groups[g].state = .blocked) →
      ∀ shadow, s.tbs.stationShadow = some shadow → firstFailingRow shadow = none →
      ∃ st u, exec (.tableCommit n seq 4#8) s =
          .next (enqueue u (.reply ⟨5#8, seq, .ok, 4#8, 0#16, []⟩)) ∧
        (∀ p : RingPos, shadow[p] = some st[p]) ∧
        u.rgm = restartedRing s.rgm true s.tbs.ring.ringInterval n ∧
        u.tbs = { s.tbs with
          station := some st, stationShadow := none, generation := s.tbs.generation + 1#16 } ∧
        u.hasFlag .tableEvent = true ∧ u.lvm.rangeErrors = s.lvm.rangeErrors ∧
        (∀ p : RingPos, positionOf u st[p].valve = some p ∧
          u.lvm.levels[st[p].valve] = { s.lvm.levels[st[p].valve] with
            installed := st[p].levels, redundancy := st[p].redundancy
            failed := [], overflow := false, state := .healthy }) ∧
        others u ∧ u.fsc.nextSeq = fill 24 0#8 ∧
        (unbypassed → u.fsc = { s.fsc with nextSeq := fill 24 0#8 }))

/-- A WARM_RESTART taken gives every block its restart values: the Phase Reference Unit (R33), the
calculator with its indications (R53), the next sequence numbers, the last fired valves and, with no
BYPASS order in force, the records, the waiting set, the decision count and the Valve Records (R14, R77),
the Extinction Monitor (R131), the ring by a ring restart (R103, R117), the groups (R158, R181). The
counters of every block, the levels, the orders and the tables are kept. With a BYPASS order in force a
group may enter BYPASSING when it is handed the changes of lock and ring status meanwhile (log
entries 15 and 20); no BLOCKED group has one in a run. -/
def Obligations.WarmRestartTakesRestartValues : Prop :=
  ∀ (s : State) (n : Time) (seq : Byte), replyCount s.olp.queue < 3 →
    (∀ g : Group, s.groups[g].state = .blocked) →
    ∃ u, exec (.warmRestart n seq) s =
        .next (enqueue u (.reply ⟨8#8, seq, .ok, 8#8, 0#16, []⟩)) ∧
      u.pru = { s.pru with
        lock := .unlocked, marker := none, watch := none
        acquisition := 0, rejectRun := 0, holdover := 0
        period := s.tbs.converter.periodNominal, origin := 0#32
        lastEdge := fill 3 none, history := [] } ∧
      (s.pru.lock ≠ .unlocked → u.hasFlag .lockChange = true) ∧
      u.fac = { s.fac with
        plannings := fill 24 none, firstFiring := fill 2 false
        startPending := fill 4 false, gammaLimiting := fill 2 false } ∧
      u.fsc.nextSeq = fill 24 0#8 ∧ u.fsc.lastFired = fill 4 none ∧
      u.fsc.fireLate = s.fsc.fireLate ∧ u.fsc.fireMissed = s.fsc.fireMissed ∧
      u.fsc.timingDeviation = s.fsc.timingDeviation ∧ u.fsc.unconfirmed = s.fsc.unconfirmed ∧
      (∀ v : Valve, u.fsc.valves[v].misses = 0#16 ∧
        u.fsc.valves[v].fireCount = s.fsc.valves[v].fireCount) ∧
      ((∀ g : Group, Machine.commandOf s.olp.order.flags[g] ≠ .bypass) →
        u.fsc.records = [] ∧ u.fsc.waiting = fill 24 false ∧ u.fsc.decisionCount = 0#32 ∧
        ∀ v : Valve, u.fsc.valves[v] = { s.fsc.valves[v] with misses := 0#16 }) ∧
      u.exm = { s.exm with
        pendings := fill 24 none, correction := fill 4 0, recovery := fill 2 0
        repeats := fill 2 0, windows := fill 2 [] } ∧
      u.rgm = restartedRing s.rgm s.tbs.station.isSome s.tbs.ring.ringInterval n ∧
      (s.tbs.station.isSome = true → s.rgm.link ≠ .forward → u.hasFlag .ringChange = true) ∧
      (∀ g : Group, u.groups[g] = { GroupRecord.reset with inhibits := inhibitSet u g }) ∧
      u.lvm = s.lvm ∧ u.tbs = s.tbs ∧ u.pending = s.pending ∧
      u.olp = { s.olp with sticky := u.olp.sticky }

/-! ## Valve Ring -/

/-- A ring cycle starts in FORWARD after a cycle that has come back whole in the F direction (R80, R81,
R88). The close makes both runs 0, takes the scan time, gives a position heard in FORWARD membership F,
adds a miss to every ENROLLED station not heard and makes it FAULTY at the station timeout (R96, R99,
R100). Then the number steps by 1, the send time is kept, and one F-marked frame is sent with the
first four items still pending and at most eight entries (R81, R82). The next start is one ring interval
after this one is taken (the model's choice, log entry 27). -/
def Obligations.RingCycleStartSendsAFrame : Prop :=
  ∀ (s : State) (n i : Time) (c : RingCycle), s.rgm.link = .forward → s.rgm.cycle = some c →
    c.probe = false → c.returnedF = true → s.rgm.cycleAt = some i → passed n i = true →
    ∃ t entries, exec (.ringCycleStart n) s = .next t ∧ entries.length ≤ 8 ∧
      t.rgm.link = .forward ∧ t.rgm.cycleNumber = s.rgm.cycleNumber + 1#16 ∧
      t.rgm.sendBefore = s.rgm.sendLatest ∧ t.rgm.sendLatest = some n ∧
      t.rgm.cycleAt = some (addTb n s.tbs.ring.ringInterval) ∧
      t.rgm.cycle = some {
        probe := false, pattern := .forward
        frames := [⟨.f, s.rgm.cycleNumber + 1#16, n,
          (t.rgm.items.take 4).map fun x => (x.pos, x.kind), entries⟩]
        returnedF := false, returnedR := false, overrun := false, lastReturn := none
        heardF := fill 24 false, heardR := fill 24 false } ∧
      (∀ x ∈ t.rgm.items, x ∈ s.rgm.items) ∧
      t.rgm.failRun = 0 ∧ t.rgm.overrunRun = 0 ∧ t.rgm.probeCount = s.rgm.probeCount ∧
      (∀ a b, c.lastReturn = some a → s.rgm.sendLatest = some b →
        t.rgm.scanCurrent = (a - b).toNat ∧ t.rgm.scanMax = max s.rgm.scanMax (a - b).toNat ∧
        t.rgm.scanMin = if s.rgm.scanMin = 0 then (a - b).toNat
          else min s.rgm.scanMin (a - b).toNat) ∧
      (∀ p : RingPos, c.pattern = .forward → c.heardF[p] = true →
        t.rgm.stations[p].member = some .f) ∧
      (∀ p : RingPos, s.rgm.stations[p].state = .enrolled →
        let misses := min 15 (s.rgm.stations[p].miss + 1)
        (c.heardF[p] = true ∨ c.heardR[p] = true →
          t.rgm.stations[p].state = .enrolled ∧
          t.rgm.stations[p].miss = s.rgm.stations[p].miss) ∧
        (c.heardF[p] = false → c.heardR[p] = false →
          (misses < s.tbs.ring.stationTimeout →
            t.rgm.stations[p].state = .enrolled ∧ t.rgm.stations[p].miss = misses) ∧
          (s.tbs.ring.stationTimeout ≤ misses →
            t.rgm.stations[p].state = .faulty ∧ t.rgm.stations[p].miss = misses ∧
            t.rgm.stations[p].inhibit = s.tbs.ring.inhibitInterval ∧
            t.hasFlag .stationFault = true))) ∧
      t.rgm.receiveErrors = s.rgm.receiveErrors ∧ t.rgm.loopSwitches = s.rgm.loopSwitches ∧
      t.pru = s.pru ∧ t.exm = s.exm ∧ t.lvm = s.lvm ∧ t.tbs = s.tbs ∧ t.pending = s.pending ∧
      t.olp = { s.olp with sticky := t.olp.sticky }

/-- The dispatch of fire records at a cycle start that is no probe, in FORWARD, REVERSE and the loopback
statuses, after a cycle that came back with every ENROLLED station heard and leaves the status as it is. A
station is served in the direction F in FORWARD, R in REVERSE, and in a loopback status in that of its
membership, as the close has updated it (R88, log entry 19), where the status serves that half (R83, R93). A
record is eligible when its valve's station is ENROLLED and served and Table 4-5 holds for its kind, state
and timing class (R59); CANCEL and RELEASE entries come first, by decision number, then fire entries in
schedule order, and the first eight are sent (R61), each with its kind, the due time less the path delay of
its direction, and the hold in units of 16 tb (R62, R83). Schedule order is the order in which the records
stand (log entries 35 and 40). An entry goes in the frame of its direction; in the loopback pattern an item
goes in the half of its position's membership, or in both (R81 to R83). A record sent before keeps its
sequence number; a first dispatch takes the next one of its position, or the one after it when the valve's
other record carries that, and makes PLANNED DISPATCHED (R60); a first CANCEL or RELEASE entry sets the
first-cancel cycle; resends are counted. A record not sent stays as it is, and the other blocks stand. -/
def Obligations.DispatchFillsThePlaces : Prop :=
  ∀ (s : State) (n i : Time) (c : RingCycle), s.rgm.cycle = some c → c.probe = false →
    (match s.rgm.link with
      | .forward | .reverse => c.returnedF = true ∨ c.returnedR = true
      | .loopbackBoth => c.returnedF = true ∧ c.returnedR = true
      | .loopbackF => c.returnedF = true ∧ c.returnedR = false
      | .loopbackR => c.returnedF = false ∧ c.returnedR = true
      | _ => False) →
    (s.rgm.link ≠ .forward → s.rgm.probeCount + 1 < s.tbs.ring.probeInterval) →
    s.rgm.cycleAt = some i → passed n i = true →
    (∀ p : RingPos, s.rgm.stations[p].state = .enrolled →
      c.heardF[p] = true ∨ c.heardR[p] = true) →
    let rt := s.tbs.ring
    let number := s.rgm.cycleNumber + 1#16
    let member (p : RingPos) : Option Half :=
      match c.pattern, c.heardF[p], c.heardR[p] with
      | .forward, true, _ => some .f
      | .reverse, _, true => some .r
      | .loopback, true, false => some .f
      | .loopback, false, true => some .r
      | _, _, _ => s.rgm.stations[p].member
    let served (p : RingPos) : Option Half :=
      match s.rgm.link, member p with
      | .forward, _ => some .f
      | .reverse, _ => some .r
      | .loopbackBoth, h => h
      | .loopbackF, some .f => some .f
      | .loopbackR, some .r => some .r
      | _, _ => none
    let way (r : FireRecord) : Option Half :=
      match positionOf s r.valve with
      | none => none
      | some p => served p
    let reach (r : FireRecord) : Time :=
      match way r with
      | none => r.due
      | some h => addTb r.due (-(valveDelay s r.valve h : Int))
    let inWindow (r : FireRecord) : Bool :=
      if valveStamped s r.valve then
        !before n (addTb (reach r) (-(rt.dispatchHorizon : Int))) &&
          before n (addTb r.due (-(rt.ackMargin : Int)))
      else atOrBefore n (reach r) && before (reach r) (addTb n rt.ringInterval)
    let eligible (r : FireRecord) : Bool := valveEnrolled s r.valve && (way r).isSome &&
      match r.state with
      | .planned => inWindow r
      | .dispatched => !r.isRegular || inWindow r
      | .armed => false
      | .holding => false
      | .cancelling => true
      | .releasing => true
    let ending (r : FireRecord) : Bool :=
      decide (r.state = .cancelling) || decide (r.state = .releasing)
    let fit := s.fsc.records.filter eligible
    let sent := (sortBy (fun a b => before (a.decision.getD 0#32) (b.decision.getD 0#32))
      (fit.filter ending) ++ fit.filter fun r => !ending r).take 8
    let entry (r : FireRecord) (p : RingPos) (seq : Byte) : FireEntry :=
      { pos := p
        kind := match r.state, r.body with
          | .cancelling, _ => .cancel
          | .releasing, _ => .release
          | _, .normal _ => .fire
          | _, .start => .start
          | _, .bypass => .bypass
          | _, .test => .test
        seq := seq
        localDue := reach r
        hold := if ending r then 0 else
          match r.hold with
          | none => 0
          | some h => (roundDiv h 16).toNat }
    let placed (r : FireRecord) (seq : Byte) : FireRecord := { r with
      seq := some seq
      state := if r.state = .planned then .dispatched else r.state
      firstCancel := if ending r && r.firstCancel.isNone then some number else r.firstCancel }
    let resends := (sent.filter fun r =>
      if ending r then r.firstCancel.isSome else r.seq.isSome).length
    ∃ t entries, exec (.ringCycleStart n) s = .next t ∧
      (let items := (t.rgm.items.take 4).map fun x => (x.pos, x.kind)
        let half (m : Marker) (h : Half) : CycleFrame := ⟨m, number, n,
          items.filter fun x => (member x.1).all fun k => decide (k = h),
          entries.filter fun e => decide (served e.pos = some h)⟩
        t.rgm.cycle.map RingCycle.frames = some (match s.rgm.link with
          | .forward => [⟨.f, number, n, items, entries⟩]
          | .reverse => [⟨.r, number, n, items, entries⟩]
          | _ => [half .f .f, half .r .r])) ∧
      t.rgm.link = s.rgm.link ∧
      entries.map (fun e => some { e with seq := 0#8 }) =
        sent.map (fun r => (positionOf s r.valve).map fun p => entry r p 0#8) ∧
      (∀ r ∈ sent, ∀ p, positionOf s r.valve = some p →
        (∀ q, r.seq = some q → entry r p q ∈ entries ∧ placed r q ∈ t.fsc.records) ∧
        ((s.recordsOf r.valve).filter (fun x => x.seq.isNone) = [r] →
          let next := s.fsc.nextSeq[p]
          let q := if (s.recordsOf r.valve).any fun x => decide (x.seq = some next) then
            next + 1#8 else next
          entry r p q ∈ entries ∧ placed r q ∈ t.fsc.records ∧
            t.fsc.nextSeq[p] = q + 1#8)) ∧
      (∀ r ∈ s.fsc.records, r ∉ sent → r ∈ t.fsc.records) ∧
      t.fsc.records.length = s.fsc.records.length ∧
      t.fsc = { s.fsc with records := t.fsc.records, nextSeq := t.fsc.nextSeq } ∧
      ((∀ r ∈ sent, r.seq.isSome = true) → t.fsc.nextSeq = s.fsc.nextSeq) ∧
      (t.rgm.retries.toNat : Nat) = min 65535 (s.rgm.retries.toNat + resends) ∧
      t.pru = s.pru ∧ t.fac = s.fac ∧ t.exm = s.exm ∧ t.lvm = s.lvm ∧ t.groups = s.groups ∧
      t.olp = s.olp ∧ t.tbs = s.tbs ∧ t.pending = s.pending

/-- What the close of the latest cycle and the start of the next do to the link status (R80, R81, R88 to
R94, R99). A returned close makes both runs 0; in a loopback status the status follows the halves, and DOWN
is left by the down pattern. A late close steps the overrun run, and at the loop fail count the status
becomes DOWN with INTERVAL_TOO_SHORT and the pattern so far (in DOWN it stays, log entry 37). A lost close
steps the fail run, and at the loop fail count FORWARD becomes REVERSE, REVERSE becomes LOOPBACK_BOTH, each
with the runs 0, and a loopback status becomes DOWN with LOOP_LOST. A probe that returned with every
ENROLLED station heard makes the status FORWARD, and any other probe changes no status, run, miss count or
membership. Each change of status is counted and sets RING_CHANGE. The close of a cycle that is no probe
updates the memberships, and counts a miss of an ENROLLED station not heard if it was returned or the
status is DOWN. Then the probe count steps outside FORWARD, and the next cycle goes out as a probe at the
probe interval, and otherwise by the new status, without entries in DOWN. -/
def Obligations.ClosesDecideTheLinkStatus : Prop :=
  ∀ (s : State) (n i : Time) (c : RingCycle), s.rgm.cycle = some c → s.rgm.cycleAt = some i →
    passed n i = true → s.rgm.link ≠ .stopped →
    (s.rgm.link = .down → s.rgm.downPattern.isSome = true) →
    let rt := s.tbs.ring
    let old := s.rgm.link
    let back := c.returnedF || c.returnedR
    let unheard (p : RingPos) : Prop := c.heardF[p] = false ∧ c.heardR[p] = false
    let halves : LinkStatus :=
      if c.returnedF = c.returnedR then .loopbackBoth
      else if c.returnedF then .loopbackF else .loopbackR
    let way : Pattern := match old with
      | .reverse => .reverse
      | .loopbackBoth | .loopbackF | .loopbackR => .loopback
      | .down => s.rgm.downPattern.getD .forward
      | _ => .forward
    let late := min 8 (s.rgm.overrunRun + 1)
    let lost := min 8 (s.rgm.failRun + 1)
    ∃ (new : LinkStatus) (runs : Nat × Nat) (succeeded : Bool) (t : State),
      exec (.ringCycleStart n) s = .next t ∧
      (succeeded = true ↔ c.probe = true ∧ back = true ∧
        ∀ p : RingPos, s.rgm.stations[p].state = .enrolled → ¬ unheard p) ∧
      (new, runs) =
        (if c.probe then
          if succeeded then (.forward, (0, 0)) else (old, (s.rgm.failRun, s.rgm.overrunRun))
        else if back then
          (match old with
            | .loopbackBoth | .loopbackF | .loopbackR => halves
            | .down =>
              match way with
              | .forward => .forward
              | .reverse => .reverse
              | .loopback => halves
            | _ => old, (0, 0))
        else if c.overrun then
          (if rt.loopFailCount ≤ late then .down else old, (s.rgm.failRun, late))
        else if rt.loopFailCount ≤ lost then
          match old with
          | .forward => (.reverse, (0, 0))
          | .reverse => (.loopbackBoth, (0, 0))
          | _ => (.down, (lost, 0))
        else (old, (lost, 0))) ∧
      t.rgm.link = new ∧ t.rgm.failRun = runs.1 ∧ t.rgm.overrunRun = runs.2 ∧
      (t.rgm.downCause, t.rgm.downPattern) =
        (if new = old ∧ succeeded = false then (s.rgm.downCause, s.rgm.downPattern)
        else if new = .down then
          if c.overrun then (.intervalTooShort, some way) else (.loopLost, some .loopback)
        else if old = .down ∨ succeeded = true then (.none, none)
        else (s.rgm.downCause, s.rgm.downPattern)) ∧
      t.rgm.loopSwitches =
        (if new = old then s.rgm.loopSwitches else satInc s.rgm.loopSwitches) ∧
      (new ≠ old → t.hasFlag .ringChange = true) ∧
      (∀ p : RingPos, t.rgm.stations[p].member =
        if c.probe then s.rgm.stations[p].member
        else match c.pattern, c.heardF[p], c.heardR[p] with
          | .forward, true, _ => some .f
          | .reverse, _, true => some .r
          | .loopback, true, false => some .f
          | .loopback, false, true => some .r
          | _, _, _ => s.rgm.stations[p].member) ∧
      (∀ p : RingPos, s.rgm.stations[p].state = .enrolled →
        let counted : Prop := c.probe = false ∧ (back = true ∨ new = .down) ∧ unheard p
        let misses := min 15 (s.rgm.stations[p].miss + 1)
        (¬ counted → t.rgm.stations[p].state = .enrolled ∧
          t.rgm.stations[p].miss = s.rgm.stations[p].miss) ∧
        (counted → t.rgm.stations[p].miss = misses ∧
          t.rgm.stations[p].state =
            if rt.stationTimeout ≤ misses then .faulty else .enrolled)) ∧
      (let count := if old = .forward then 0 else s.rgm.probeCount
        let probe := decide (new ≠ .forward) && decide (rt.probeInterval ≤ count + 1)
        (new ≠ .forward → t.rgm.probeCount = if probe then 0 else count + 1) ∧
        t.rgm.cycleNumber = s.rgm.cycleNumber + 1#16 ∧
        ∃ sent, t.rgm.cycle = some sent ∧ sent.probe = probe ∧ sent.overrun = false ∧
          sent.returnedF = false ∧ sent.returnedR = false ∧
          (probe = true → sent.frames = [⟨.probe, s.rgm.cycleNumber + 1#16, n, [], []⟩]) ∧
          (probe = false →
            (sent.pattern, sent.frames.map CycleFrame.marker) =
              (match new, t.rgm.downPattern with
              | .reverse, _ | .down, some .reverse => (.reverse, [.r])
              | .loopbackBoth, _ | .loopbackF, _ | .loopbackR, _ | .down, some .loopback =>
                (.loopback, [.f, .r])
              | _, _ => (.forward, [.f])) ∧
            (∀ f ∈ sent.frames, f.number = s.rgm.cycleNumber + 1#16 ∧ f.stamp = n ∧
              (new = .down → f.entries = [])))) ∧
      t.pru = s.pru ∧ t.exm = s.exm ∧ t.lvm = s.lvm ∧ t.tbs = s.tbs ∧ t.pending = s.pending ∧
      t.olp = { s.olp with sticky := t.olp.sticky }

/-- A frame that ends short or whose header fails is counted and discarded, and so is a STRAY frame: a
complete one of the latest cycle whose marker and input do not fit Table 5-2, or a second copy (R86). A
complete frame of an older cycle is counted and noted as an OVERRUN of the latest cycle, with a scan time
sample when it is of the cycle before the latest (R86, R88, R96). -/
def Obligations.DiscardedFramesAreCounted : Prop :=
  ∀ (s : State) (n : Time) (input : Port) (bytes : List Byte),
    let discarded : State :=
      { s with now := n, rgm := { s.rgm with receiveErrors := satInc s.rgm.receiveErrors } }
    (readFrame bytes = .abort ∨ readFrame bytes = .crc →
      exec (.ringFrameReturn n input bytes) s = .next discarded) ∧
    (∀ marker slots, readFrame bytes = .complete s.rgm.cycleNumber marker slots →
      (∀ c m, s.rgm.cycle = some c → marker = some m → ¬ FitsCycle c m input) →
      exec (.ringFrameReturn n input bytes) s = .next discarded) ∧
    ∀ number marker slots, readFrame bytes = .complete number marker slots →
      number ≠ s.rgm.cycleNumber →
      let counted : Rgm := { s.rgm with
        receiveErrors := satInc s.rgm.receiveErrors
        cycle := s.rgm.cycle.map fun c => { c with overrun := true } }
      exec (.ringFrameReturn n input bytes) s =
        .next { s with
          now := n
          rgm := match s.rgm.sendBefore with
            | none => counted
            | some sent =>
              if number + 1#16 = s.rgm.cycleNumber then
                let x := (n - sent).toNat
                { counted with
                  scanCurrent := x
                  scanMax := max s.rgm.scanMax x
                  scanMin := if s.rgm.scanMin = 0 then x else min s.rgm.scanMin x }
              else counted }

/-- A CYCLE frame as sent, with at most four items and eight entries, reads back as a complete frame of
its number and marker whose 24 slots are empty (R81, R183, R185); so a frame of the latest cycle that comes
back untouched, in FORWARD or REVERSE at its input, as a half of the loopback pattern at either input, or as
a probe at F-in, and for the first time, is a timely intact return that marks the half returned and changes
nothing else (R86, R87, R90, R94). -/
def Obligations.SentFrameReadsBack : Prop :=
  ∀ f : CycleFrame, f.items.length ≤ 4 → f.entries.length ≤ 8 →
    f.bytes.length = 9 + 2 * f.items.length + 9 * f.entries.length + 2 + 720 ∧
    readFrame f.bytes = .complete f.number (some f.marker) (List.replicate 24 emptySlotBytes) ∧
    ∀ (s : State) (n : Time) (input : Port) (c : RingCycle), s.rgm.cycle = some c →
      FitsCycle c f.marker input → f.number = s.rgm.cycleNumber →
      exec (.ringFrameReturn n input f.bytes) s =
        .next { s with
          now := n
          rgm := { s.rgm with
            cycle := some (match f.marker with
              | .r => { c with returnedR := true, lastReturn := some n }
              | _ => { c with returnedF := true, lastReturn := some n }) } }

/-- A timely intact return with one good slot, in FORWARD, in REVERSE, of a half of the loopback pattern on
either input, or of a probe (R86, R87, R185): the half is returned and the position heard, in the direction
of the marker, at the time taken; the line-error flag is stored; a LOOP_CLEAR item is created by the turned
flag in FORWARD, in REVERSE or in a probe, and removed when the flag is clear; in a loopback status a half
that was turned writes its turning station; a LEVEL_RESYNC item that the frame carried is received (R82,
R94, R95, R97). Then an IDENT slot goes to enrolment. A RUN slot of an ENROLLED station clears its miss count,
stores its status and conduction state and ends its ENROLL_ACK item, and its reports are taken in the order
fired reports, acknowledgements, extinction report, level changes (R63, R87, R98, R110); one of a station that
is not ENROLLED lets an ABSENT position join, and its reports are discarded (R106, R111). -/
def Obligations.GoodSlotReachesItsBlocks : Prop :=
  ∀ (s : State) (n : Time) (input : Port) (bytes : List Byte) (c : RingCycle) (m : Marker)
    (p : RingPos) (row : StationRow) (lineError turned : Bool) (body : SlotBody),
    ReturnsOneSlot s input bytes c m p row lineError turned body →
    let is (k : ItemKind) (x : ControlItem) : Bool := decide (x.pos = p) && decide (x.kind = k)
    let carried : Bool := c.frames.any fun f =>
      decide (f.marker = m) && f.items.any fun x => decide (x = (p, .levelResync))
    let d := m.direction
    let loopback : Prop :=
      s.rgm.link = .loopbackBoth ∨ s.rgm.link = .loopbackF ∨ s.rgm.link = .loopbackR
    let flagged : List ControlItem :=
      if turned then
        if (s.rgm.link = .forward ∨ s.rgm.link = .reverse ∨ m = .probe) ∧
            s.itemPending p .loopClear = false then
          s.rgm.items ++ [⟨p, .loopClear, false⟩]
        else s.rgm.items
      else s.rgm.items.filter fun x => !is .loopClear x
    let noted : List ControlItem := flagged.map fun x =>
      if carried && is .levelResync x then { x with received := true } else x
    let heard : State := { s with
      now := n
      rgm := { s.rgm with
        cycle := some (match d with
          | .f => { c with
              returnedF := true, lastReturn := some n, heardF := setAt c.heardF p true }
          | .r => { c with
              returnedR := true, lastReturn := some n, heardR := setAt c.heardR p true })
        loopErrF := match d with
          | .f => setAt s.rgm.loopErrF p lineError
          | .r => s.rgm.loopErrF
        loopErrR := match d with
          | .f => s.rgm.loopErrR
          | .r => setAt s.rgm.loopErrR p lineError
        fTurning := if loopback ∧ m = .f ∧ input = .rIn ∧ turned = true then some p
          else s.rgm.fTurning
        rTurning := if loopback ∧ m = .r ∧ input = .fIn ∧ turned = true then some p
          else s.rgm.rTurning
        items := noted } }
    let run (r : RunSlot) : State := { heard with
      rgm := { heard.rgm with
        stations := setAt s.rgm.stations p { s.rgm.stations[p] with
          miss := 0, runStatus := some r.status, conduction := some r.conduction }
        items := noted.filter fun x => !is .enrollAck x } }
    exec (.ringFrameReturn n input bytes) s = .next (
      match body with
      | .ident x => takeIdent heard p row s.rgm.cycleNumber x
      | .run r =>
        if s.rgm.stations[p].state = .enrolled then
          let fired := r.fired.foldl (takeFired row.valve d) (run r)
          let acked := r.acks.foldl (takeAck row.valve s.rgm.cycleNumber) fired
          let reported := match r.extinction with
            | none => acked
            | some x => extinctionReport acked row.valve d x.1 x.2
          r.changes.foldl (levelChange row.valve) reported
        else if s.rgm.stations[p].state = .absent then
          { heard with rgm := { heard.rgm with
            stations := setAt s.rgm.stations p { s.rgm.stations[p] with
              state := .enrolling, age := 0#16, stuck := false
              lastIdent := none, consistent := 0 } } }
        else heard)

/-- The third IDENT slot in a row with the same content enrols a position in ENROLLING when identity and
levels agree with its Station Table row: state, miss count, timing class and enrolled content are
written, ENROLL_ACK and LEVEL_RESYNC items are pending and the valve's level record is cleared (R107 to
R110). When they disagree the position enters MISMATCH with the reason, and MISMATCH is set. So it is for
the slot as taken, and for the command that brings a frame back with that one slot. -/
def Obligations.ThirdIdentDecidesEnrolment : Prop :=
  ∀ (s : State) (p : RingPos) (row : StationRow) (i : Ident),
    s.rgm.stations[p].state = .enrolling → s.rgm.stations[p].lastIdent = some i →
    s.rgm.stations[p].consistent = 2 →
    let idOk : Prop := row.identity = 0#32 ∨ i.identity = row.identity
    let levelsOk : Prop := i.levels = row.levels
    let decided (t : State) : Prop :=
      (idOk → levelsOk →
        t.rgm.stations[p].state = .enrolled ∧ t.rgm.stations[p].miss = 0 ∧
        t.rgm.stations[p].timing = some (if i.stamped then .stamped else .coarse) ∧
        t.rgm.stations[p].enrolledIdent = some i ∧ t.rgm.stations[p].age = 0#16 ∧
        t.rgm.stations[p].stuck = false ∧ t.itemPending p .enrollAck = true ∧
        t.itemPending p .levelResync = true ∧ t.lvm.levels[row.valve].failed = [] ∧
        t.lvm.levels[row.valve].state = .healthy) ∧
      (¬ (idOk ∧ levelsOk) →
        t.rgm.stations[p].state = .mismatch ∧ t.rgm.stations[p].stuck = false ∧
        t.hasFlag .mismatch = true ∧
        (idOk → t.rgm.stations[p].mismatch = .levels) ∧
        (levelsOk → t.rgm.stations[p].mismatch = .identity) ∧
        (¬ idOk → ¬ levelsOk → t.rgm.stations[p].mismatch = .identityAndLevels) ∧
        t.groups = s.groups ∧ t.lvm = s.lvm)
    (∀ m : BitVec 16, decided (takeIdent s p row m i) ∧
      (¬ (idOk ∧ levelsOk) → (takeIdent s p row m i).rgm.items = s.rgm.items)) ∧
    ∀ (n : Time) (input : Port) (bytes : List Byte) (c : RingCycle) (m : Marker)
      (lineError turned : Bool),
      ReturnsOneSlot s input bytes c m p row lineError turned (.ident i) →
      ∃ t, exec (.ringFrameReturn n input bytes) s = .next t ∧ decided t ∧
        t.pru = s.pru ∧ t.exm = s.exm ∧ t.tbs = s.tbs ∧ t.pending = s.pending ∧
        t.olp = { s.olp with sticky := t.olp.sticky }

/-- A further failed level beyond the redundancy makes a valve OVER_LIMIT, sets LEVEL_CHANGE and
LEVEL_LIMIT, and trips a group in DEBLOCKING, RUNNING or BYPASSING with cause LEVEL_LIMIT in the same
handling (R133, R134, R136, R137, R151, R152). So it is for the level change as taken, and for the command
that brings back a frame with the good RUN slot of the valve's ENROLLED station that carries it. -/
def Obligations.FailedLevelBeyondRedundancyTrips : Prop :=
  ∀ (s : State) (v : Valve) (level : Nat),
    let r := s.lvm.levels[v]
    let g := valveGroup v
    1 ≤ level → level ≤ r.installed → (∀ x ∈ r.failed, x.1 ≠ level) → r.failed.length < 16 →
    r.redundancy ≤ r.failed.length → r.state ≠ .overLimit →
    (s.groups[g].state = .deblocking ∨ s.groups[g].state = .running ∨
      s.groups[g].state = .bypassing) →
    let tripped (t : State) : Prop :=
      t.lvm.levels[v].state = .overLimit ∧ (level, LevelCause.short) ∈ t.lvm.levels[v].failed ∧
        t.lvm.levels[v].failed.length = r.failed.length + 1 ∧
        t.hasFlag .levelChange = true ∧ t.hasFlag .levelLimit = true ∧
        TrippedBy t g .levelLimit ∧ t.groups[g].holdTimer = none
    tripped (levelChange v s (level, .short)) ∧
    ∀ (n : Time) (input : Port) (bytes : List Byte) (c : RingCycle) (m : Marker) (p : RingPos)
      (row : StationRow) (lineError turned : Bool) (slot : RunSlot),
      ReturnsOneSlot s input bytes c m p row lineError turned (.run slot) →
      s.rgm.stations[p].state = .enrolled → row.valve = v → slot.fired = [] → slot.acks = [] →
      slot.extinction = none → slot.changes = [(level, .short)] →
      ∃ t, exec (.ringFrameReturn n input bytes) s = .next t ∧ tripped t ∧
        t.pru = s.pru ∧ t.exm = s.exm ∧ t.tbs = s.tbs ∧ t.pending = s.pending ∧
        t.olp = { s.olp with sticky := t.olp.sticky }

/-! ## Frames of the Order Link -/

/-- Every well-formed command that an Order Link frame spells is read back from the bytes of its frame,
every operand at every value (R159, R160, R183, R184; log entry 1: the time is the model's operand). -/
def Obligations.LinkFramesReadBack : Prop :=
  ∀ (i : Instr) (t : Time) (type seq : Byte) (payload : List Byte), i.wf = true →
    frameOf i = some (type, seq, payload) → i.time? = some t →
    receiveFrame t (frameBytes type seq payload) = i

/-- A row in range that is written to a table is read back from the shadow with the bytes written, no other
row of the table changes, and a QUERY of the row's shadow is answered OK with the table, the row, SHADOW,
assigned and the bytes written (R172, R175, R179, Tables 12-5 and 12-9). -/
def Obligations.WrittenRowsReadBack : Prop :=
  ∀ (t : Tbs) (id : TableId) (row : Byte) (contents : List Byte), contents.length = rowSize id →
    1 ≤ row.toNat → row.toNat ≤ rowCount id →
    rowInRange id (parseFields (rowFields id) contents) = true →
    let xs := parseFields (rowFields id) contents
    shadowRow (writeRow t id row xs) id row = some xs ∧
      fieldBytes (rowFields id) xs = contents ∧
      (∀ other : Byte, 1 ≤ other.toNat → other.toNat ≤ rowCount id → other ≠ row →
        hasShadow t id = true → shadowRow (writeRow t id row xs) id other = shadowRow t id other) ∧
      ∀ (s : State) (n : Time) (seq : Byte), s.tbs = writeRow t id row xs →
        replyCount s.olp.queue < 3 →
        exec (.tableRow n seq (tableCode id) row 1#8) s = .next (enqueue (s.at n)
          (.reply ⟨7#8, seq, .ok, 1#8, 0#16, [tableCode id, row, 1#8, 1#8] ++ contents⟩))
end

