-- ==== Sys2Proof/Laws/Basics.lean ====
section
/-! SUPPORT. What the small shared functions do: fixed-size tables, counters, modular time,
insertion and sorting, byte coding. -/

namespace Sys2Proof.Machine

/-! ## Fixed-size tables -/

@[simp] theorem setAt_get {α : Type} {n : Nat} (v : Vector α n) (i : Fin n) (x : α) :
    (setAt v i x)[i] = x := by
  simp [setAt]

theorem setAt_get_ne {α : Type} {n : Nat} (v : Vector α n) (i j : Fin n) (x : α) (h : i ≠ j) :
    (setAt v i x)[j] = v[j] := by
  have h' : i.val ≠ j.val := fun e => h (Fin.ext e)
  simp [setAt, h']

theorem setAt_get_eq {α : Type} {n : Nat} (v : Vector α n) (i j : Fin n) (x : α) :
    (setAt v i x)[j] = if i = j then x else v[j] := by
  split
  · next h => subst h; exact setAt_get v i x
  · next h => exact setAt_get_ne v i j x h

@[simp] theorem mapVec_get {α β : Type} {n : Nat} (f : α → β) (v : Vector α n) (i : Fin n) :
    (mapVec f v)[i] = f v[i] := by
  simp [mapVec]

@[simp] theorem fill_get {α : Type} {n : Nat} (x : α) (i : Fin n) : (fill n x)[i] = x := by
  simp [fill]

@[simp] theorem ofFn_get {α : Type} {n : Nat} (f : Fin n → α) (i : Fin n) :
    (Vector.ofFn f)[i] = f i := by
  simp

/-! ## Counters -/

theorem satInc_toNat (c : Count16) : (satInc c).toNat = min 65535 (c.toNat + 1) := by
  unfold satInc
  split
  · next h => subst h; rfl
  · next h =>
    have : c.toNat ≠ 65535 := fun e => h (BitVec.eq_of_toNat_eq (by simpa using e))
    have := c.isLt
    rw [BitVec.toNat_add]
    have : (1#16 : BitVec 16).toNat = 1 := rfl
    omega

/-! ## Times (R6) -/

@[simp] theorem before_self (a : Time) : before a a = false := by
  simp [before]

theorem before_asymm (a b : Time) (h : before a b = true) : before b a = false := by
  simp only [before, Bool.and_eq_true, decide_eq_true_eq] at h ⊢
  simp only [Bool.and_eq_false_iff, decide_eq_false_iff_not]
  bv_omega

@[simp] theorem passed_self (t : Time) : passed t t = true := by
  simp [passed, atOrBefore]

theorem passed_iff (now t : Time) : passed now t = true ↔ (now - t).toNat ≤ 2147483648 := by
  simp only [passed, atOrBefore, before, Bool.not_eq_true', Bool.and_eq_false_iff,
    decide_eq_false_iff_not]
  bv_omega

@[simp] theorem reached_none (now : Time) : reached now none = false := rfl

@[simp] theorem reached_some (now t : Time) : reached now (some t) = passed now t := rfl

/-! ## Insertion and sorting -/

theorem insertBy_perm {α : Type} (lt : α → α → Bool) (x : α) (xs : List α) :
    List.Perm (insertBy lt x xs) (x :: xs) := by
  induction xs with
  | nil => exact .refl _
  | cons y ys ih =>
    simp only [insertBy]
    split
    · exact .refl _
    · exact (List.Perm.cons y ih).trans (.swap x y ys)

@[simp] theorem insertBy_length {α : Type} (lt : α → α → Bool) (x : α) (xs : List α) :
    (insertBy lt x xs).length = xs.length + 1 := (insertBy_perm lt x xs).length_eq

@[simp] theorem mem_insertBy {α : Type} (lt : α → α → Bool) (x y : α) (xs : List α) :
    y ∈ insertBy lt x xs ↔ y = x ∨ y ∈ xs := by
  rw [(insertBy_perm lt x xs).mem_iff, List.mem_cons]

theorem sortBy_perm {α : Type} (lt : α → α → Bool) (xs : List α) :
    List.Perm (sortBy lt xs) xs := by
  have key : ∀ (xs acc : List α),
      List.Perm (xs.foldl (fun acc x => insertBy lt x acc) acc) (xs ++ acc) := by
    intro xs
    induction xs with
    | nil => intro acc; exact .refl _
    | cons x xs ih =>
      intro acc
      refine (ih (insertBy lt x acc)).trans ?_
      refine ((insertBy_perm lt x acc).append_left xs).trans ?_
      exact List.perm_middle
  simpa [sortBy] using key xs []

@[simp] theorem replaceFirst_length {α : Type} [DecidableEq α] (x y : α) (xs : List α) :
    (replaceFirst x y xs).length = xs.length := by
  induction xs with
  | nil => rfl
  | cons z zs ih => simp only [replaceFirst]; split <;> simp [ih]

/-- A replaced element is the new one or was there before. -/
theorem mem_replaceFirst {α : Type} [DecidableEq α] {x y z : α} {xs : List α}
    (h : z ∈ replaceFirst x y xs) : z = y ∨ z ∈ xs := by
  induction xs with
  | nil => simp [replaceFirst] at h
  | cons w ws ih =>
    simp only [replaceFirst] at h
    split at h
    · rcases List.mem_cons.mp h with h | h
      · exact .inl h
      · exact .inr (List.mem_cons_of_mem _ h)
    · rcases List.mem_cons.mp h with h | h
      · exact .inr (h ▸ List.mem_cons_self)
      · rcases ih h with h | h
        · exact .inl h
        · exact .inr (List.mem_cons_of_mem _ h)

/-! ## Bytes (R183) -/

@[simp] theorem beBytes_length (w n : Nat) : (beBytes w n).length = w := by
  induction w generalizing n with
  | zero => rfl
  | succ w ih => simp [beBytes, ih]

theorem beNat_append (xs : List Byte) (b : Byte) : beNat (xs ++ [b]) = beNat xs * 256 + b.toNat := by
  simp [beNat]

/-- What is written most significant byte first is read back, within the width. -/
theorem beNat_beBytes (w n : Nat) : beNat (beBytes w n) = n % 256 ^ w := by
  induction w generalizing n with
  | zero => simp [beBytes, beNat, Nat.mod_one]
  | succ w ih =>
    have h : n % 256 ^ (w + 1) = n % 256 + 256 * (n / 256 % 256 ^ w) := by
      rw [Nat.pow_succ', Nat.mod_mul]
    rw [beBytes, beNat_append, ih, BitVec.toNat_ofNat, h]
    omega

theorem beBytes_beNat_pair (a b : Byte) :
    beBytes 2 (beNat [a, b]) = [a, b] := by
  have ha := a.isLt
  have hb := b.isLt
  simp only [beNat, beBytes, List.foldl, List.nil_append, List.cons_append]
  congr 1
  · apply BitVec.eq_of_toNat_eq; simp; omega
  · congr 1
    apply BitVec.eq_of_toNat_eq; simp; omega

@[simp] theorem crcBytes_length (bs : List Byte) : (crcBytes bs).length = 2 := by simp [crcBytes]

end Sys2Proof.Machine
end

