-- ==== Sys2Proof/Laws/Moves.lean ====
section
/-! SUPPORT. The ways in which the live records of the Fire Schedule can change, said once: every
operation of the model changes the list of records by these moves only (`Laws/Frame.lean`). -/

namespace Sys2Proof.Machine

/-- `r'` is `r` but for its state, its marks and its instants. -/
structure SameFiring (r r' : FireRecord) : Prop where
  valve : r'.valve = r.valve
  body : r'.body = r.body
  seq : r'.seq = r.seq

/-- The angle of a NORMAL record lies between the α limits it was planned with. -/
def angleHeld (n : NormalPart) : Prop :=
  n.inputs.alphaMin ≤ n.alphaEff ∧ n.alphaEff ≤ n.inputs.alphaMax

/-- A NORMAL record planned under a Limits Table keeps its α limits, and its angle lies between them
when they are in order. -/
def PlannedUnder (lt : LimitsTable) (r : FireRecord) : Prop :=
  ∀ n, r.body = .normal n → n.inputs.alphaMin = lt.alphaMin ∧ n.inputs.alphaMax = lt.alphaMax ∧
    (lt.alphaMin ≤ lt.alphaMax → angleHeld n)

/-- A record that may be placed: its valve has room, it has no sequence number, and a BYPASS record
finds no other leg of its bridge held (R57, R60, R71). -/
structure Placeable (lt : LimitsTable) (l : List FireRecord) (r : FireRecord) : Prop where
  room : (l.filter fun x => decide (x.valve = r.valve)).length < Config.recordsPerValve
  seq : r.seq = none
  leg : r.isBypass = true → ∀ x ∈ l, x.isBypass = true → valveBridge x.valve = valveBridge r.valve →
    valveLeg x.valve = valveLeg r.valve
  angle : PlannedUnder lt r

/-- A revised record (R49, R50): another due time and angle for the same NORMAL record. -/
structure Revised (r r' : FireRecord) : Prop where
  valve : r'.valve = r.valve
  seq : r'.seq = r.seq
  normal : ∃ n, r.body = .normal n ∧ ∃ a, r'.body = .normal { n with alphaEff := a } ∧
    (n.inputs.alphaMin ≤ n.inputs.alphaMax → n.inputs.alphaMin ≤ a ∧ a ≤ n.inputs.alphaMax)

/-- The fire sequence number given at a first dispatch when the position's next number is `n` (R60). -/
def numberGiven (l : List FireRecord) (v : Valve) (n : Byte) : Byte :=
  if (l.filter fun x => decide (x.valve = v)).any fun x => decide (x.seq = some n) then n + 1#8
  else n

/-- How the list of live records can change. -/
inductive Moves (lt : LimitsTable) : List FireRecord → List FireRecord → Prop where
  | refl (l : List FireRecord) : Moves lt l l
  | trans {a b c : List FireRecord} : Moves lt a b → Moves lt b c → Moves lt a c
  | drop (r : FireRecord) (l : List FireRecord) : Moves lt l (l.erase r)
  | put (r r' : FireRecord) (l : List FireRecord) : SameFiring r r' →
      Moves lt l (replaceFirst r r' l)
  | number (r r' : FireRecord) (l : List FireRecord) (n : Byte) : r'.valve = r.valve →
      r'.body = r.body → r.seq = none → r'.seq = some (numberGiven l r.valve n) →
      Moves lt l (replaceFirst r r' l)
  | move (r r' : FireRecord) (l : List FireRecord) : r ∈ l → Revised r r' →
      Moves lt l (insertBy schedBefore r' (l.erase r))
  | map (f : FireRecord → FireRecord) (l : List FireRecord) : (∀ r, SameFiring r (f r)) →
      Moves lt l (l.map f)
  | add (r : FireRecord) (l : List FireRecord) : Placeable lt l r →
      Moves lt l (insertBy schedBefore r l)
  | clear (l : List FireRecord) : Moves lt l []

theorem SameFiring.refl (r : FireRecord) : SameFiring r r := ⟨rfl, rfl, rfl⟩

theorem markCancelled_same (g : Group) (n : BitVec 32) (r : FireRecord) :
    SameFiring r (markCancelled g n r) := by
  unfold markCancelled
  split
  · exact ⟨rfl, rfl, rfl⟩
  · exact .refl r

theorem markReleased_same (g : Group) (n : BitVec 32) (t : Time) (r : FireRecord) :
    SameFiring r (markReleased g n t r) := by
  unfold markReleased
  split
  · exact ⟨rfl, rfl, rfl⟩
  · exact .refl r

theorem afterLateness_same (s : State) (r : FireRecord) : SameFiring r (afterLateness s r) :=
  ⟨rfl, rfl, rfl⟩

/-! ## The angle of the stages (R38 to R42) -/

theorem stages_range (ord lo hi up g mu c a : Int) (ref : Option Int) (h : lo ≤ hi) :
    lo ≤ (stages ord lo hi up g mu c a ref).alphaEff ∧
      (stages ord lo hi up g mu c a ref).alphaEff ≤ hi := by
  cases ref <;> simp only [stages, rateLimit, orderClamp, gammaLimitRaw] <;> omega

/-! ## New records -/

theorem newBypass_placeable (lt : LimitsTable) (s : State) (v : Valve) (due : Time)
    (room : s.hasRoom v = true) (leg : s.otherLegHeld v = false) :
    Placeable lt s.fsc.records (newBypass v due) where
  room := of_decide_eq_true room
  seq := rfl
  leg := by
    intro _ x mem by_ br
    simp only [State.otherLegHeld, List.any_eq_false, Bool.and_eq_true, decide_eq_true_eq,
      not_and, Decidable.not_not] at leg
    exact leg x mem ⟨by_, br⟩
  angle := by intro n h; simp [newBypass] at h

theorem newTest_placeable (lt : LimitsTable) (s : State) (v : Valve) (due : Time) (hold : Nat)
    (rt : RingTable) (room : s.hasRoom v = true) :
    Placeable lt s.fsc.records (newTest rt v due hold) where
  room := of_decide_eq_true room
  seq := rfl
  leg := by intro h; simp [newTest, FireRecord.isBypass] at h
  angle := by intro n h; simp [newTest] at h

theorem newStart_placeable (lt : LimitsTable) (s : State) (v : Valve) (due : Time) (hold : Nat)
    (rt : RingTable) (room : s.hasRoom v = true) :
    Placeable lt s.fsc.records (newStart rt v due hold) where
  room := of_decide_eq_true room
  seq := rfl
  leg := by intro h; simp [newStart, FireRecord.isBypass] at h
  angle := by intro n h; simp [newStart] at h

/-- A record made by a planning under the active Limits Table (R37 to R44); `s` is the state the
inputs were read in, `s'` the state the record is placed in. -/
theorem plannedRecord_placeable (s s' : State) (v : Valve) (target : Time)
    (same : s'.tbs.limits = s.tbs.limits) (room : s'.hasRoom v = true) :
    Placeable s'.tbs.limits s'.fsc.records (plannedRecord s' v (planInputs s v target)
      (revisedStages s v (planInputs s v target)).alphaEff) where
  room := of_decide_eq_true room
  seq := rfl
  leg := by intro h; simp [plannedRecord, newNormal, FireRecord.isBypass] at h
  angle := by
    intro n h
    simp only [plannedRecord, newNormal, RecordBody.normal.injEq] at h
    subst h
    rw [same]
    exact ⟨rfl, rfl, fun le => stages_range _ _ _ _ _ _ _ _ _ le⟩

theorem revisedRecord_revised (s s' : State) (r : FireRecord) (n : NormalPart)
    (h : r.body = .normal n) :
    Revised r (revisedRecord s r n (revisedDue s r.valve n.inputs
      (revisedStages s' r.valve n.inputs).alphaEff)
      (revisedStages s' r.valve n.inputs).alphaEff) :=
  ⟨rfl, rfl, n, h, _, rfl, fun le => stages_range _ _ _ _ _ _ _ _ _ le⟩

end Sys2Proof.Machine
end

