-- ==== Sys2Proof/Laws/State.lean ====
section
/-! SUPPORT. One lemma per field per named update of `State`, true by unfolding, so that no proof
unfolds a record update. -/

namespace Sys2Proof.Machine

@[simp] theorem State.at_pru (s : State) (t : Time) : (s.at t).pru = s.pru := rfl
@[simp] theorem State.at_fac (s : State) (t : Time) : (s.at t).fac = s.fac := rfl
@[simp] theorem State.at_fsc (s : State) (t : Time) : (s.at t).fsc = s.fsc := rfl
@[simp] theorem State.at_rgm (s : State) (t : Time) : (s.at t).rgm = s.rgm := rfl
@[simp] theorem State.at_exm (s : State) (t : Time) : (s.at t).exm = s.exm := rfl
@[simp] theorem State.at_lvm (s : State) (t : Time) : (s.at t).lvm = s.lvm := rfl
@[simp] theorem State.at_groups (s : State) (t : Time) : (s.at t).groups = s.groups := rfl
@[simp] theorem State.at_olp (s : State) (t : Time) : (s.at t).olp = s.olp := rfl
@[simp] theorem State.at_tbs (s : State) (t : Time) : (s.at t).tbs = s.tbs := rfl
@[simp] theorem State.at_pending (s : State) (t : Time) : (s.at t).pending = s.pending := rfl
@[simp] theorem State.at_now (s : State) (t : Time) :
    (s.at t).now = t := rfl

@[simp] theorem State.setFlag_now (s : State) (f : StickyFlag) : (s.setFlag f).now = s.now := rfl
@[simp] theorem State.setFlag_pru (s : State) (f : StickyFlag) : (s.setFlag f).pru = s.pru := rfl
@[simp] theorem State.setFlag_fac (s : State) (f : StickyFlag) : (s.setFlag f).fac = s.fac := rfl
@[simp] theorem State.setFlag_fsc (s : State) (f : StickyFlag) : (s.setFlag f).fsc = s.fsc := rfl
@[simp] theorem State.setFlag_rgm (s : State) (f : StickyFlag) : (s.setFlag f).rgm = s.rgm := rfl
@[simp] theorem State.setFlag_exm (s : State) (f : StickyFlag) : (s.setFlag f).exm = s.exm := rfl
@[simp] theorem State.setFlag_lvm (s : State) (f : StickyFlag) : (s.setFlag f).lvm = s.lvm := rfl
@[simp] theorem State.setFlag_groups (s : State) (f : StickyFlag) : (s.setFlag f).groups = s.groups := rfl
@[simp] theorem State.setFlag_tbs (s : State) (f : StickyFlag) : (s.setFlag f).tbs = s.tbs := rfl
@[simp] theorem State.setFlag_pending (s : State) (f : StickyFlag) : (s.setFlag f).pending = s.pending := rfl
@[simp] theorem State.setFlag_olp_sticky (s : State) (f : StickyFlag) :
    (s.setFlag f).olp.sticky = setAt s.olp.sticky f.bit true := rfl
@[simp] theorem State.setFlag_olp_order (s : State) (f : StickyFlag) :
    (s.setFlag f).olp.order = s.olp.order := rfl
@[simp] theorem State.setFlag_olp_queue (s : State) (f : StickyFlag) :
    (s.setFlag f).olp.queue = s.olp.queue := rfl
@[simp] theorem State.setFlag_olp_sending (s : State) (f : StickyFlag) :
    (s.setFlag f).olp.sending = s.olp.sending := rfl

@[simp] theorem State.setGroup_now (s : State) (g : Group) (r : GroupRecord) : (s.setGroup g r).now = s.now := rfl
@[simp] theorem State.setGroup_pru (s : State) (g : Group) (r : GroupRecord) : (s.setGroup g r).pru = s.pru := rfl
@[simp] theorem State.setGroup_fac (s : State) (g : Group) (r : GroupRecord) : (s.setGroup g r).fac = s.fac := rfl
@[simp] theorem State.setGroup_fsc (s : State) (g : Group) (r : GroupRecord) : (s.setGroup g r).fsc = s.fsc := rfl
@[simp] theorem State.setGroup_rgm (s : State) (g : Group) (r : GroupRecord) : (s.setGroup g r).rgm = s.rgm := rfl
@[simp] theorem State.setGroup_exm (s : State) (g : Group) (r : GroupRecord) : (s.setGroup g r).exm = s.exm := rfl
@[simp] theorem State.setGroup_lvm (s : State) (g : Group) (r : GroupRecord) : (s.setGroup g r).lvm = s.lvm := rfl
@[simp] theorem State.setGroup_olp (s : State) (g : Group) (r : GroupRecord) : (s.setGroup g r).olp = s.olp := rfl
@[simp] theorem State.setGroup_tbs (s : State) (g : Group) (r : GroupRecord) : (s.setGroup g r).tbs = s.tbs := rfl
@[simp] theorem State.setGroup_pending (s : State) (g : Group) (r : GroupRecord) : (s.setGroup g r).pending = s.pending := rfl
@[simp] theorem State.setGroup_groups (s : State) (g : Group) (r : GroupRecord) :
    (s.setGroup g r).groups = setAt s.groups g r := rfl

@[simp] theorem State.setStation_now (s : State) (p : RingPos) (r : Station) : (s.setStation p r).now = s.now := rfl
@[simp] theorem State.setStation_pru (s : State) (p : RingPos) (r : Station) : (s.setStation p r).pru = s.pru := rfl
@[simp] theorem State.setStation_fac (s : State) (p : RingPos) (r : Station) : (s.setStation p r).fac = s.fac := rfl
@[simp] theorem State.setStation_fsc (s : State) (p : RingPos) (r : Station) : (s.setStation p r).fsc = s.fsc := rfl
@[simp] theorem State.setStation_exm (s : State) (p : RingPos) (r : Station) : (s.setStation p r).exm = s.exm := rfl
@[simp] theorem State.setStation_lvm (s : State) (p : RingPos) (r : Station) : (s.setStation p r).lvm = s.lvm := rfl
@[simp] theorem State.setStation_groups (s : State) (p : RingPos) (r : Station) : (s.setStation p r).groups = s.groups := rfl
@[simp] theorem State.setStation_olp (s : State) (p : RingPos) (r : Station) : (s.setStation p r).olp = s.olp := rfl
@[simp] theorem State.setStation_tbs (s : State) (p : RingPos) (r : Station) : (s.setStation p r).tbs = s.tbs := rfl
@[simp] theorem State.setStation_pending (s : State) (p : RingPos) (r : Station) : (s.setStation p r).pending = s.pending := rfl
@[simp] theorem State.setStation_rgm_stations (s : State) (p : RingPos) (r : Station) :
    (s.setStation p r).rgm.stations = setAt s.rgm.stations p r := rfl
@[simp] theorem State.setStation_rgm_link (s : State) (p : RingPos) (r : Station) :
    (s.setStation p r).rgm.link = s.rgm.link := rfl
@[simp] theorem State.setStation_rgm_items (s : State) (p : RingPos) (r : Station) :
    (s.setStation p r).rgm.items = s.rgm.items := rfl

@[simp] theorem State.setLevel_now (s : State) (v : Valve) (r : LevelRecord) : (s.setLevel v r).now = s.now := rfl
@[simp] theorem State.setLevel_pru (s : State) (v : Valve) (r : LevelRecord) : (s.setLevel v r).pru = s.pru := rfl
@[simp] theorem State.setLevel_fac (s : State) (v : Valve) (r : LevelRecord) : (s.setLevel v r).fac = s.fac := rfl
@[simp] theorem State.setLevel_fsc (s : State) (v : Valve) (r : LevelRecord) : (s.setLevel v r).fsc = s.fsc := rfl
@[simp] theorem State.setLevel_rgm (s : State) (v : Valve) (r : LevelRecord) : (s.setLevel v r).rgm = s.rgm := rfl
@[simp] theorem State.setLevel_exm (s : State) (v : Valve) (r : LevelRecord) : (s.setLevel v r).exm = s.exm := rfl
@[simp] theorem State.setLevel_groups (s : State) (v : Valve) (r : LevelRecord) : (s.setLevel v r).groups = s.groups := rfl
@[simp] theorem State.setLevel_olp (s : State) (v : Valve) (r : LevelRecord) : (s.setLevel v r).olp = s.olp := rfl
@[simp] theorem State.setLevel_tbs (s : State) (v : Valve) (r : LevelRecord) : (s.setLevel v r).tbs = s.tbs := rfl
@[simp] theorem State.setLevel_pending (s : State) (v : Valve) (r : LevelRecord) : (s.setLevel v r).pending = s.pending := rfl
@[simp] theorem State.setLevel_lvm_levels (s : State) (v : Valve) (r : LevelRecord) :
    (s.setLevel v r).lvm.levels = setAt s.lvm.levels v r := rfl

@[simp] theorem State.setValveFiring_now (s : State) (v : Valve) (r : ValveFiring) : (s.setValveFiring v r).now = s.now := rfl
@[simp] theorem State.setValveFiring_pru (s : State) (v : Valve) (r : ValveFiring) : (s.setValveFiring v r).pru = s.pru := rfl
@[simp] theorem State.setValveFiring_fac (s : State) (v : Valve) (r : ValveFiring) : (s.setValveFiring v r).fac = s.fac := rfl
@[simp] theorem State.setValveFiring_rgm (s : State) (v : Valve) (r : ValveFiring) : (s.setValveFiring v r).rgm = s.rgm := rfl
@[simp] theorem State.setValveFiring_exm (s : State) (v : Valve) (r : ValveFiring) : (s.setValveFiring v r).exm = s.exm := rfl
@[simp] theorem State.setValveFiring_lvm (s : State) (v : Valve) (r : ValveFiring) : (s.setValveFiring v r).lvm = s.lvm := rfl
@[simp] theorem State.setValveFiring_groups (s : State) (v : Valve) (r : ValveFiring) : (s.setValveFiring v r).groups = s.groups := rfl
@[simp] theorem State.setValveFiring_olp (s : State) (v : Valve) (r : ValveFiring) : (s.setValveFiring v r).olp = s.olp := rfl
@[simp] theorem State.setValveFiring_tbs (s : State) (v : Valve) (r : ValveFiring) : (s.setValveFiring v r).tbs = s.tbs := rfl
@[simp] theorem State.setValveFiring_pending (s : State) (v : Valve) (r : ValveFiring) : (s.setValveFiring v r).pending = s.pending := rfl
@[simp] theorem State.setValveFiring_fsc_valves (s : State) (v : Valve) (r : ValveFiring) :
    (s.setValveFiring v r).fsc.valves = setAt s.fsc.valves v r := rfl
@[simp] theorem State.setValveFiring_fsc_records (s : State) (v : Valve) (r : ValveFiring) :
    (s.setValveFiring v r).fsc.records = s.fsc.records := rfl

@[simp] theorem State.setRecords_now (s : State) (rs : List FireRecord) : (s.setRecords rs).now = s.now := rfl
@[simp] theorem State.setRecords_pru (s : State) (rs : List FireRecord) : (s.setRecords rs).pru = s.pru := rfl
@[simp] theorem State.setRecords_fac (s : State) (rs : List FireRecord) : (s.setRecords rs).fac = s.fac := rfl
@[simp] theorem State.setRecords_rgm (s : State) (rs : List FireRecord) : (s.setRecords rs).rgm = s.rgm := rfl
@[simp] theorem State.setRecords_exm (s : State) (rs : List FireRecord) : (s.setRecords rs).exm = s.exm := rfl
@[simp] theorem State.setRecords_lvm (s : State) (rs : List FireRecord) : (s.setRecords rs).lvm = s.lvm := rfl
@[simp] theorem State.setRecords_groups (s : State) (rs : List FireRecord) : (s.setRecords rs).groups = s.groups := rfl
@[simp] theorem State.setRecords_olp (s : State) (rs : List FireRecord) : (s.setRecords rs).olp = s.olp := rfl
@[simp] theorem State.setRecords_tbs (s : State) (rs : List FireRecord) : (s.setRecords rs).tbs = s.tbs := rfl
@[simp] theorem State.setRecords_pending (s : State) (rs : List FireRecord) : (s.setRecords rs).pending = s.pending := rfl
@[simp] theorem State.setRecords_fsc_records (s : State) (rs : List FireRecord) :
    (s.setRecords rs).fsc.records = rs := rfl
@[simp] theorem State.setRecords_fsc_waiting (s : State) (rs : List FireRecord) :
    (s.setRecords rs).fsc.waiting = s.fsc.waiting := rfl
@[simp] theorem State.setRecords_fsc_valves (s : State) (rs : List FireRecord) :
    (s.setRecords rs).fsc.valves = s.fsc.valves := rfl

@[simp] theorem State.setPending_now (s : State) (v : Valve) (x : Option PendingExtinction) : (s.setPending v x).now = s.now := rfl
@[simp] theorem State.setPending_pru (s : State) (v : Valve) (x : Option PendingExtinction) : (s.setPending v x).pru = s.pru := rfl
@[simp] theorem State.setPending_fac (s : State) (v : Valve) (x : Option PendingExtinction) : (s.setPending v x).fac = s.fac := rfl
@[simp] theorem State.setPending_fsc (s : State) (v : Valve) (x : Option PendingExtinction) : (s.setPending v x).fsc = s.fsc := rfl
@[simp] theorem State.setPending_rgm (s : State) (v : Valve) (x : Option PendingExtinction) : (s.setPending v x).rgm = s.rgm := rfl
@[simp] theorem State.setPending_lvm (s : State) (v : Valve) (x : Option PendingExtinction) : (s.setPending v x).lvm = s.lvm := rfl
@[simp] theorem State.setPending_groups (s : State) (v : Valve) (x : Option PendingExtinction) : (s.setPending v x).groups = s.groups := rfl
@[simp] theorem State.setPending_olp (s : State) (v : Valve) (x : Option PendingExtinction) : (s.setPending v x).olp = s.olp := rfl
@[simp] theorem State.setPending_tbs (s : State) (v : Valve) (x : Option PendingExtinction) : (s.setPending v x).tbs = s.tbs := rfl
@[simp] theorem State.setPending_pending (s : State) (v : Valve) (x : Option PendingExtinction) : (s.setPending v x).pending = s.pending := rfl
@[simp] theorem State.setPending_exm_pendings (s : State) (v : Valve) (x : Option PendingExtinction) :
    (s.setPending v x).exm.pendings = setAt s.exm.pendings v x := rfl
@[simp] theorem State.setPending_exm_correction (s : State) (v : Valve) (x : Option PendingExtinction) :
    (s.setPending v x).exm.correction = s.exm.correction := rfl
@[simp] theorem State.setPending_exm_recovery (s : State) (v : Valve) (x : Option PendingExtinction) :
    (s.setPending v x).exm.recovery = s.exm.recovery := rfl
@[simp] theorem State.setPending_exm_repeats (s : State) (v : Valve) (x : Option PendingExtinction) :
    (s.setPending v x).exm.repeats = s.exm.repeats := rfl

@[simp] theorem State.setPlanning_now (s : State) (v : Valve) (x : Option Planning) : (s.setPlanning v x).now = s.now := rfl
@[simp] theorem State.setPlanning_pru (s : State) (v : Valve) (x : Option Planning) : (s.setPlanning v x).pru = s.pru := rfl
@[simp] theorem State.setPlanning_fsc (s : State) (v : Valve) (x : Option Planning) : (s.setPlanning v x).fsc = s.fsc := rfl
@[simp] theorem State.setPlanning_rgm (s : State) (v : Valve) (x : Option Planning) : (s.setPlanning v x).rgm = s.rgm := rfl
@[simp] theorem State.setPlanning_exm (s : State) (v : Valve) (x : Option Planning) : (s.setPlanning v x).exm = s.exm := rfl
@[simp] theorem State.setPlanning_lvm (s : State) (v : Valve) (x : Option Planning) : (s.setPlanning v x).lvm = s.lvm := rfl
@[simp] theorem State.setPlanning_groups (s : State) (v : Valve) (x : Option Planning) : (s.setPlanning v x).groups = s.groups := rfl
@[simp] theorem State.setPlanning_olp (s : State) (v : Valve) (x : Option Planning) : (s.setPlanning v x).olp = s.olp := rfl
@[simp] theorem State.setPlanning_tbs (s : State) (v : Valve) (x : Option Planning) : (s.setPlanning v x).tbs = s.tbs := rfl
@[simp] theorem State.setPlanning_pending (s : State) (v : Valve) (x : Option Planning) : (s.setPlanning v x).pending = s.pending := rfl
@[simp] theorem State.setPlanning_fac_plannings (s : State) (v : Valve) (x : Option Planning) :
    (s.setPlanning v x).fac.plannings = setAt s.fac.plannings v x := rfl

@[simp] theorem State.setWaiting_now (s : State) (v : Valve) (b : Bool) : (s.setWaiting v b).now = s.now := rfl
@[simp] theorem State.setWaiting_pru (s : State) (v : Valve) (b : Bool) : (s.setWaiting v b).pru = s.pru := rfl
@[simp] theorem State.setWaiting_fac (s : State) (v : Valve) (b : Bool) : (s.setWaiting v b).fac = s.fac := rfl
@[simp] theorem State.setWaiting_rgm (s : State) (v : Valve) (b : Bool) : (s.setWaiting v b).rgm = s.rgm := rfl
@[simp] theorem State.setWaiting_exm (s : State) (v : Valve) (b : Bool) : (s.setWaiting v b).exm = s.exm := rfl
@[simp] theorem State.setWaiting_lvm (s : State) (v : Valve) (b : Bool) : (s.setWaiting v b).lvm = s.lvm := rfl
@[simp] theorem State.setWaiting_groups (s : State) (v : Valve) (b : Bool) : (s.setWaiting v b).groups = s.groups := rfl
@[simp] theorem State.setWaiting_olp (s : State) (v : Valve) (b : Bool) : (s.setWaiting v b).olp = s.olp := rfl
@[simp] theorem State.setWaiting_tbs (s : State) (v : Valve) (b : Bool) : (s.setWaiting v b).tbs = s.tbs := rfl
@[simp] theorem State.setWaiting_pending (s : State) (v : Valve) (b : Bool) : (s.setWaiting v b).pending = s.pending := rfl
@[simp] theorem State.setWaiting_fsc_waiting (s : State) (v : Valve) (b : Bool) :
    (s.setWaiting v b).fsc.waiting = setAt s.fsc.waiting v b := rfl
@[simp] theorem State.setWaiting_fsc_records (s : State) (v : Valve) (b : Bool) :
    (s.setWaiting v b).fsc.records = s.fsc.records := rfl

@[simp] theorem State.setPru_now (s : State) (x : Pru) : (s.setPru x).now = s.now := rfl
@[simp] theorem State.setPru_fac (s : State) (x : Pru) : (s.setPru x).fac = s.fac := rfl
@[simp] theorem State.setPru_fsc (s : State) (x : Pru) : (s.setPru x).fsc = s.fsc := rfl
@[simp] theorem State.setPru_rgm (s : State) (x : Pru) : (s.setPru x).rgm = s.rgm := rfl
@[simp] theorem State.setPru_exm (s : State) (x : Pru) : (s.setPru x).exm = s.exm := rfl
@[simp] theorem State.setPru_lvm (s : State) (x : Pru) : (s.setPru x).lvm = s.lvm := rfl
@[simp] theorem State.setPru_groups (s : State) (x : Pru) : (s.setPru x).groups = s.groups := rfl
@[simp] theorem State.setPru_olp (s : State) (x : Pru) : (s.setPru x).olp = s.olp := rfl
@[simp] theorem State.setPru_tbs (s : State) (x : Pru) : (s.setPru x).tbs = s.tbs := rfl
@[simp] theorem State.setPru_pending (s : State) (x : Pru) : (s.setPru x).pending = s.pending := rfl
@[simp] theorem State.setPru_pru (s : State) (x : Pru) :
    (s.setPru x).pru = x := rfl

@[simp] theorem State.setFac_now (s : State) (x : Fac) : (s.setFac x).now = s.now := rfl
@[simp] theorem State.setFac_pru (s : State) (x : Fac) : (s.setFac x).pru = s.pru := rfl
@[simp] theorem State.setFac_fsc (s : State) (x : Fac) : (s.setFac x).fsc = s.fsc := rfl
@[simp] theorem State.setFac_rgm (s : State) (x : Fac) : (s.setFac x).rgm = s.rgm := rfl
@[simp] theorem State.setFac_exm (s : State) (x : Fac) : (s.setFac x).exm = s.exm := rfl
@[simp] theorem State.setFac_lvm (s : State) (x : Fac) : (s.setFac x).lvm = s.lvm := rfl
@[simp] theorem State.setFac_groups (s : State) (x : Fac) : (s.setFac x).groups = s.groups := rfl
@[simp] theorem State.setFac_olp (s : State) (x : Fac) : (s.setFac x).olp = s.olp := rfl
@[simp] theorem State.setFac_tbs (s : State) (x : Fac) : (s.setFac x).tbs = s.tbs := rfl
@[simp] theorem State.setFac_pending (s : State) (x : Fac) : (s.setFac x).pending = s.pending := rfl
@[simp] theorem State.setFac_fac (s : State) (x : Fac) :
    (s.setFac x).fac = x := rfl

@[simp] theorem State.setFsc_now (s : State) (x : Fsc) : (s.setFsc x).now = s.now := rfl
@[simp] theorem State.setFsc_pru (s : State) (x : Fsc) : (s.setFsc x).pru = s.pru := rfl
@[simp] theorem State.setFsc_fac (s : State) (x : Fsc) : (s.setFsc x).fac = s.fac := rfl
@[simp] theorem State.setFsc_rgm (s : State) (x : Fsc) : (s.setFsc x).rgm = s.rgm := rfl
@[simp] theorem State.setFsc_exm (s : State) (x : Fsc) : (s.setFsc x).exm = s.exm := rfl
@[simp] theorem State.setFsc_lvm (s : State) (x : Fsc) : (s.setFsc x).lvm = s.lvm := rfl
@[simp] theorem State.setFsc_groups (s : State) (x : Fsc) : (s.setFsc x).groups = s.groups := rfl
@[simp] theorem State.setFsc_olp (s : State) (x : Fsc) : (s.setFsc x).olp = s.olp := rfl
@[simp] theorem State.setFsc_tbs (s : State) (x : Fsc) : (s.setFsc x).tbs = s.tbs := rfl
@[simp] theorem State.setFsc_pending (s : State) (x : Fsc) : (s.setFsc x).pending = s.pending := rfl
@[simp] theorem State.setFsc_fsc (s : State) (x : Fsc) :
    (s.setFsc x).fsc = x := rfl

@[simp] theorem State.setRgm_now (s : State) (x : Rgm) : (s.setRgm x).now = s.now := rfl
@[simp] theorem State.setRgm_pru (s : State) (x : Rgm) : (s.setRgm x).pru = s.pru := rfl
@[simp] theorem State.setRgm_fac (s : State) (x : Rgm) : (s.setRgm x).fac = s.fac := rfl
@[simp] theorem State.setRgm_fsc (s : State) (x : Rgm) : (s.setRgm x).fsc = s.fsc := rfl
@[simp] theorem State.setRgm_exm (s : State) (x : Rgm) : (s.setRgm x).exm = s.exm := rfl
@[simp] theorem State.setRgm_lvm (s : State) (x : Rgm) : (s.setRgm x).lvm = s.lvm := rfl
@[simp] theorem State.setRgm_groups (s : State) (x : Rgm) : (s.setRgm x).groups = s.groups := rfl
@[simp] theorem State.setRgm_olp (s : State) (x : Rgm) : (s.setRgm x).olp = s.olp := rfl
@[simp] theorem State.setRgm_tbs (s : State) (x : Rgm) : (s.setRgm x).tbs = s.tbs := rfl
@[simp] theorem State.setRgm_pending (s : State) (x : Rgm) : (s.setRgm x).pending = s.pending := rfl
@[simp] theorem State.setRgm_rgm (s : State) (x : Rgm) :
    (s.setRgm x).rgm = x := rfl

@[simp] theorem State.setExm_now (s : State) (x : Exm) : (s.setExm x).now = s.now := rfl
@[simp] theorem State.setExm_pru (s : State) (x : Exm) : (s.setExm x).pru = s.pru := rfl
@[simp] theorem State.setExm_fac (s : State) (x : Exm) : (s.setExm x).fac = s.fac := rfl
@[simp] theorem State.setExm_fsc (s : State) (x : Exm) : (s.setExm x).fsc = s.fsc := rfl
@[simp] theorem State.setExm_rgm (s : State) (x : Exm) : (s.setExm x).rgm = s.rgm := rfl
@[simp] theorem State.setExm_lvm (s : State) (x : Exm) : (s.setExm x).lvm = s.lvm := rfl
@[simp] theorem State.setExm_groups (s : State) (x : Exm) : (s.setExm x).groups = s.groups := rfl
@[simp] theorem State.setExm_olp (s : State) (x : Exm) : (s.setExm x).olp = s.olp := rfl
@[simp] theorem State.setExm_tbs (s : State) (x : Exm) : (s.setExm x).tbs = s.tbs := rfl
@[simp] theorem State.setExm_pending (s : State) (x : Exm) : (s.setExm x).pending = s.pending := rfl
@[simp] theorem State.setExm_exm (s : State) (x : Exm) :
    (s.setExm x).exm = x := rfl

@[simp] theorem State.setLvm_now (s : State) (x : Lvm) : (s.setLvm x).now = s.now := rfl
@[simp] theorem State.setLvm_pru (s : State) (x : Lvm) : (s.setLvm x).pru = s.pru := rfl
@[simp] theorem State.setLvm_fac (s : State) (x : Lvm) : (s.setLvm x).fac = s.fac := rfl
@[simp] theorem State.setLvm_fsc (s : State) (x : Lvm) : (s.setLvm x).fsc = s.fsc := rfl
@[simp] theorem State.setLvm_rgm (s : State) (x : Lvm) : (s.setLvm x).rgm = s.rgm := rfl
@[simp] theorem State.setLvm_exm (s : State) (x : Lvm) : (s.setLvm x).exm = s.exm := rfl
@[simp] theorem State.setLvm_groups (s : State) (x : Lvm) : (s.setLvm x).groups = s.groups := rfl
@[simp] theorem State.setLvm_olp (s : State) (x : Lvm) : (s.setLvm x).olp = s.olp := rfl
@[simp] theorem State.setLvm_tbs (s : State) (x : Lvm) : (s.setLvm x).tbs = s.tbs := rfl
@[simp] theorem State.setLvm_pending (s : State) (x : Lvm) : (s.setLvm x).pending = s.pending := rfl
@[simp] theorem State.setLvm_lvm (s : State) (x : Lvm) :
    (s.setLvm x).lvm = x := rfl

@[simp] theorem State.setOlp_now (s : State) (x : Olp) : (s.setOlp x).now = s.now := rfl
@[simp] theorem State.setOlp_pru (s : State) (x : Olp) : (s.setOlp x).pru = s.pru := rfl
@[simp] theorem State.setOlp_fac (s : State) (x : Olp) : (s.setOlp x).fac = s.fac := rfl
@[simp] theorem State.setOlp_fsc (s : State) (x : Olp) : (s.setOlp x).fsc = s.fsc := rfl
@[simp] theorem State.setOlp_rgm (s : State) (x : Olp) : (s.setOlp x).rgm = s.rgm := rfl
@[simp] theorem State.setOlp_exm (s : State) (x : Olp) : (s.setOlp x).exm = s.exm := rfl
@[simp] theorem State.setOlp_lvm (s : State) (x : Olp) : (s.setOlp x).lvm = s.lvm := rfl
@[simp] theorem State.setOlp_groups (s : State) (x : Olp) : (s.setOlp x).groups = s.groups := rfl
@[simp] theorem State.setOlp_tbs (s : State) (x : Olp) : (s.setOlp x).tbs = s.tbs := rfl
@[simp] theorem State.setOlp_pending (s : State) (x : Olp) : (s.setOlp x).pending = s.pending := rfl
@[simp] theorem State.setOlp_olp (s : State) (x : Olp) :
    (s.setOlp x).olp = x := rfl

@[simp] theorem State.setTbs_now (s : State) (x : Tbs) : (s.setTbs x).now = s.now := rfl
@[simp] theorem State.setTbs_pru (s : State) (x : Tbs) : (s.setTbs x).pru = s.pru := rfl
@[simp] theorem State.setTbs_fac (s : State) (x : Tbs) : (s.setTbs x).fac = s.fac := rfl
@[simp] theorem State.setTbs_fsc (s : State) (x : Tbs) : (s.setTbs x).fsc = s.fsc := rfl
@[simp] theorem State.setTbs_rgm (s : State) (x : Tbs) : (s.setTbs x).rgm = s.rgm := rfl
@[simp] theorem State.setTbs_exm (s : State) (x : Tbs) : (s.setTbs x).exm = s.exm := rfl
@[simp] theorem State.setTbs_lvm (s : State) (x : Tbs) : (s.setTbs x).lvm = s.lvm := rfl
@[simp] theorem State.setTbs_groups (s : State) (x : Tbs) : (s.setTbs x).groups = s.groups := rfl
@[simp] theorem State.setTbs_olp (s : State) (x : Tbs) : (s.setTbs x).olp = s.olp := rfl
@[simp] theorem State.setTbs_pending (s : State) (x : Tbs) : (s.setTbs x).pending = s.pending := rfl
@[simp] theorem State.setTbs_tbs (s : State) (x : Tbs) :
    (s.setTbs x).tbs = x := rfl

@[simp] theorem State.setRuns_now (s : State) (fail overrun : Nat) : (s.setRuns fail overrun).now = s.now := rfl
@[simp] theorem State.setRuns_pru (s : State) (fail overrun : Nat) : (s.setRuns fail overrun).pru = s.pru := rfl
@[simp] theorem State.setRuns_fac (s : State) (fail overrun : Nat) : (s.setRuns fail overrun).fac = s.fac := rfl
@[simp] theorem State.setRuns_fsc (s : State) (fail overrun : Nat) : (s.setRuns fail overrun).fsc = s.fsc := rfl
@[simp] theorem State.setRuns_exm (s : State) (fail overrun : Nat) : (s.setRuns fail overrun).exm = s.exm := rfl
@[simp] theorem State.setRuns_lvm (s : State) (fail overrun : Nat) : (s.setRuns fail overrun).lvm = s.lvm := rfl
@[simp] theorem State.setRuns_groups (s : State) (fail overrun : Nat) : (s.setRuns fail overrun).groups = s.groups := rfl
@[simp] theorem State.setRuns_olp (s : State) (fail overrun : Nat) : (s.setRuns fail overrun).olp = s.olp := rfl
@[simp] theorem State.setRuns_tbs (s : State) (fail overrun : Nat) : (s.setRuns fail overrun).tbs = s.tbs := rfl
@[simp] theorem State.setRuns_pending (s : State) (fail overrun : Nat) : (s.setRuns fail overrun).pending = s.pending := rfl
@[simp] theorem State.setRuns_rgm_failRun (s : State) (fail overrun : Nat) :
    (s.setRuns fail overrun).rgm.failRun = fail := rfl
@[simp] theorem State.setRuns_rgm_overrunRun (s : State) (fail overrun : Nat) :
    (s.setRuns fail overrun).rgm.overrunRun = overrun := rfl
@[simp] theorem State.setRuns_rgm_link (s : State) (fail overrun : Nat) :
    (s.setRuns fail overrun).rgm.link = s.rgm.link := rfl
@[simp] theorem State.setRuns_rgm_stations (s : State) (fail overrun : Nat) :
    (s.setRuns fail overrun).rgm.stations = s.rgm.stations := rfl

@[simp] theorem State.setGroupState_now (s : State) (g : Group) (x : GroupState) : (s.setGroupState g x).now = s.now := rfl
@[simp] theorem State.setGroupState_pru (s : State) (g : Group) (x : GroupState) : (s.setGroupState g x).pru = s.pru := rfl
@[simp] theorem State.setGroupState_fac (s : State) (g : Group) (x : GroupState) : (s.setGroupState g x).fac = s.fac := rfl
@[simp] theorem State.setGroupState_fsc (s : State) (g : Group) (x : GroupState) : (s.setGroupState g x).fsc = s.fsc := rfl
@[simp] theorem State.setGroupState_rgm (s : State) (g : Group) (x : GroupState) : (s.setGroupState g x).rgm = s.rgm := rfl
@[simp] theorem State.setGroupState_exm (s : State) (g : Group) (x : GroupState) : (s.setGroupState g x).exm = s.exm := rfl
@[simp] theorem State.setGroupState_lvm (s : State) (g : Group) (x : GroupState) : (s.setGroupState g x).lvm = s.lvm := rfl
@[simp] theorem State.setGroupState_olp (s : State) (g : Group) (x : GroupState) : (s.setGroupState g x).olp = s.olp := rfl
@[simp] theorem State.setGroupState_tbs (s : State) (g : Group) (x : GroupState) : (s.setGroupState g x).tbs = s.tbs := rfl
@[simp] theorem State.setGroupState_pending (s : State) (g : Group) (x : GroupState) : (s.setGroupState g x).pending = s.pending := rfl

@[simp] theorem State.clearPairs_now (s : State) (g : Group) : (s.clearPairs g).now = s.now := rfl
@[simp] theorem State.clearPairs_pru (s : State) (g : Group) : (s.clearPairs g).pru = s.pru := rfl
@[simp] theorem State.clearPairs_fac (s : State) (g : Group) : (s.clearPairs g).fac = s.fac := rfl
@[simp] theorem State.clearPairs_fsc (s : State) (g : Group) : (s.clearPairs g).fsc = s.fsc := rfl
@[simp] theorem State.clearPairs_rgm (s : State) (g : Group) : (s.clearPairs g).rgm = s.rgm := rfl
@[simp] theorem State.clearPairs_exm (s : State) (g : Group) : (s.clearPairs g).exm = s.exm := rfl
@[simp] theorem State.clearPairs_lvm (s : State) (g : Group) : (s.clearPairs g).lvm = s.lvm := rfl
@[simp] theorem State.clearPairs_olp (s : State) (g : Group) : (s.clearPairs g).olp = s.olp := rfl
@[simp] theorem State.clearPairs_tbs (s : State) (g : Group) : (s.clearPairs g).tbs = s.tbs := rfl
@[simp] theorem State.clearPairs_pending (s : State) (g : Group) : (s.clearPairs g).pending = s.pending := rfl

@[simp] theorem State.setHoldTimer_now (s : State) (g : Group) (x : Option Time) : (s.setHoldTimer g x).now = s.now := rfl
@[simp] theorem State.setHoldTimer_pru (s : State) (g : Group) (x : Option Time) : (s.setHoldTimer g x).pru = s.pru := rfl
@[simp] theorem State.setHoldTimer_fac (s : State) (g : Group) (x : Option Time) : (s.setHoldTimer g x).fac = s.fac := rfl
@[simp] theorem State.setHoldTimer_fsc (s : State) (g : Group) (x : Option Time) : (s.setHoldTimer g x).fsc = s.fsc := rfl
@[simp] theorem State.setHoldTimer_rgm (s : State) (g : Group) (x : Option Time) : (s.setHoldTimer g x).rgm = s.rgm := rfl
@[simp] theorem State.setHoldTimer_exm (s : State) (g : Group) (x : Option Time) : (s.setHoldTimer g x).exm = s.exm := rfl
@[simp] theorem State.setHoldTimer_lvm (s : State) (g : Group) (x : Option Time) : (s.setHoldTimer g x).lvm = s.lvm := rfl
@[simp] theorem State.setHoldTimer_olp (s : State) (g : Group) (x : Option Time) : (s.setHoldTimer g x).olp = s.olp := rfl
@[simp] theorem State.setHoldTimer_tbs (s : State) (g : Group) (x : Option Time) : (s.setHoldTimer g x).tbs = s.tbs := rfl
@[simp] theorem State.setHoldTimer_pending (s : State) (g : Group) (x : Option Time) : (s.setHoldTimer g x).pending = s.pending := rfl

@[simp] theorem State.choosePairs_now (s : State) (g : Group) : (s.choosePairs g).now = s.now := rfl
@[simp] theorem State.choosePairs_pru (s : State) (g : Group) : (s.choosePairs g).pru = s.pru := rfl
@[simp] theorem State.choosePairs_fac (s : State) (g : Group) : (s.choosePairs g).fac = s.fac := rfl
@[simp] theorem State.choosePairs_fsc (s : State) (g : Group) : (s.choosePairs g).fsc = s.fsc := rfl
@[simp] theorem State.choosePairs_rgm (s : State) (g : Group) : (s.choosePairs g).rgm = s.rgm := rfl
@[simp] theorem State.choosePairs_exm (s : State) (g : Group) : (s.choosePairs g).exm = s.exm := rfl
@[simp] theorem State.choosePairs_lvm (s : State) (g : Group) : (s.choosePairs g).lvm = s.lvm := rfl
@[simp] theorem State.choosePairs_olp (s : State) (g : Group) : (s.choosePairs g).olp = s.olp := rfl
@[simp] theorem State.choosePairs_tbs (s : State) (g : Group) : (s.choosePairs g).tbs = s.tbs := rfl
@[simp] theorem State.choosePairs_pending (s : State) (g : Group) : (s.choosePairs g).pending = s.pending := rfl

@[simp] theorem State.addRecord_now (s : State) (r : FireRecord) : (s.addRecord r).now = s.now := rfl
@[simp] theorem State.addRecord_pru (s : State) (r : FireRecord) : (s.addRecord r).pru = s.pru := rfl
@[simp] theorem State.addRecord_fac (s : State) (r : FireRecord) : (s.addRecord r).fac = s.fac := rfl
@[simp] theorem State.addRecord_rgm (s : State) (r : FireRecord) : (s.addRecord r).rgm = s.rgm := rfl
@[simp] theorem State.addRecord_exm (s : State) (r : FireRecord) : (s.addRecord r).exm = s.exm := rfl
@[simp] theorem State.addRecord_lvm (s : State) (r : FireRecord) : (s.addRecord r).lvm = s.lvm := rfl
@[simp] theorem State.addRecord_groups (s : State) (r : FireRecord) : (s.addRecord r).groups = s.groups := rfl
@[simp] theorem State.addRecord_olp (s : State) (r : FireRecord) : (s.addRecord r).olp = s.olp := rfl
@[simp] theorem State.addRecord_tbs (s : State) (r : FireRecord) : (s.addRecord r).tbs = s.tbs := rfl
@[simp] theorem State.addRecord_pending (s : State) (r : FireRecord) : (s.addRecord r).pending = s.pending := rfl
@[simp] theorem State.addRecord_fsc_records (s : State) (r : FireRecord) :
    (s.addRecord r).fsc.records = insertBy schedBefore r s.fsc.records := rfl

@[simp] theorem State.dropRecord_now (s : State) (r : FireRecord) : (s.dropRecord r).now = s.now := rfl
@[simp] theorem State.dropRecord_pru (s : State) (r : FireRecord) : (s.dropRecord r).pru = s.pru := rfl
@[simp] theorem State.dropRecord_fac (s : State) (r : FireRecord) : (s.dropRecord r).fac = s.fac := rfl
@[simp] theorem State.dropRecord_rgm (s : State) (r : FireRecord) : (s.dropRecord r).rgm = s.rgm := rfl
@[simp] theorem State.dropRecord_exm (s : State) (r : FireRecord) : (s.dropRecord r).exm = s.exm := rfl
@[simp] theorem State.dropRecord_lvm (s : State) (r : FireRecord) : (s.dropRecord r).lvm = s.lvm := rfl
@[simp] theorem State.dropRecord_groups (s : State) (r : FireRecord) : (s.dropRecord r).groups = s.groups := rfl
@[simp] theorem State.dropRecord_olp (s : State) (r : FireRecord) : (s.dropRecord r).olp = s.olp := rfl
@[simp] theorem State.dropRecord_tbs (s : State) (r : FireRecord) : (s.dropRecord r).tbs = s.tbs := rfl
@[simp] theorem State.dropRecord_pending (s : State) (r : FireRecord) : (s.dropRecord r).pending = s.pending := rfl
@[simp] theorem State.dropRecord_fsc_records (s : State) (r : FireRecord) :
    (s.dropRecord r).fsc.records = s.fsc.records.erase r := rfl

@[simp] theorem State.putRecord_now (s : State) (r r' : FireRecord) : (s.putRecord r r').now = s.now := rfl
@[simp] theorem State.putRecord_pru (s : State) (r r' : FireRecord) : (s.putRecord r r').pru = s.pru := rfl
@[simp] theorem State.putRecord_fac (s : State) (r r' : FireRecord) : (s.putRecord r r').fac = s.fac := rfl
@[simp] theorem State.putRecord_rgm (s : State) (r r' : FireRecord) : (s.putRecord r r').rgm = s.rgm := rfl
@[simp] theorem State.putRecord_exm (s : State) (r r' : FireRecord) : (s.putRecord r r').exm = s.exm := rfl
@[simp] theorem State.putRecord_lvm (s : State) (r r' : FireRecord) : (s.putRecord r r').lvm = s.lvm := rfl
@[simp] theorem State.putRecord_groups (s : State) (r r' : FireRecord) : (s.putRecord r r').groups = s.groups := rfl
@[simp] theorem State.putRecord_olp (s : State) (r r' : FireRecord) : (s.putRecord r r').olp = s.olp := rfl
@[simp] theorem State.putRecord_tbs (s : State) (r r' : FireRecord) : (s.putRecord r r').tbs = s.tbs := rfl
@[simp] theorem State.putRecord_pending (s : State) (r r' : FireRecord) : (s.putRecord r r').pending = s.pending := rfl
@[simp] theorem State.putRecord_fsc_records (s : State) (r r' : FireRecord) :
    (s.putRecord r r').fsc.records = replaceFirst r r' s.fsc.records := rfl

@[simp] theorem State.moveRecord_now (s : State) (r r' : FireRecord) : (s.moveRecord r r').now = s.now := rfl
@[simp] theorem State.moveRecord_pru (s : State) (r r' : FireRecord) : (s.moveRecord r r').pru = s.pru := rfl
@[simp] theorem State.moveRecord_fac (s : State) (r r' : FireRecord) : (s.moveRecord r r').fac = s.fac := rfl
@[simp] theorem State.moveRecord_rgm (s : State) (r r' : FireRecord) : (s.moveRecord r r').rgm = s.rgm := rfl
@[simp] theorem State.moveRecord_exm (s : State) (r r' : FireRecord) : (s.moveRecord r r').exm = s.exm := rfl
@[simp] theorem State.moveRecord_lvm (s : State) (r r' : FireRecord) : (s.moveRecord r r').lvm = s.lvm := rfl
@[simp] theorem State.moveRecord_groups (s : State) (r r' : FireRecord) : (s.moveRecord r r').groups = s.groups := rfl
@[simp] theorem State.moveRecord_olp (s : State) (r r' : FireRecord) : (s.moveRecord r r').olp = s.olp := rfl
@[simp] theorem State.moveRecord_tbs (s : State) (r r' : FireRecord) : (s.moveRecord r r').tbs = s.tbs := rfl
@[simp] theorem State.moveRecord_pending (s : State) (r r' : FireRecord) : (s.moveRecord r r').pending = s.pending := rfl
@[simp] theorem State.moveRecord_fsc_records (s : State) (r r' : FireRecord) :
    (s.moveRecord r r').fsc.records = insertBy schedBefore r' (s.fsc.records.erase r) := rfl

@[simp] theorem State.removeItem_now (s : State) (p : RingPos) (k : ItemKind) : (s.removeItem p k).now = s.now := rfl
@[simp] theorem State.removeItem_pru (s : State) (p : RingPos) (k : ItemKind) : (s.removeItem p k).pru = s.pru := rfl
@[simp] theorem State.removeItem_fac (s : State) (p : RingPos) (k : ItemKind) : (s.removeItem p k).fac = s.fac := rfl
@[simp] theorem State.removeItem_fsc (s : State) (p : RingPos) (k : ItemKind) : (s.removeItem p k).fsc = s.fsc := rfl
@[simp] theorem State.removeItem_exm (s : State) (p : RingPos) (k : ItemKind) : (s.removeItem p k).exm = s.exm := rfl
@[simp] theorem State.removeItem_lvm (s : State) (p : RingPos) (k : ItemKind) : (s.removeItem p k).lvm = s.lvm := rfl
@[simp] theorem State.removeItem_groups (s : State) (p : RingPos) (k : ItemKind) : (s.removeItem p k).groups = s.groups := rfl
@[simp] theorem State.removeItem_olp (s : State) (p : RingPos) (k : ItemKind) : (s.removeItem p k).olp = s.olp := rfl
@[simp] theorem State.removeItem_tbs (s : State) (p : RingPos) (k : ItemKind) : (s.removeItem p k).tbs = s.tbs := rfl
@[simp] theorem State.removeItem_pending (s : State) (p : RingPos) (k : ItemKind) : (s.removeItem p k).pending = s.pending := rfl
@[simp] theorem State.removeItem_rgm_stations (s : State) (p : RingPos) (k : ItemKind) :
    (s.removeItem p k).rgm.stations = s.rgm.stations := rfl
@[simp] theorem State.removeItem_rgm_link (s : State) (p : RingPos) (k : ItemKind) :
    (s.removeItem p k).rgm.link = s.rgm.link := rfl

@[simp] theorem State.mapCycle_now (s : State) (f : RingCycle → RingCycle) : (s.mapCycle f).now = s.now := rfl
@[simp] theorem State.mapCycle_pru (s : State) (f : RingCycle → RingCycle) : (s.mapCycle f).pru = s.pru := rfl
@[simp] theorem State.mapCycle_fac (s : State) (f : RingCycle → RingCycle) : (s.mapCycle f).fac = s.fac := rfl
@[simp] theorem State.mapCycle_fsc (s : State) (f : RingCycle → RingCycle) : (s.mapCycle f).fsc = s.fsc := rfl
@[simp] theorem State.mapCycle_exm (s : State) (f : RingCycle → RingCycle) : (s.mapCycle f).exm = s.exm := rfl
@[simp] theorem State.mapCycle_lvm (s : State) (f : RingCycle → RingCycle) : (s.mapCycle f).lvm = s.lvm := rfl
@[simp] theorem State.mapCycle_groups (s : State) (f : RingCycle → RingCycle) : (s.mapCycle f).groups = s.groups := rfl
@[simp] theorem State.mapCycle_olp (s : State) (f : RingCycle → RingCycle) : (s.mapCycle f).olp = s.olp := rfl
@[simp] theorem State.mapCycle_tbs (s : State) (f : RingCycle → RingCycle) : (s.mapCycle f).tbs = s.tbs := rfl
@[simp] theorem State.mapCycle_pending (s : State) (f : RingCycle → RingCycle) : (s.mapCycle f).pending = s.pending := rfl
@[simp] theorem State.mapCycle_rgm_cycle (s : State) (f : RingCycle → RingCycle) :
    (s.mapCycle f).rgm.cycle = s.rgm.cycle.map f := rfl
@[simp] theorem State.mapCycle_rgm_stations (s : State) (f : RingCycle → RingCycle) :
    (s.mapCycle f).rgm.stations = s.rgm.stations := rfl

@[simp] theorem State.countGlitch_now (s : State) : (s.countGlitch).now = s.now := rfl
@[simp] theorem State.countGlitch_fac (s : State) : (s.countGlitch).fac = s.fac := rfl
@[simp] theorem State.countGlitch_fsc (s : State) : (s.countGlitch).fsc = s.fsc := rfl
@[simp] theorem State.countGlitch_rgm (s : State) : (s.countGlitch).rgm = s.rgm := rfl
@[simp] theorem State.countGlitch_exm (s : State) : (s.countGlitch).exm = s.exm := rfl
@[simp] theorem State.countGlitch_lvm (s : State) : (s.countGlitch).lvm = s.lvm := rfl
@[simp] theorem State.countGlitch_groups (s : State) : (s.countGlitch).groups = s.groups := rfl
@[simp] theorem State.countGlitch_olp (s : State) : (s.countGlitch).olp = s.olp := rfl
@[simp] theorem State.countGlitch_tbs (s : State) : (s.countGlitch).tbs = s.tbs := rfl
@[simp] theorem State.countGlitch_pending (s : State) : (s.countGlitch).pending = s.pending := rfl
@[simp] theorem State.countGlitch_pru_glitch (s : State) :
    (s.countGlitch).pru.glitch = satInc s.pru.glitch := rfl

@[simp] theorem State.countScheduleConflict_now (s : State) : (s.countScheduleConflict).now = s.now := rfl
@[simp] theorem State.countScheduleConflict_pru (s : State) : (s.countScheduleConflict).pru = s.pru := rfl
@[simp] theorem State.countScheduleConflict_fsc (s : State) : (s.countScheduleConflict).fsc = s.fsc := rfl
@[simp] theorem State.countScheduleConflict_rgm (s : State) : (s.countScheduleConflict).rgm = s.rgm := rfl
@[simp] theorem State.countScheduleConflict_exm (s : State) : (s.countScheduleConflict).exm = s.exm := rfl
@[simp] theorem State.countScheduleConflict_lvm (s : State) : (s.countScheduleConflict).lvm = s.lvm := rfl
@[simp] theorem State.countScheduleConflict_groups (s : State) : (s.countScheduleConflict).groups = s.groups := rfl
@[simp] theorem State.countScheduleConflict_olp (s : State) : (s.countScheduleConflict).olp = s.olp := rfl
@[simp] theorem State.countScheduleConflict_tbs (s : State) : (s.countScheduleConflict).tbs = s.tbs := rfl
@[simp] theorem State.countScheduleConflict_pending (s : State) : (s.countScheduleConflict).pending = s.pending := rfl
@[simp] theorem State.countScheduleConflict_fac_scheduleConflict (s : State) :
    (s.countScheduleConflict).fac.scheduleConflict = satInc s.fac.scheduleConflict := rfl

@[simp] theorem State.countRevisionLate_now (s : State) : (s.countRevisionLate).now = s.now := rfl
@[simp] theorem State.countRevisionLate_pru (s : State) : (s.countRevisionLate).pru = s.pru := rfl
@[simp] theorem State.countRevisionLate_fsc (s : State) : (s.countRevisionLate).fsc = s.fsc := rfl
@[simp] theorem State.countRevisionLate_rgm (s : State) : (s.countRevisionLate).rgm = s.rgm := rfl
@[simp] theorem State.countRevisionLate_exm (s : State) : (s.countRevisionLate).exm = s.exm := rfl
@[simp] theorem State.countRevisionLate_lvm (s : State) : (s.countRevisionLate).lvm = s.lvm := rfl
@[simp] theorem State.countRevisionLate_groups (s : State) : (s.countRevisionLate).groups = s.groups := rfl
@[simp] theorem State.countRevisionLate_olp (s : State) : (s.countRevisionLate).olp = s.olp := rfl
@[simp] theorem State.countRevisionLate_tbs (s : State) : (s.countRevisionLate).tbs = s.tbs := rfl
@[simp] theorem State.countRevisionLate_pending (s : State) : (s.countRevisionLate).pending = s.pending := rfl
@[simp] theorem State.countRevisionLate_fac_revisionLate (s : State) :
    (s.countRevisionLate).fac.revisionLate = satInc s.fac.revisionLate := rfl

@[simp] theorem State.countFireLate_now (s : State) : (s.countFireLate).now = s.now := rfl
@[simp] theorem State.countFireLate_pru (s : State) : (s.countFireLate).pru = s.pru := rfl
@[simp] theorem State.countFireLate_fac (s : State) : (s.countFireLate).fac = s.fac := rfl
@[simp] theorem State.countFireLate_rgm (s : State) : (s.countFireLate).rgm = s.rgm := rfl
@[simp] theorem State.countFireLate_exm (s : State) : (s.countFireLate).exm = s.exm := rfl
@[simp] theorem State.countFireLate_lvm (s : State) : (s.countFireLate).lvm = s.lvm := rfl
@[simp] theorem State.countFireLate_groups (s : State) : (s.countFireLate).groups = s.groups := rfl
@[simp] theorem State.countFireLate_olp (s : State) : (s.countFireLate).olp = s.olp := rfl
@[simp] theorem State.countFireLate_tbs (s : State) : (s.countFireLate).tbs = s.tbs := rfl
@[simp] theorem State.countFireLate_pending (s : State) : (s.countFireLate).pending = s.pending := rfl
@[simp] theorem State.countFireLate_fsc_fireLate (s : State) :
    (s.countFireLate).fsc.fireLate = satInc s.fsc.fireLate := rfl
@[simp] theorem State.countFireLate_fsc_records (s : State) :
    (s.countFireLate).fsc.records = s.fsc.records := rfl

@[simp] theorem State.countFireMissed_now (s : State) : (s.countFireMissed).now = s.now := rfl
@[simp] theorem State.countFireMissed_pru (s : State) : (s.countFireMissed).pru = s.pru := rfl
@[simp] theorem State.countFireMissed_fac (s : State) : (s.countFireMissed).fac = s.fac := rfl
@[simp] theorem State.countFireMissed_rgm (s : State) : (s.countFireMissed).rgm = s.rgm := rfl
@[simp] theorem State.countFireMissed_exm (s : State) : (s.countFireMissed).exm = s.exm := rfl
@[simp] theorem State.countFireMissed_lvm (s : State) : (s.countFireMissed).lvm = s.lvm := rfl
@[simp] theorem State.countFireMissed_groups (s : State) : (s.countFireMissed).groups = s.groups := rfl
@[simp] theorem State.countFireMissed_olp (s : State) : (s.countFireMissed).olp = s.olp := rfl
@[simp] theorem State.countFireMissed_tbs (s : State) : (s.countFireMissed).tbs = s.tbs := rfl
@[simp] theorem State.countFireMissed_pending (s : State) : (s.countFireMissed).pending = s.pending := rfl
@[simp] theorem State.countFireMissed_fsc_fireMissed (s : State) :
    (s.countFireMissed).fsc.fireMissed = satInc s.fsc.fireMissed := rfl
@[simp] theorem State.countFireMissed_fsc_records (s : State) :
    (s.countFireMissed).fsc.records = s.fsc.records := rfl

@[simp] theorem State.countTimingDeviation_now (s : State) : (s.countTimingDeviation).now = s.now := rfl
@[simp] theorem State.countTimingDeviation_pru (s : State) : (s.countTimingDeviation).pru = s.pru := rfl
@[simp] theorem State.countTimingDeviation_fac (s : State) : (s.countTimingDeviation).fac = s.fac := rfl
@[simp] theorem State.countTimingDeviation_rgm (s : State) : (s.countTimingDeviation).rgm = s.rgm := rfl
@[simp] theorem State.countTimingDeviation_exm (s : State) : (s.countTimingDeviation).exm = s.exm := rfl
@[simp] theorem State.countTimingDeviation_lvm (s : State) : (s.countTimingDeviation).lvm = s.lvm := rfl
@[simp] theorem State.countTimingDeviation_groups (s : State) : (s.countTimingDeviation).groups = s.groups := rfl
@[simp] theorem State.countTimingDeviation_olp (s : State) : (s.countTimingDeviation).olp = s.olp := rfl
@[simp] theorem State.countTimingDeviation_tbs (s : State) : (s.countTimingDeviation).tbs = s.tbs := rfl
@[simp] theorem State.countTimingDeviation_pending (s : State) : (s.countTimingDeviation).pending = s.pending := rfl
@[simp] theorem State.countTimingDeviation_fsc_timingDeviation (s : State) :
    (s.countTimingDeviation).fsc.timingDeviation = satInc s.fsc.timingDeviation := rfl
@[simp] theorem State.countTimingDeviation_fsc_records (s : State) :
    (s.countTimingDeviation).fsc.records = s.fsc.records := rfl

@[simp] theorem State.countUnconfirmed_now (s : State) : (s.countUnconfirmed).now = s.now := rfl
@[simp] theorem State.countUnconfirmed_pru (s : State) : (s.countUnconfirmed).pru = s.pru := rfl
@[simp] theorem State.countUnconfirmed_fac (s : State) : (s.countUnconfirmed).fac = s.fac := rfl
@[simp] theorem State.countUnconfirmed_rgm (s : State) : (s.countUnconfirmed).rgm = s.rgm := rfl
@[simp] theorem State.countUnconfirmed_exm (s : State) : (s.countUnconfirmed).exm = s.exm := rfl
@[simp] theorem State.countUnconfirmed_lvm (s : State) : (s.countUnconfirmed).lvm = s.lvm := rfl
@[simp] theorem State.countUnconfirmed_groups (s : State) : (s.countUnconfirmed).groups = s.groups := rfl
@[simp] theorem State.countUnconfirmed_olp (s : State) : (s.countUnconfirmed).olp = s.olp := rfl
@[simp] theorem State.countUnconfirmed_tbs (s : State) : (s.countUnconfirmed).tbs = s.tbs := rfl
@[simp] theorem State.countUnconfirmed_pending (s : State) : (s.countUnconfirmed).pending = s.pending := rfl
@[simp] theorem State.countUnconfirmed_fsc_unconfirmed (s : State) :
    (s.countUnconfirmed).fsc.unconfirmed = satInc s.fsc.unconfirmed := rfl
@[simp] theorem State.countUnconfirmed_fsc_records (s : State) :
    (s.countUnconfirmed).fsc.records = s.fsc.records := rfl

@[simp] theorem State.countReceiveError_now (s : State) : (s.countReceiveError).now = s.now := rfl
@[simp] theorem State.countReceiveError_pru (s : State) : (s.countReceiveError).pru = s.pru := rfl
@[simp] theorem State.countReceiveError_fac (s : State) : (s.countReceiveError).fac = s.fac := rfl
@[simp] theorem State.countReceiveError_fsc (s : State) : (s.countReceiveError).fsc = s.fsc := rfl
@[simp] theorem State.countReceiveError_exm (s : State) : (s.countReceiveError).exm = s.exm := rfl
@[simp] theorem State.countReceiveError_lvm (s : State) : (s.countReceiveError).lvm = s.lvm := rfl
@[simp] theorem State.countReceiveError_groups (s : State) : (s.countReceiveError).groups = s.groups := rfl
@[simp] theorem State.countReceiveError_olp (s : State) : (s.countReceiveError).olp = s.olp := rfl
@[simp] theorem State.countReceiveError_tbs (s : State) : (s.countReceiveError).tbs = s.tbs := rfl
@[simp] theorem State.countReceiveError_pending (s : State) : (s.countReceiveError).pending = s.pending := rfl
@[simp] theorem State.countReceiveError_rgm_receiveErrors (s : State) :
    (s.countReceiveError).rgm.receiveErrors = satInc s.rgm.receiveErrors := rfl

@[simp] theorem State.countRetry_now (s : State) : (s.countRetry).now = s.now := rfl
@[simp] theorem State.countRetry_pru (s : State) : (s.countRetry).pru = s.pru := rfl
@[simp] theorem State.countRetry_fac (s : State) : (s.countRetry).fac = s.fac := rfl
@[simp] theorem State.countRetry_fsc (s : State) : (s.countRetry).fsc = s.fsc := rfl
@[simp] theorem State.countRetry_exm (s : State) : (s.countRetry).exm = s.exm := rfl
@[simp] theorem State.countRetry_lvm (s : State) : (s.countRetry).lvm = s.lvm := rfl
@[simp] theorem State.countRetry_groups (s : State) : (s.countRetry).groups = s.groups := rfl
@[simp] theorem State.countRetry_olp (s : State) : (s.countRetry).olp = s.olp := rfl
@[simp] theorem State.countRetry_tbs (s : State) : (s.countRetry).tbs = s.tbs := rfl
@[simp] theorem State.countRetry_pending (s : State) : (s.countRetry).pending = s.pending := rfl
@[simp] theorem State.countRetry_rgm_retries (s : State) :
    (s.countRetry).rgm.retries = satInc s.rgm.retries := rfl

@[simp] theorem State.countDiscard_now (s : State) : (s.countDiscard).now = s.now := rfl
@[simp] theorem State.countDiscard_pru (s : State) : (s.countDiscard).pru = s.pru := rfl
@[simp] theorem State.countDiscard_fac (s : State) : (s.countDiscard).fac = s.fac := rfl
@[simp] theorem State.countDiscard_fsc (s : State) : (s.countDiscard).fsc = s.fsc := rfl
@[simp] theorem State.countDiscard_rgm (s : State) : (s.countDiscard).rgm = s.rgm := rfl
@[simp] theorem State.countDiscard_lvm (s : State) : (s.countDiscard).lvm = s.lvm := rfl
@[simp] theorem State.countDiscard_groups (s : State) : (s.countDiscard).groups = s.groups := rfl
@[simp] theorem State.countDiscard_olp (s : State) : (s.countDiscard).olp = s.olp := rfl
@[simp] theorem State.countDiscard_tbs (s : State) : (s.countDiscard).tbs = s.tbs := rfl
@[simp] theorem State.countDiscard_pending (s : State) : (s.countDiscard).pending = s.pending := rfl
@[simp] theorem State.countDiscard_exm_discard (s : State) :
    (s.countDiscard).exm.discard = satInc s.exm.discard := rfl

@[simp] theorem State.countRangeError_now (s : State) : (s.countRangeError).now = s.now := rfl
@[simp] theorem State.countRangeError_pru (s : State) : (s.countRangeError).pru = s.pru := rfl
@[simp] theorem State.countRangeError_fac (s : State) : (s.countRangeError).fac = s.fac := rfl
@[simp] theorem State.countRangeError_fsc (s : State) : (s.countRangeError).fsc = s.fsc := rfl
@[simp] theorem State.countRangeError_rgm (s : State) : (s.countRangeError).rgm = s.rgm := rfl
@[simp] theorem State.countRangeError_exm (s : State) : (s.countRangeError).exm = s.exm := rfl
@[simp] theorem State.countRangeError_groups (s : State) : (s.countRangeError).groups = s.groups := rfl
@[simp] theorem State.countRangeError_olp (s : State) : (s.countRangeError).olp = s.olp := rfl
@[simp] theorem State.countRangeError_tbs (s : State) : (s.countRangeError).tbs = s.tbs := rfl
@[simp] theorem State.countRangeError_pending (s : State) : (s.countRangeError).pending = s.pending := rfl
@[simp] theorem State.countRangeError_lvm_rangeErrors (s : State) :
    (s.countRangeError).lvm.rangeErrors = satInc s.lvm.rangeErrors := rfl

@[simp] theorem State.countLinkCrc_now (s : State) : (s.countLinkCrc).now = s.now := rfl
@[simp] theorem State.countLinkCrc_pru (s : State) : (s.countLinkCrc).pru = s.pru := rfl
@[simp] theorem State.countLinkCrc_fac (s : State) : (s.countLinkCrc).fac = s.fac := rfl
@[simp] theorem State.countLinkCrc_fsc (s : State) : (s.countLinkCrc).fsc = s.fsc := rfl
@[simp] theorem State.countLinkCrc_rgm (s : State) : (s.countLinkCrc).rgm = s.rgm := rfl
@[simp] theorem State.countLinkCrc_exm (s : State) : (s.countLinkCrc).exm = s.exm := rfl
@[simp] theorem State.countLinkCrc_lvm (s : State) : (s.countLinkCrc).lvm = s.lvm := rfl
@[simp] theorem State.countLinkCrc_groups (s : State) : (s.countLinkCrc).groups = s.groups := rfl
@[simp] theorem State.countLinkCrc_tbs (s : State) : (s.countLinkCrc).tbs = s.tbs := rfl
@[simp] theorem State.countLinkCrc_pending (s : State) : (s.countLinkCrc).pending = s.pending := rfl
@[simp] theorem State.countLinkCrc_olp_linkCrc (s : State) :
    (s.countLinkCrc).olp.linkCrc = satInc s.olp.linkCrc := rfl

@[simp] theorem State.countOrderFormat_now (s : State) : (s.countOrderFormat).now = s.now := rfl
@[simp] theorem State.countOrderFormat_pru (s : State) : (s.countOrderFormat).pru = s.pru := rfl
@[simp] theorem State.countOrderFormat_fac (s : State) : (s.countOrderFormat).fac = s.fac := rfl
@[simp] theorem State.countOrderFormat_fsc (s : State) : (s.countOrderFormat).fsc = s.fsc := rfl
@[simp] theorem State.countOrderFormat_rgm (s : State) : (s.countOrderFormat).rgm = s.rgm := rfl
@[simp] theorem State.countOrderFormat_exm (s : State) : (s.countOrderFormat).exm = s.exm := rfl
@[simp] theorem State.countOrderFormat_lvm (s : State) : (s.countOrderFormat).lvm = s.lvm := rfl
@[simp] theorem State.countOrderFormat_groups (s : State) : (s.countOrderFormat).groups = s.groups := rfl
@[simp] theorem State.countOrderFormat_tbs (s : State) : (s.countOrderFormat).tbs = s.tbs := rfl
@[simp] theorem State.countOrderFormat_pending (s : State) : (s.countOrderFormat).pending = s.pending := rfl
@[simp] theorem State.countOrderFormat_olp_orderFormat (s : State) :
    (s.countOrderFormat).olp.orderFormat = satInc s.olp.orderFormat := rfl

@[simp] theorem State.countDuplicate_now (s : State) : (s.countDuplicate).now = s.now := rfl
@[simp] theorem State.countDuplicate_pru (s : State) : (s.countDuplicate).pru = s.pru := rfl
@[simp] theorem State.countDuplicate_fac (s : State) : (s.countDuplicate).fac = s.fac := rfl
@[simp] theorem State.countDuplicate_fsc (s : State) : (s.countDuplicate).fsc = s.fsc := rfl
@[simp] theorem State.countDuplicate_rgm (s : State) : (s.countDuplicate).rgm = s.rgm := rfl
@[simp] theorem State.countDuplicate_exm (s : State) : (s.countDuplicate).exm = s.exm := rfl
@[simp] theorem State.countDuplicate_lvm (s : State) : (s.countDuplicate).lvm = s.lvm := rfl
@[simp] theorem State.countDuplicate_groups (s : State) : (s.countDuplicate).groups = s.groups := rfl
@[simp] theorem State.countDuplicate_tbs (s : State) : (s.countDuplicate).tbs = s.tbs := rfl
@[simp] theorem State.countDuplicate_pending (s : State) : (s.countDuplicate).pending = s.pending := rfl
@[simp] theorem State.countDuplicate_olp_duplicate (s : State) :
    (s.countDuplicate).olp.duplicate = satInc s.olp.duplicate := rfl

@[simp] theorem State.countGap_now (s : State) : (s.countGap).now = s.now := rfl
@[simp] theorem State.countGap_pru (s : State) : (s.countGap).pru = s.pru := rfl
@[simp] theorem State.countGap_fac (s : State) : (s.countGap).fac = s.fac := rfl
@[simp] theorem State.countGap_fsc (s : State) : (s.countGap).fsc = s.fsc := rfl
@[simp] theorem State.countGap_rgm (s : State) : (s.countGap).rgm = s.rgm := rfl
@[simp] theorem State.countGap_exm (s : State) : (s.countGap).exm = s.exm := rfl
@[simp] theorem State.countGap_lvm (s : State) : (s.countGap).lvm = s.lvm := rfl
@[simp] theorem State.countGap_groups (s : State) : (s.countGap).groups = s.groups := rfl
@[simp] theorem State.countGap_tbs (s : State) : (s.countGap).tbs = s.tbs := rfl
@[simp] theorem State.countGap_pending (s : State) : (s.countGap).pending = s.pending := rfl
@[simp] theorem State.countGap_olp_gap (s : State) :
    (s.countGap).olp.gap = satInc s.olp.gap := rfl

@[simp] theorem State.countBusyDrop_now (s : State) : (s.countBusyDrop).now = s.now := rfl
@[simp] theorem State.countBusyDrop_pru (s : State) : (s.countBusyDrop).pru = s.pru := rfl
@[simp] theorem State.countBusyDrop_fac (s : State) : (s.countBusyDrop).fac = s.fac := rfl
@[simp] theorem State.countBusyDrop_fsc (s : State) : (s.countBusyDrop).fsc = s.fsc := rfl
@[simp] theorem State.countBusyDrop_rgm (s : State) : (s.countBusyDrop).rgm = s.rgm := rfl
@[simp] theorem State.countBusyDrop_exm (s : State) : (s.countBusyDrop).exm = s.exm := rfl
@[simp] theorem State.countBusyDrop_lvm (s : State) : (s.countBusyDrop).lvm = s.lvm := rfl
@[simp] theorem State.countBusyDrop_groups (s : State) : (s.countBusyDrop).groups = s.groups := rfl
@[simp] theorem State.countBusyDrop_tbs (s : State) : (s.countBusyDrop).tbs = s.tbs := rfl
@[simp] theorem State.countBusyDrop_pending (s : State) : (s.countBusyDrop).pending = s.pending := rfl
@[simp] theorem State.countBusyDrop_olp_busyDrop (s : State) :
    (s.countBusyDrop).olp.busyDrop = satInc s.olp.busyDrop := rfl

end Sys2Proof.Machine
end

