-- ==== Sys2Proof/Laws/Frame.lean ====
section
/-! SUPPORT. What each shared operation can do: `Only bs s s'` says that `s'` differs from `s` in the
parts `bs` at most, and that the live records of the Fire Schedule have changed by the moves of
`Laws/Moves.lean` only. One lemma per operation. -/

namespace Sys2Proof.Machine

/-- What the Firing Angle Calculator holds beside the planning instants. -/
def Fac.rest (f : Fac) : Vector (Option Int) 2 × Vector Bool 2 × Vector Bool 4 × Vector Bool 2 ×
    Count16 × Count16 :=
  (f.alphaLast, f.firstFiring, f.startPending, f.gammaLimiting, f.scheduleConflict, f.revisionLate)

/-- The order in force, the order state with its instants, and the AC state. -/
def Olp.orders (o : Olp) : OrderValues × Option Byte × OrderState × Option Time × Option Time ×
    AcState :=
  (o.order, o.lastSeq, o.orderState, o.watchdog, o.holdTimer, o.ac)

/-- The output queue and the frame being sent. -/
def Olp.output (o : Olp) : List OutFrame × Option Sending := (o.queue, o.sending)

/-- The six link counters. -/
def Olp.counts (o : Olp) : Count16 × Count16 × Count16 × Count16 × Count16 × Count16 :=
  (o.linkCrc, o.orderFormat, o.duplicate, o.gap, o.clamp, o.busyDrop)

/-- The parts of `State` that a frame names: the blocks, the Firing Angle Calculator and the Order
Link Port in parts. `clear` stands for the clearing of a sticky flag. -/
inductive Block where
  | now | pru | plan | fac | fsc | rgm | exm | lvm | groups | sticky | clear | order | queue | count
  | tbs | pending
  deriving DecidableEq, Repr

/-- `s'` differs from `s` in the parts `bs` at most, clears no sticky flag unless `bs` has `clear`,
and has live records that come from those of `s` by moves, unless `bs` has `tbs`. -/
structure Only (bs : List Block) (s s' : State) : Prop where
  now : Block.now ∉ bs → s'.now = s.now
  pru : Block.pru ∉ bs → s'.pru = s.pru
  plan : Block.plan ∉ bs → s'.fac.plannings = s.fac.plannings
  fac : Block.fac ∉ bs → s'.fac.rest = s.fac.rest
  fsc : Block.fsc ∉ bs → s'.fsc = s.fsc
  rgm : Block.rgm ∉ bs → s'.rgm = s.rgm
  exm : Block.exm ∉ bs → s'.exm = s.exm
  lvm : Block.lvm ∉ bs → s'.lvm = s.lvm
  groups : Block.groups ∉ bs → s'.groups = s.groups
  sticky : Block.sticky ∉ bs → s'.olp.sticky = s.olp.sticky
  order : Block.order ∉ bs → s'.olp.orders = s.olp.orders
  queue : Block.queue ∉ bs → s'.olp.output = s.olp.output
  count : Block.count ∉ bs → s'.olp.counts = s.olp.counts
  tbs : Block.tbs ∉ bs → s'.tbs = s.tbs
  pending : Block.pending ∉ bs → s'.pending = s.pending
  clear : Block.clear ∉ bs → ∀ i : Fin 16, s.olp.sticky[i] = true → s'.olp.sticky[i] = true
  moves : Block.tbs ∉ bs → Moves s.tbs.limits s.fsc.records s'.fsc.records

theorem Only.refl (bs : List Block) (s : State) : Only bs s s := by
  constructor <;> intro _
  all_goals first | rfl | exact fun _ h => h | exact .refl _

theorem Only.trans {bs : List Block} {a b c : State} (h : Only bs a b) (k : Only bs b c) :
    Only bs a c := by
  constructor <;> intro x
  · exact (k.now x).trans (h.now x)
  · exact (k.pru x).trans (h.pru x)
  · exact (k.plan x).trans (h.plan x)
  · exact (k.fac x).trans (h.fac x)
  · exact (k.fsc x).trans (h.fsc x)
  · exact (k.rgm x).trans (h.rgm x)
  · exact (k.exm x).trans (h.exm x)
  · exact (k.lvm x).trans (h.lvm x)
  · exact (k.groups x).trans (h.groups x)
  · exact (k.sticky x).trans (h.sticky x)
  · exact (k.order x).trans (h.order x)
  · exact (k.queue x).trans (h.queue x)
  · exact (k.count x).trans (h.count x)
  · exact (k.tbs x).trans (h.tbs x)
  · exact (k.pending x).trans (h.pending x)
  · exact fun i m => k.clear x i (h.clear x i m)
  · exact (h.moves x).trans (h.tbs x ▸ k.moves x)

theorem Only.mono {bs cs : List Block} {a b : State} (h : Only bs a b) (sub : bs ⊆ cs) :
    Only cs a b := by
  constructor <;> intro x
  · exact h.now fun y => x (sub y)
  · exact h.pru fun y => x (sub y)
  · exact h.plan fun y => x (sub y)
  · exact h.fac fun y => x (sub y)
  · exact h.fsc fun y => x (sub y)
  · exact h.rgm fun y => x (sub y)
  · exact h.exm fun y => x (sub y)
  · exact h.lvm fun y => x (sub y)
  · exact h.groups fun y => x (sub y)
  · exact h.sticky fun y => x (sub y)
  · exact h.order fun y => x (sub y)
  · exact h.queue fun y => x (sub y)
  · exact h.count fun y => x (sub y)
  · exact h.tbs fun y => x (sub y)
  · exact h.pending fun y => x (sub y)
  · exact h.clear fun y => x (sub y)
  · exact h.moves fun y => x (sub y)

/-- Every block of `bs` is one of `cs`. -/
def Block.within (bs cs : List Block) : Bool := bs.all fun b => cs.contains b

/-- An operation in a wider list of blocks. -/
theorem Only.of {bs cs : List Block} {a b : State} (h : Only bs a b)
    (sub : Block.within bs cs = true) : Only cs a b :=
  h.mono fun x m => by simpa using List.all_eq_true.mp sub x m

/-- An operation that keeps to `bs` for every element keeps to `bs` over a list. -/
theorem Only.foldl {α : Type} {bs : List Block} (f : State → α → State)
    (h : ∀ s x, Only bs s (f s x)) (xs : List α) (s : State) : Only bs s (xs.foldl f s) := by
  induction xs generalizing s with
  | nil => exact .refl _ _
  | cons x xs ih => exact (h s x).trans (ih _)

/-! ## Named updates -/

theorem State.setPru_only (s : State) (x : Pru) : Only [.pru] s (s.setPru x) := by
  constructor <;> intro h <;> first | exact absurd (by decide) h | rfl | exact fun _ m => m | exact .refl _

theorem State.setFac_only (s : State) (x : Fac) : Only [.plan, .fac] s (s.setFac x) := by
  constructor <;> intro h <;> first | exact absurd (by decide) h | rfl | exact fun _ m => m | exact .refl _

/-- New planning instants. -/
theorem State.setFac_plan (s : State) (x : Vector (Option Planning) 24) :
    Only [.plan] s (s.setFac { s.fac with plannings := x }) := by
  constructor <;> intro h <;> first | exact absurd (by decide) h | rfl | exact fun _ m => m | exact .refl _

theorem State.setFsc_only (s : State) (x : Fsc)
    (h : Moves s.tbs.limits s.fsc.records x.records) : Only [.fsc] s (s.setFsc x) := by
  constructor <;> intro k <;> first | exact absurd (by decide) k | rfl | exact fun _ m => m | exact h

theorem State.setRgm_only (s : State) (x : Rgm) : Only [.rgm] s (s.setRgm x) := by
  constructor <;> intro h <;> first | exact absurd (by decide) h | rfl | exact fun _ m => m | exact .refl _

theorem State.setExm_only (s : State) (x : Exm) : Only [.exm] s (s.setExm x) := by
  constructor <;> intro h <;> first | exact absurd (by decide) h | rfl | exact fun _ m => m | exact .refl _

theorem State.setLvm_only (s : State) (x : Lvm) : Only [.lvm] s (s.setLvm x) := by
  constructor <;> intro h <;> first | exact absurd (by decide) h | rfl | exact fun _ m => m | exact .refl _

/-- A new output queue and transmitter. -/
theorem State.setOlp_output (s : State) (q : List OutFrame) (x : Option Sending) :
    Only [.queue] s (s.setOlp { s.olp with queue := q, sending := x }) := by
  constructor <;> intro h <;> first | exact absurd (by decide) h | rfl | exact fun _ m => m | exact .refl _

theorem State.setTbs_only (s : State) (x : Tbs) : Only [.tbs] s (s.setTbs x) := by
  constructor <;> intro h <;> first | exact absurd (by decide) h | rfl | exact fun _ m => m

theorem State.setFlag_only (s : State) (f : StickyFlag) : Only [.sticky] s (s.setFlag f) := by
  constructor <;> intro h
  case clear =>
    intro i m
    rw [State.setFlag_olp_sticky, setAt_get_eq]
    split
    · rfl
    · exact m
  all_goals first | exact absurd (by decide) h | rfl | exact .refl _

theorem State.setGroup_only (s : State) (g : Group) (r : GroupRecord) :
    Only [.groups] s (s.setGroup g r) := by
  constructor <;> intro h <;> first | exact absurd (by decide) h | rfl | exact fun _ m => m | exact .refl _

theorem State.setStation_only (s : State) (p : RingPos) (r : Station) :
    Only [.rgm] s (s.setStation p r) := by
  exact s.setRgm_only _

theorem State.setLevel_only (s : State) (v : Valve) (r : LevelRecord) :
    Only [.lvm] s (s.setLevel v r) := by
  exact s.setLvm_only _

theorem State.setRecords_only (s : State) (rs : List FireRecord)
    (h : Moves s.tbs.limits s.fsc.records rs) : Only [.fsc] s (s.setRecords rs) := by
  exact s.setFsc_only _ h

theorem State.addRecord_only (s : State) (r : FireRecord)
    (h : Placeable s.tbs.limits s.fsc.records r) : Only [.fsc] s (s.addRecord r) := by
  exact s.setRecords_only _ (.add _ _ h)

theorem State.dropRecord_only (s : State) (r : FireRecord) : Only [.fsc] s (s.dropRecord r) := by
  exact s.setRecords_only _ (.drop _ _)

theorem State.putRecord_only (s : State) (r r' : FireRecord) (h : SameFiring r r') :
    Only [.fsc] s (s.putRecord r r') := by
  exact s.setRecords_only _ (.put _ _ _ h)

theorem State.moveRecord_only (s : State) (r r' : FireRecord) (mem : r ∈ s.fsc.records)
    (h : Revised r r') : Only [.fsc] s (s.moveRecord r r') := by
  exact s.setRecords_only _ (.move _ _ _ mem h)

theorem State.setValveFiring_only (s : State) (v : Valve) (r : ValveFiring) :
    Only [.fsc] s (s.setValveFiring v r) := by
  exact s.setFsc_only _ (.refl _)

theorem State.setWaiting_only (s : State) (v : Valve) (b : Bool) :
    Only [.fsc] s (s.setWaiting v b) := by
  exact s.setFsc_only _ (.refl _)

theorem State.setPending_only (s : State) (v : Valve) (x : Option PendingExtinction) :
    Only [.exm] s (s.setPending v x) := by
  exact s.setExm_only _

theorem State.setPlanning_only (s : State) (v : Valve) (x : Option Planning) :
    Only [.plan] s (s.setPlanning v x) := by
  exact s.setFac_plan _

theorem State.mapCycle_only (s : State) (f : RingCycle → RingCycle) :
    Only [.rgm] s (s.mapCycle f) := by
  exact s.setRgm_only _

theorem State.createItem_only (s : State) (p : RingPos) (k : ItemKind) :
    Only [.rgm] s (s.createItem p k) := by
  unfold State.createItem
  split
  · exact .refl _ _
  · constructor <;> intro h <;> first | exact absurd (by decide) h | rfl | exact fun _ m => m | exact .refl _

theorem State.removeItem_only (s : State) (p : RingPos) (k : ItemKind) :
    Only [.rgm] s (s.removeItem p k) := by
  exact s.setRgm_only _

/-! ## Fire Schedule -/

theorem tryBypass_only (s : State) (v : Valve) : Only [.fsc] s (tryBypass s v) := by
  unfold tryBypass
  split
  · next h =>
    have h := Bool.and_eq_true _ _ ▸ h
    exact (s.addRecord_only _ (newBypass_placeable _ s v _ h.1 (by simpa using h.2))).trans
      (State.setWaiting_only _ _ _)
  · exact s.setWaiting_only _ _

theorem bypassRequest_only (s : State) (v : Valve) : Only [.fsc] s (bypassRequest s v) := by
  unfold bypassRequest
  split
  · exact .refl _ _
  · exact tryBypass_only s v

theorem retryWaiting_only (s : State) (v : Valve) : Only [.fsc] s (retryWaiting s v) := by
  refine Only.foldl _ (fun s v => ?_) _ _
  unfold retryOne
  split
  · exact tryBypass_only s v
  · exact .refl _ _

theorem noteFired_only (s : State) (r : FireRecord) (o : RecordOutcome) :
    Only [.fsc] s (noteFired s r o) := by
  unfold noteFired
  split
  · exact s.setFsc_only _ (.refl _)
  · exact .refl _ _

theorem closeRecord_only (s : State) (r : FireRecord) (o : RecordOutcome) :
    Only [.fsc] s (closeRecord s r o) := by
  exact Only.trans (s.dropRecord_only r) (Only.trans (State.setValveFiring_only _ _ _)
    (noteFired_only _ _ _))

theorem takeDecision_only (s : State) : Only [.fsc] s (takeDecision s) := by
  exact s.setFsc_only _ (.refl _)

theorem cancelDecision_only (s : State) (g : Group) : Only [.fsc] s (cancelDecision s g).1 := by
  have key : ∀ (rs : List FireRecord) (x : State × Notices),
      Only [.fsc] x.1 (rs.foldl cancelPlanned x).1 := by
    intro rs
    induction rs with
    | nil => intro x; exact .refl _ _
    | cons r rs ih =>
      intro x
      exact Only.trans (closeRecord_only x.1 r (.cancelled false))
        (Only.trans (retryWaiting_only _ r.valve) (ih (cancelPlanned x r)))
  exact Only.trans (takeDecision_only s) (Only.trans
    (State.setRecords_only _ _ (.map _ _ (markCancelled_same _ _))) (key _ (_, [])))

theorem releaseDecision_only (s : State) (g : Group) : Only [.fsc] s (releaseDecision s g) := by
  exact Only.trans (takeDecision_only s) (State.setFsc_only _ _ (.map _ _ (markReleased_same _ _ _)))

/-! ## Group Controller -/

theorem enterPattern_only (s : State) (g : Group) : Only [.fsc, .groups] s (enterPattern s g).1 := by
  exact Only.trans (.of (s.setGroup_only g _) rfl) (Only.trans (.of (cancelDecision_only _ g) rfl)
      (.of (Only.foldl _ bypassRequest_only _ _) rfl))

theorem enterBypassing_only (s : State) (g : Group) (timed : Bool) :
    Only [.fsc, .groups] s (enterBypassing s g timed).1 := by
  exact Only.trans (.of (s.setGroup_only g _) rfl) (Only.trans (.of (State.setGroup_only _ g _) rfl)
      (enterPattern_only _ g))

theorem checkStopped_only (s : State) (g : Group) : Only [.groups] s (checkStopped s g) := by
  unfold checkStopped
  split
  · exact .refl _ _
  · exact s.setGroup_only g _

theorem stopDirect_only (s : State) (g : Group) : Only [.fsc, .groups] s (stopDirect s g).1 := by
  exact Only.trans (.of (s.setGroup_only g _) rfl) (Only.trans (.of (cancelDecision_only _ g) rfl)
      (.of (checkStopped_only _ g) rfl))

theorem stopBypass_only (s : State) (g : Group) : Only [.fsc, .groups] s (stopBypass s g) := by
  exact Only.trans (.of (s.setGroup_only g _) rfl) (Only.trans (.of (State.setGroup_only _ g _) rfl)
      (Only.trans (.of (State.setGroup_only _ g _) rfl) (Only.trans (.of (releaseDecision_only _ g) rfl)
        (.of (checkStopped_only _ g) rfl))))

theorem enterDeblocking_only (s : State) (g : Group) :
    Only [.fac, .fsc, .groups] s (enterDeblocking s g) := by
  have h : Only [.fac, .fsc, .groups] s (if decide (s.groups[g].state = .bypassing) then
      releaseDecision (((s.setGroupState g .deblocking).setHoldTimer g none).clearPairs g) g
      else s.setGroupState g .deblocking) := by
    split
    · exact Only.trans (.of (s.setGroup_only g _) rfl) (Only.trans (.of (State.setGroup_only _ g _) rfl)
        (Only.trans (.of (State.setGroup_only _ g _) rfl) (.of (releaseDecision_only _ g) rfl)))
    · exact (s.setGroup_only g _).of rfl
  refine h.trans ?_
  constructor <;> intro h <;> first | exact absurd (by decide) h | rfl | exact fun _ m => m | exact .refl _

theorem trip_only (s : State) (g : Group) (c : TripCause) :
    Only [.fsc, .groups, .sticky] s (trip s g c).1 := by
  have h : Only [.fsc, .groups, .sticky] s (markTripped s g c) :=
    Only.trans (.of (s.setGroup_only g _) rfl) (.of (State.setFlag_only _ _) rfl)
  unfold trip
  dsimp only
  split
  · split
    · exact h
    · exact h.trans ((enterPattern_only _ g).of rfl)
  · exact h.trans (Only.trans (.of (State.setGroup_only _ g _) rfl)
      (Only.trans (.of (cancelDecision_only _ g) rfl) (.of (releaseDecision_only _ g) rfl)))

theorem tripEvent_only (s : State) (g : Group) (c : TripCause) :
    Only [.fsc, .groups, .sticky] s (tripEvent s g c).1 := by
  unfold tripEvent
  dsimp only
  split
  · exact trip_only s g c
  · split
    · exact (s.setGroup_only g _).of rfl
    · exact .refl _ _

theorem outcomeEvent_only (s : State) (g : Group) (v : Valve) (normal : Bool) (o : RecordOutcome) :
    Only [.fsc, .groups, .sticky] s (outcomeEvent s g v normal o).1 := by
  unfold outcomeEvent
  split
  · exact (s.setGroup_only g _).of rfl
  · exact tripEvent_only s g _
  · split
    · exact tripEvent_only s g _
    · exact .refl _ _
  · exact .refl _ _

theorem resetTripped_only (s : State) (g : Group) :
    Only [.fsc, .groups] s (resetTripped s g).1 := by
  exact Only.trans (.of (s.setGroup_only g _) rfl) (Only.trans (.of (cancelDecision_only _ g) rfl)
      (Only.trans (.of (releaseDecision_only _ g) rfl) (.of (checkStopped_only _ g) rfl)))

theorem ownEffect_only (s : State) (g : Group) (e : GroupEvent) :
    Only [.fsc, .groups, .sticky] s (ownEffect s g e).1 := by
  unfold ownEffect
  split
  any_goals exact .refl _ _
  any_goals exact tripEvent_only s g _
  · exact outcomeEvent_only s g _ _ _
  · split
    · exact (s.setGroup_only g _).of rfl
    · exact .refl _ _
  · split
    · exact (stopBypass_only s g).of rfl
    · exact .refl _ _
  · split
    · exact (resetTripped_only s g).of rfl
    · exact .refl _ _

theorem applyFlags_only (s : State) (g : Group) :
    Only [.fac, .fsc, .groups] s (applyFlags s g).1 := by
  unfold applyFlags
  dsimp only
  split
  any_goals exact .refl _ _
  any_goals exact (enterBypassing_only s g _).of rfl
  any_goals (split <;> first
    | exact .refl _ _
    | exact enterDeblocking_only s g
    | exact (stopDirect_only s g).of rfl
    | exact (enterBypassing_only s g true).of rfl
    | exact (stopBypass_only s g).of rfl)
  exact (s.setGroup_only g _).of rfl

/-- What an event at a group can touch. -/
abbrev groupBlocks : List Block := [.fac, .fsc, .groups, .sticky]

theorem handleEvent_only (s : State) (g : Group) (e : GroupEvent) :
    Only groupBlocks s (handleEvent s g e).1 := by
  exact Only.trans (.of (ownEffect_only s g e) rfl) (Only.trans (.of (State.setGroup_only _ g _) rfl)
      (.of (applyFlags_only _ g) rfl))

theorem runEvents_only (fuel : Nat) (ns : Notices) (s : State) :
    Only groupBlocks s (runEvents fuel ns s) := by
  induction fuel generalizing ns s with
  | zero => exact .refl _ _
  | succ n ih =>
    cases ns with
    | nil => exact .refl _ _
    | cons e ns => exact (handleEvent_only s e.1 e.2).trans (ih _ _)

theorem groupEvent_only (s : State) (g : Group) (e : GroupEvent) :
    Only groupBlocks s (groupEvent s g e) := by
  exact runEvents_only _ _ s

theorem bothGroups_only (s : State) (e : GroupEvent) : Only groupBlocks s (bothGroups s e) := by
  exact (groupEvent_only s 0 e).trans (groupEvent_only _ 1 e)

/-! ## Protective revision and the Extinction Monitor -/

theorem noteFloor_only (s : State) (x : StageResult) : Only [.sticky] s (noteFloor s x) := by
  unfold noteFloor
  split
  · exact s.setFlag_only _
  · exact .refl _ _

theorem offerRevision_only (s : State) (r : FireRecord) (n : NormalPart) (due : Time) (a : Int)
    (mem : r ∈ s.fsc.records) (h : Revised r (revisedRecord s r n due a)) :
    Only [.fac, .fsc] s (offerRevision s r n due a) := by
  unfold offerRevision
  split
  · split
    · exact (s.moveRecord_only _ _ mem h).of rfl
    · constructor <;> intro h <;> first | exact absurd (by decide) h | rfl | exact fun _ m => m | exact .refl _
  · exact .refl _ _

theorem noteFloor_records (s : State) (x : StageResult) :
    (noteFloor s x).fsc.records = s.fsc.records := by
  unfold noteFloor
  split <;> rfl

theorem reviseOne_only (s : State) (r : FireRecord) (mem : r ∈ s.fsc.records) :
    Only [.fac, .fsc, .sticky] s (reviseOne s r) := by
  unfold reviseOne
  split
  · next n body =>
    dsimp only
    refine Only.trans (.of (noteFloor_only s (revisedStages s r.valve n.inputs)) rfl)
      (.of (offerRevision_only _ r n _ _ ?_ ?_) rfl)
    · rw [noteFloor_records]; exact mem
    · have due : revisedDue s r.valve n.inputs (revisedStages s r.valve n.inputs).alphaEff =
          revisedDue (noteFloor s (revisedStages s r.valve n.inputs)) r.valve n.inputs
            (revisedStages s r.valve n.inputs).alphaEff := by
        unfold revisedDue
        rw [(noteFloor_only s _).tbs (by decide)]
      rw [due]
      exact revisedRecord_revised _ s r n body
  all_goals exact .refl _ _

/-- A recomputed record stays, or is replaced by its revised form; no other record changes. -/
theorem reviseOne_records (s : State) (r : FireRecord) :
    (reviseOne s r).fsc.records = s.fsc.records ∨
      ∃ r', (reviseOne s r).fsc.records = insertBy schedBefore r' (s.fsc.records.erase r) := by
  unfold reviseOne
  split
  · dsimp only
    unfold offerRevision
    split
    · split
      · exact .inr ⟨_, by rw [State.moveRecord_fsc_records, noteFloor_records]⟩
      · exact .inl (by rw [State.countRevisionLate_fsc, noteFloor_records])
    · exact .inl (noteFloor_records _ _)
  all_goals exact .inl rfl

theorem revise_only (s : State) (c : Scope) : Only [.fac, .fsc, .sticky] s (revise s c) := by
  have key : ∀ (rs : List FireRecord) (s : State), rs.Subperm s.fsc.records →
      Only [.fac, .fsc, .sticky] s (rs.foldl reviseOne s) := by
    intro rs
    induction rs with
    | nil => intro s _; exact .refl _ _
    | cons r rs ih =>
      intro s sub
      refine (reviseOne_only s r (sub.subset List.mem_cons_self)).trans (ih _ ?_)
      have rest : rs.Subperm (s.fsc.records.erase r) := by simpa using sub.erase r
      rcases reviseOne_records s r with h | ⟨r', h⟩
      · rw [h]; exact rest.trans List.erase_sublist.subperm
      · rw [h]
        exact rest.trans ((List.sublist_cons_self _ _).subperm.trans
          (insertBy_perm schedBefore r' _).symm.subperm)
  exact key _ s List.filter_sublist.subperm

/-- What an event at the Extinction Monitor or an outcome at the Fire Schedule can touch. -/
abbrev firingBlocks : List Block := [.fac, .fsc, .exm, .groups, .sticky]

theorem declareFailure_only (s : State) (g : Group) :
    Only firingBlocks s (declareFailure s g) := by
  have h : Only firingBlocks s (revise (noteFailure s g) (.group g)) := by
    exact Only.trans (.of (s.setExm_only _) rfl) (Only.trans (.of (State.setFlag_only _ _) rfl)
      ((revise_only _ _).of rfl))
  unfold declareFailure
  dsimp only
  split
  · exact h.trans ((groupEvent_only _ g _).of rfl)
  · exact h

theorem planningNotice_only (s : State) (g : Group) : Only [.exm] s (planningNotice s g) := by
  unfold planningNotice
  dsimp only
  split
  · exact .refl _ _
  · constructor <;> intro h <;> first | exact absurd (by decide) h | rfl | exact fun _ m => m | exact .refl _

theorem deadlineEvent_only (s : State) (v : Valve) (p : PendingExtinction) :
    Only firingBlocks s (deadlineEvent s v p) := by
  unfold deadlineEvent
  split
  · exact Only.trans (.of (s.setPending_only v _) rfl) (declareFailure_only _ _)
  · exact (s.setPending_only v _).of rfl

theorem openExtinction_only (s : State) (v : Valve) (seq : Byte) (reversal : Time) :
    Only firingBlocks s (openExtinction s v seq reversal) := by
  unfold openExtinction
  dsimp only
  split
  · exact Only.trans (.of (s.setPending_only v _) rfl) (deadlineEvent_only _ _ _)
  · exact (s.setPending_only v _).of rfl

theorem writeGamma_only (s : State) (v : Valve) (gamma : Int) (late : Bool) :
    Only [.exm] s (writeGamma s v gamma late) := by
  exact s.setExm_only _

theorem State.setCorrection_only (s : State) (b : Bridge) (x : Int) :
    Only [.exm] s (s.setCorrection b x) := by
  exact s.setExm_only _

theorem raiseCorrection_only (s : State) (b : Bridge) (x : Int) :
    Only [.fac, .fsc, .exm, .sticky] s (raiseCorrection s b x) := by
  unfold raiseCorrection
  dsimp only
  split
  · exact Only.trans (.of (s.setCorrection_only b _) rfl) (.of (revise_only _ _) rfl)
  · exact .refl _ _

theorem steerByGamma_only (s : State) (v : Valve) (gamma : Int) :
    Only firingBlocks s (steerByGamma s v gamma) := by
  have h : Only firingBlocks s (addMeasurement s (valveGroup v) gamma) := by
    constructor <;> intro h <;> first | exact absurd (by decide) h | rfl | exact fun _ m => m | exact .refl _
  unfold steerByGamma
  dsimp only
  split
  · exact h.trans (declareFailure_only _ _)
  · split
    · exact h.trans ((raiseCorrection_only _ _ _).of rfl)
    · exact h.trans ((State.setCorrection_only _ _ _).of rfl)

theorem onTimeMeasurement_only (s : State) (v : Valve) (gamma : Int) :
    Only firingBlocks s (onTimeMeasurement s v gamma) := by
  have h : Only [.exm] s (writeGamma (s.setPending v none) v gamma false) :=
    (s.setPending_only v _).trans (writeGamma_only _ _ _ _)
  unfold onTimeMeasurement
  dsimp only
  split
  · exact Only.trans (.of h rfl) (steerByGamma_only _ _ _)
  · exact h.of rfl

theorem lateMeasurement_only (s : State) (v : Valve) (gamma : Int) :
    Only [.exm] s (lateMeasurement s v gamma) := by
  exact (s.setPending_only v _).trans (writeGamma_only _ _ _ _)

theorem extinctionReport_only (s : State) (v : Valve) (d : Half) (seq : Byte) (t : Time) :
    Only firingBlocks s (extinctionReport s v d seq t) := by
  have h : Only firingBlocks s s.countDiscard := by
    constructor <;> intro h <;> first | exact absurd (by decide) h | rfl | exact fun _ m => m | exact .refl _
  unfold extinctionReport
  split
  · exact h
  · split
    · dsimp only
      split
      · exact (lateMeasurement_only _ _ _).of rfl
      · exact onTimeMeasurement_only _ _ _
    · exact h

theorem clampToLimits_only (s : State) : Only [.exm] s (clampToLimits s) := by
  exact s.setExm_only _

theorem restartExm_only (s : State) : Only [.exm] s (restartExm s) := by
  exact s.setExm_only _

/-! ## Outcomes and record instants -/

theorem openIfMeasured_only (s : State) (r : FireRecord) (o : RecordOutcome) :
    Only firingBlocks s (openIfMeasured s r o) := by
  unfold openIfMeasured
  split
  · split
    · exact openExtinction_only _ _ _ _
    · exact .refl _ _
  all_goals exact .refl _ _

theorem giveNotices_only (s : State) (ns : Notices) : Only groupBlocks s (giveNotices s ns) := by
  exact Only.foldl (fun s e => groupEvent s e.1 e.2) (fun s e => groupEvent_only s e.1 e.2) ns s

theorem finish_only (s : State) (r : FireRecord) (o : RecordOutcome) :
    Only firingBlocks s (finish s r o) := by
  exact Only.trans (.of (closeRecord_only s r o) rfl) (Only.trans (openIfMeasured_only _ r o)
      (Only.trans (.of (giveNotices_only _ _) rfl) (.of (retryWaiting_only _ _) rfl)))

theorem latenessEvent_only (s : State) (r : FireRecord) : Only [.fsc] s (latenessEvent s r) := by
  have h := s.putRecord_only r _ (afterLateness_same s r)
  unfold latenessEvent
  dsimp only
  split
  · exact h.trans (State.setFsc_only _ _ (.refl _))
  · exact h

theorem State.countFireMissed_only (s : State) : Only [.fsc] s s.countFireMissed := by
  exact s.setFsc_only _ (.refl _)

theorem State.countUnconfirmed_only (s : State) : Only [.fsc] s s.countUnconfirmed := by
  exact s.setFsc_only _ (.refl _)

theorem confirmEvent_only (s : State) (r : FireRecord) :
    Only firingBlocks s (confirmEvent s r) := by
  have c : Only firingBlocks s
      (if r.isRegular then s.countFireMissed.setFlag .fireMissed else s) := by
    split
    · exact Only.trans (.of s.countFireMissed_only rfl) (.of (State.setFlag_only _ _) rfl)
    · exact .refl _ _
  have h := c.trans (finish_only _ r .missed)
  have k : Only firingBlocks s s.countUnconfirmed := .of s.countUnconfirmed_only rfl
  have w : Only firingBlocks s (s.putRecord r { r with confirmAt := none }) :=
    (s.putRecord_only r { r with confirmAt := none } ⟨rfl, rfl, rfl⟩).of rfl
  unfold confirmEvent
  split
  · exact h
  · exact h
  · exact h
  · exact k.trans (finish_only _ _ _)
  · exact w
  · exact w

theorem holdEvent_only (s : State) (r : FireRecord) : Only [.fsc] s (holdEvent s r) := by
  exact s.putRecord_only r { r with
    holdAt := none
    state := if r.state = .armed then .holding else r.state } ⟨rfl, rfl, rfl⟩

theorem releaseTimeoutEvent_only (s : State) (r : FireRecord) :
    Only firingBlocks s (releaseTimeoutEvent s r) := by
  have k : Only firingBlocks s s.countUnconfirmed := .of s.countUnconfirmed_only rfl
  unfold releaseTimeoutEvent
  split
  · exact k.trans (finish_only _ _ _)
  · exact (s.putRecord_only r { r with releaseAt := none } ⟨rfl, rfl, rfl⟩).of rfl

theorem takeInstant_only {bs : List Block} (s : State) (v : Valve)
    (instant : FireRecord → Option Time) (event : State → FireRecord → State)
    (h : ∀ s r, Only bs s (event s r)) : Only bs s (takeInstant s v instant event) := by
  unfold takeInstant
  split
  · exact .refl _ _
  · exact h _ _

theorem confirmAtArming_only (s : State) (r : FireRecord) :
    Only firingBlocks s (confirmAtArming s r) := by
  unfold confirmAtArming
  split
  · exact confirmEvent_only _ _
  · exact .refl _ _

theorem placeRecord_only (s : State) (r : FireRecord)
    (h : Placeable s.tbs.limits s.fsc.records r) : Only firingBlocks s (placeRecord s r) := by
  unfold placeRecord
  split
  · exact Only.trans (.of (s.addRecord_only r h) rfl) (Only.trans (.of (latenessEvent_only _ _) rfl)
      (confirmAtArming_only _ _))
  · exact Only.trans (.of (s.addRecord_only r h) rfl) (confirmAtArming_only _ _)

theorem ackEvent_only (s : State) (r : FireRecord) (n : BitVec 16) :
    Only firingBlocks s (ackEvent s r n) := by
  unfold ackEvent
  split
  · exact (s.putRecord_only r { r with
      state := if r.isBypass && passed s.now r.due then .holding else .armed }
      ⟨rfl, rfl, rfl⟩).of rfl
  any_goals exact .refl _ _
  all_goals
    split
    · exact finish_only _ _ _
    · exact .refl _ _

theorem takeAck_only (v : Valve) (n : BitVec 16) (s : State) (seq : Byte) :
    Only firingBlocks s (takeAck v n s seq) := by
  unfold takeAck
  split
  · exact .refl _ _
  · exact ackEvent_only _ _ _

theorem firedEvent_only (s : State) (r : FireRecord) (stamp : Time) :
    Only firingBlocks s (firedEvent s r stamp) := by
  have c : Only [.fsc] s (if deviates s r stamp then s.countTimingDeviation else s) := by
    split
    · exact s.setFsc_only _ (.refl _)
    · exact .refl _ _
  have h : Only firingBlocks s ((if deviates s r stamp then s.countTimingDeviation else s).putRecord
      r { r with firedStamp := some stamp }) :=
    (c.trans (State.putRecord_only _ r { r with firedStamp := some stamp }
      ⟨rfl, rfl, rfl⟩)).of rfl
  unfold firedEvent
  dsimp only
  split
  · exact h
  · exact h.trans (finish_only _ _ _)

theorem takeFired_only (v : Valve) (d : Half) (s : State) (x : Byte × Time) :
    Only firingBlocks s (takeFired v d s x) := by
  unfold takeFired
  split
  · exact .refl _ _
  · exact firedEvent_only _ _ _

theorem placeTest_only (s : State) (v : Valve) (room : s.hasRoom v = true) :
    Only firingBlocks s (placeTest s v) := by
  exact placeRecord_only _ _ (newTest_placeable _ s v _ _ _ room)

theorem restartFsc_only (s : State) : Only [.fsc] s (restartFsc s) := by
  exact s.setFsc_only _ (.clear _)

/-! ## Planning -/

theorem State.countScheduleConflict_only (s : State) :
    Only [.fac] s s.countScheduleConflict := by
  constructor <;> intro h <;> first | exact absurd (by decide) h | rfl | exact fun _ m => m | exact .refl _

theorem refuseRecord_only (s : State) : Only [.fac, .sticky] s (refuseRecord s) := by
  exact Only.trans (.of (s.setFlag_only _) rfl) ((State.countScheduleConflict_only _).of rfl)

theorem clearStartPending_only (s : State) (b : Bridge) :
    Only [.fac] s (clearStartPending s b) := by
  constructor <;> intro h <;> first | exact absurd (by decide) h | rfl | exact fun _ m => m | exact .refl _

theorem notePlanned_only (s : State) (g : Group) (a : Int) (l : Bool) :
    Only [.fac] s (notePlanned s g a l) := by
  constructor <;> intro h <;> first | exact absurd (by decide) h | rfl | exact fun _ m => m | exact .refl _

theorem placeStart_only (s : State) (v : Valve) (due : Time) (hold : Nat) :
    Only firingBlocks s (placeStart s v due hold) := by
  unfold placeStart
  split
  · next room => exact placeRecord_only _ _ (newStart_placeable _ s v _ _ _ room)
  · exact (refuseRecord_only _).of rfl

theorem issueStart_only (s : State) (v : Valve) (due : Time) (hold : Nat) :
    Only firingBlocks s (issueStart s v due hold) := by
  unfold issueStart
  split
  · exact Only.trans (.of (clearStartPending_only _ _) rfl) (placeStart_only _ _ _ _)
  · exact .refl _ _

theorem placeNormal_only (s : State) (v : Valve) (i : PlanInputs) (x : StageResult)
    (h : Placeable s.tbs.limits s.fsc.records (plannedRecord s v i x.alphaEff)) :
    Only firingBlocks s (placeNormal s v i x) := by
  exact Only.trans (placeRecord_only _ _ h) (Only.trans (.of (notePlanned_only _ _ _ _) rfl)
    (Only.trans (.of (planningNotice_only _ _) rfl) (issueStart_only _ _ _ _)))

theorem offerNormal_only (s s' : State) (v : Valve) (target : Time)
    (same : s'.tbs.limits = s.tbs.limits) :
    Only firingBlocks s' (offerNormal s' v (planInputs s v target)
      (revisedStages s v (planInputs s v target))) := by
  unfold offerNormal
  split
  · next room => exact placeNormal_only _ _ _ _ (plannedRecord_placeable s s' v target same room)
  · exact (refuseRecord_only _).of rfl

theorem planValve_only (s : State) (v : Valve) (target : Time) :
    Only firingBlocks s (planValve s v target) := by
  exact Only.trans (.of (noteFloor_only _ _) rfl) (offerNormal_only s _ v target
    (by rw [(noteFloor_only s _).tbs (by decide)]))

theorem planningEvent_only (s : State) (v : Valve) (target : Time) :
    Only firingBlocks s (planningEvent s v target) := by
  unfold planningEvent
  split
  · exact planValve_only _ _ _
  · exact .refl _ _

/-- What the taking of planning instants can touch. -/
abbrev planBlocks : List Block := .plan :: firingBlocks

theorem takePlanning_only (s : State) (v : Valve) : Only planBlocks s (takePlanning s v) := by
  unfold takePlanning
  split
  · exact .refl _ _
  · exact Only.trans (.of (s.setPlanning_only v none) rfl) (.of (planningEvent_only _ _ _) rfl)

theorem takePlannings_only (s : State) (sel : Planning → Bool) :
    Only planBlocks s (takePlannings s sel) := by
  exact Only.foldl _ takePlanning_only _ _

theorem setPlannings_only (s : State) (t0 : Time) (p : Nat) :
    Only [.plan] s (setPlannings s t0 p) := by
  exact s.setFac_plan _

theorem armPlannings_only (s : State) (t0 : Time) (p : Nat) :
    Only planBlocks s (armPlannings s t0 p) := by
  exact Only.trans (takePlannings_only _ _) (Only.trans (.of (setPlannings_only _ _ _) rfl)
      (takePlannings_only _ _))

theorem disarmPlannings_only (s : State) : Only [.plan] s (disarmPlannings s) := by
  exact s.setFac_plan _

theorem restartFac_only (s : State) : Only [.plan, .fac] s (restartFac s) := by
  exact s.setFac_only _

/-! ## Phase Reference Unit -/

/-- What a change of lock state can touch. -/
abbrev lockBlocks : List Block := [.pru, .fac, .fsc, .groups, .sticky]

/-- What an event at the Phase Reference Unit can touch. -/
abbrev phaseBlocks : List Block := [.pru, .plan, .fac, .fsc, .exm, .groups, .sticky]

theorem setLock_only (s : State) (x : LockState) (lost : Bool) :
    Only lockBlocks s (setLock s x lost) := by
  unfold setLock
  split
  · exact .refl _ _
  · exact Only.trans (.of (s.setPru_only _) rfl) (Only.trans (.of (State.setFlag_only _ _) rfl)
      (.of (bothGroups_only _ _) rfl))

theorem loseLock_only (s : State) : Only lockBlocks s (loseLock s) := by
  exact Only.trans (.of (s.setPru_only _) rfl) (setLock_only _ _ _)

theorem markerEvent_only (s : State) : Only phaseBlocks s (markerEvent s) := by
  unfold markerEvent
  dsimp only
  refine Only.trans (.of (s.setPru_only (stepOrigin s.pru)) rfl) ?_
  split
  · exact (loseLock_only _).of rfl
  · exact Only.trans (.of (armPlannings_only _ _ _) rfl) (.of (State.setPru_only _ _) rfl)

theorem runMarkers_only (fuel : Nat) (s : State) : Only phaseBlocks s (runMarkers fuel s) := by
  induction fuel generalizing s with
  | zero => exact .refl _ _
  | succ n ih =>
    unfold runMarkers
    split
    · exact (markerEvent_only s).trans (ih _)
    · exact .refl _ _

theorem rearmMarker_only (s : State) : Only phaseBlocks s (rearmMarker s) := by
  exact Only.trans (.of (s.setPru_only _) rfl) (runMarkers_only _ _)

theorem initialCapture_only (s : State) (j : Nat) (t : Time) :
    Only phaseBlocks s (initialCapture s j t) := by
  exact Only.trans (.of (s.setPru_only _) rfl) (Only.trans (.of (setLock_only _ _ _) rfl) (rearmMarker_only _))

theorem rejectAcquiring_only (s : State) : Only lockBlocks s (rejectAcquiring s) := by
  unfold rejectAcquiring
  dsimp only
  split
  · exact Only.trans (.of (s.setPru_only _) rfl) (loseLock_only _)
  · exact (s.setPru_only _).of rfl

theorem rejectedCapture_only (s : State) (j : Nat) (t : Time) (e : Int) :
    Only lockBlocks s (rejectedCapture s j t e) := by
  have h : Only lockBlocks s (s.setPru (addHistory ⟨j, t, e, .rejected⟩ s.pru)).countGlitch := by
    constructor <;> intro h <;> first | exact absurd (by decide) h | rfl | exact fun _ m => m | exact .refl _
  unfold rejectedCapture
  dsimp only
  split
  · exact h.trans (rejectAcquiring_only _)
  · exact h

theorem acceptAcquiring_only (s : State) : Only lockBlocks s (acceptAcquiring s) := by
  unfold acceptAcquiring
  dsimp only
  split
  · exact Only.trans (.of (s.setPru_only _) rfl) (setLock_only _ _ _)
  · exact (s.setPru_only _).of rfl

theorem acceptedLock_only (s : State) (inside : Bool) :
    Only lockBlocks s (acceptedLock s inside) := by
  unfold acceptedLock
  split
  · exact acceptAcquiring_only s
  · exact (s.setPru_only _).of rfl
  · exact setLock_only _ _ _
  · exact Only.trans (.of (s.setPru_only _) rfl) (setLock_only _ _ _)
  all_goals exact .refl _ _

theorem acceptedCapture_only (s : State) (j : Nat) (t : Time) (e : Int) :
    Only phaseBlocks s (acceptedCapture s j t e) := by
  exact Only.trans (.of (s.setPru_only _) rfl) (Only.trans (.of (acceptedLock_only _ _) rfl)
      (rearmMarker_only _))

theorem capture_only (s : State) (j : Nat) (t : Time) : Only phaseBlocks s (capture s j t) := by
  unfold capture
  dsimp only
  split
  · exact initialCapture_only _ _ _
  · split
    · exact (rejectedCapture_only _ _ _ _).of rfl
    · exact acceptedCapture_only _ _ _ _

theorem takeEdge_only (s : State) (line : Line) (rising : Bool) :
    Only phaseBlocks s (takeEdge s line rising) := by
  have h : Only phaseBlocks s s.countGlitch := by
    constructor <;> intro h <;> first | exact absurd (by decide) h | rfl | exact fun _ m => m | exact .refl _
  unfold takeEdge
  split
  · exact h
  · exact Only.trans (.of (s.setPru_only _) rfl) (capture_only _ _ _)

theorem watchEvent_only (s : State) : Only lockBlocks s (watchEvent s) := by
  unfold watchEvent
  dsimp only
  refine Only.trans (.of (s.setPru_only { s.pru with watch := none }) rfl) ?_
  split
  · exact Only.trans (.of (State.setPru_only _ _) rfl) (setLock_only _ _ _)
  · exact loseLock_only _
  all_goals exact .refl _ _

theorem restartPru_only (s : State) : Only lockBlocks s (restartPru s) := by
  exact Only.trans (.of (s.setPru_only _) rfl) (setLock_only _ _ _)

/-! ## Level Monitor -/

/-- What a change of a level record can touch. -/
abbrev levelBlocks : List Block := [.fac, .fsc, .lvm, .groups, .sticky]

theorem updateLevel_only (s : State) (v : Valve) (r : LevelRecord) (restored : Bool) :
    Only levelBlocks s (updateLevel s v r restored) := by
  have h := s.setLevel_only v { r with state := levelStateOf r }
  have k (s : State) (b : Prop) [Decidable b] (f : StickyFlag) :
      Only [.sticky] s (if b then s.setFlag f else s) := by
    split
    · exact s.setFlag_only f
    · exact .refl _ _
  unfold updateLevel
  refine dite (levelStateOf r = s.lvm.levels[v].state)
    (fun same => by rw [if_pos same]; exact h.of rfl) (fun diff => ?_)
  dsimp only
  rw [if_neg diff]
  have m := Only.trans (.of h rfl) (Only.trans (.of (State.setFlag_only _ .levelChange) rfl)
    (.of (cs := levelBlocks) (k _ (levelStateOf r = .atLimit ∨ levelStateOf r = .overLimit)
      .levelLimit) rfl))
  by_cases beyond : levelStateOf r = .overLimit
  · rw [if_pos beyond]; exact m.trans ((groupEvent_only _ _ _).of rfl)
  · rw [if_neg beyond]
    by_cases back : s.lvm.levels[v].state = .overLimit ∧ restored
    · rw [if_pos back]; exact m.trans ((groupEvent_only _ _ _).of rfl)
    · rw [if_neg back]; exact m

theorem levelChange_only (v : Valve) (s : State) (x : Nat × LevelReport) :
    Only (.lvm :: firingBlocks) s (levelChange v s x) := by
  unfold levelChange
  dsimp only
  split
  · exact (updateLevel_only _ _ _ _).of rfl
  · constructor <;> intro h <;> first | exact absurd (by decide) h | rfl | exact fun _ m => m | exact .refl _

theorem clearLevel_only (s : State) (v : Valve) (restored : Bool) :
    Only levelBlocks s (clearLevel s v restored) := by
  exact updateLevel_only _ _ _ _

theorem remakeLevel_only (st : StationTable) (s : State) (v : Valve) :
    Only levelBlocks s (remakeLevel st s v) := by
  unfold remakeLevel
  split
  · exact .refl _ _
  · exact updateLevel_only _ _ _ _

theorem remakeLevels_only (s : State) (st : StationTable) :
    Only levelBlocks s (remakeLevels s st) := by
  exact Only.foldl _ (remakeLevel_only st) _ _

/-! ## Enrolment -/

/-- What an event at the Ring Master and its enrolment can touch, but for reports. -/
abbrev stationBlocks : List Block := [.fac, .fsc, .rgm, .lvm, .groups, .sticky]

theorem removeEnrolItems_only (s : State) (p : RingPos) : Only [.rgm] s (removeEnrolItems s p) := by
  exact Only.trans (State.removeItem_only _ _ _) (State.removeItem_only _ _ _)

theorem faultEvent_only (s : State) (p : RingPos) : Only groupBlocks s (faultEvent s p) := by
  unfold faultEvent
  split
  · exact .refl _ _
  · exact groupEvent_only _ _ _

theorem enrolStation_only (s : State) (p : RingPos) (row : StationRow) (i : Ident) :
    Only stationBlocks s (enrolStation s p row i) := by
  exact Only.trans (.of (s.setStation_only p _) rfl) (Only.trans (.of (State.createItem_only _ _ _) rfl)
      (Only.trans (.of (clearLevel_only _ _ _) rfl) (Only.trans (.of (State.createItem_only _ _ _) rfl)
        (.of (groupEvent_only _ _ _) rfl))))

theorem failComparison_only (s : State) (p : RingPos) (x : MismatchReason) :
    Only [.rgm, .sticky] s (failComparison s p x) := by
  exact Only.trans (.of (s.setStation_only p _) rfl) (.of (State.setFlag_only _ _) rfl)

theorem compareIdent_only (s : State) (p : RingPos) (row : StationRow) (i : Ident) :
    Only stationBlocks s (compareIdent s p row i) := by
  unfold compareIdent
  split
  · exact enrolStation_only _ _ _ _
  · exact (failComparison_only _ _ _).of rfl

theorem countIdent_only (s : State) (p : RingPos) (row : StationRow) (i : Ident) :
    Only stationBlocks s (countIdent s p row i) := by
  unfold countIdent
  split
  · exact Only.trans (.of (s.setStation_only p _) rfl) (compareIdent_only _ _ _ _)
  · exact (s.setStation_only p _).of rfl

theorem changedIdentity_only (s : State) (p : RingPos) (i : Ident) :
    Only stationBlocks s (changedIdentity s p i) := by
  exact Only.trans (.of (s.setStation_only p _) rfl) (Only.trans (.of (removeEnrolItems_only _ p) rfl)
      (Only.trans (.of (State.setFlag_only _ _) rfl) (.of (faultEvent_only _ _) rfl)))

theorem identFromEnrolled_only (s : State) (p : RingPos) (n : BitVec 16) (i : Ident) :
    Only stationBlocks s (identFromEnrolled s p n i) := by
  have h : Only stationBlocks s (clearMiss s p) := .of (s.setStation_only p _) rfl
  unfold identFromEnrolled
  split
  · split
    · exact h
    · exact h.trans ((State.createItem_only _ _ _).of rfl)
  · exact h.trans (changedIdentity_only _ _ _)

theorem takeIdent_only (s : State) (p : RingPos) (row : StationRow) (n : BitVec 16) (i : Ident) :
    Only stationBlocks s (takeIdent s p row n i) := by
  unfold takeIdent
  split
  · exact (s.setStation_only p _).of rfl
  · exact countIdent_only _ _ _ _
  · exact countIdent_only _ _ _ _
  · exact identFromEnrolled_only _ _ _ _
  · exact .refl _ _

theorem runNotEnrolled_only (s : State) (p : RingPos) : Only [.rgm] s (runNotEnrolled s p) := by
  unfold runNotEnrolled
  split
  · exact s.setStation_only p _
  · exact .refl _ _

/-! ## Ring cycles -/

/-- What a ring cycle start or a ring restart can touch. -/
abbrev cycleBlocks : List Block := [.fac, .fsc, .rgm, .groups, .sticky]

theorem State.setNextSeq_only (s : State) (x : Vector Byte 24) :
    Only [.fsc] s (s.setFsc { s.fsc with nextSeq := x }) := by
  exact s.setFsc_only _ (.refl _)

/-- The record of an entry place is written, in a state with the live records of `s` (R60, R61). -/
theorem placeRecordOf_only (s s' : State) (p : RingPos) (r : FireRecord) (n : BitVec 16)
    (same : s'.fsc.records = s.fsc.records) :
    Only [.fsc] s' (s'.putRecord r (placedRecord r (r.seq.getD (seqTaken s p r)) n)) := by
  refine s'.setRecords_only _ ?_
  cases seq : r.seq with
  | none => exact .number _ _ _ s.fsc.nextSeq[p] rfl rfl seq (by rw [same]; rfl)
  | some q => exact .put _ _ _ ⟨rfl, rfl, by rw [seq]; rfl⟩

theorem placeEntryAt_only (s : State) (p : RingPos) (r : FireRecord) :
    Only [.fsc, .rgm] s (placeEntryAt s p r).1 := by
  have retry : Only [.fsc, .rgm] s (if isResend r then s.countRetry else s) := by
    split
    · exact (s.setRgm_only _).of rfl
    · exact .refl _ _
  have records : (if isResend r then s.countRetry else s).fsc.records = s.fsc.records := by
    split <;> rfl
  unfold placeEntryAt
  dsimp only
  split
  · refine (retry.trans ((State.setNextSeq_only _ _).of rfl)).trans
      (Only.of (placeRecordOf_only s _ p r _ ?_) rfl)
    exact records
  · exact retry.trans ((placeRecordOf_only s _ p r _ records).of rfl)

theorem placeEntry_only (x : State × List FireEntry) (r : FireRecord) :
    Only [.fsc, .rgm] x.1 (placeEntry x r).1 := by
  unfold placeEntry
  split
  · exact .refl _ _
  · exact placeEntryAt_only _ _ _

theorem fillEntries_only (s : State) : Only [.fsc, .rgm] s (fillEntries s).1 := by
  have key : ∀ (rs : List FireRecord) (x : State × List FireEntry),
      Only [.fsc, .rgm] x.1 (rs.foldl placeEntry x).1 := by
    intro rs
    induction rs with
    | nil => intro x; exact .refl _ _
    | cons r rs ih => intro x; exact (placeEntry_only x r).trans (ih _)
  exact key _ (s, [])

theorem changeLink_only (s : State) (x : LinkStatus) : Only cycleBlocks s (changeLink s x) := by
  unfold changeLink
  split
  · exact .refl _ _
  · exact Only.trans (.of (s.setRgm_only _) rfl) (Only.trans (.of (State.setFlag_only _ _) rfl)
      (.of (bothGroups_only _ _) rfl))

theorem clearDown_only (s : State) : Only [.rgm] s (clearDown s) := by
  exact s.setRgm_only _

theorem State.setRuns_only (s : State) (a b : Nat) : Only [.rgm] s (s.setRuns a b) := by
  exact s.setRgm_only _

theorem goDown_only (s : State) (c : DownCause) : Only cycleBlocks s (goDown s c) := by
  exact Only.trans (.of (s.setRgm_only _) rfl) (changeLink_only _ _)

theorem closeReturned_only (s : State) (c : RingCycle) : Only cycleBlocks s (closeReturned s c) := by
  unfold closeReturned
  dsimp only
  refine Only.trans (.of (s.setRuns_only 0 0) rfl) ?_
  split
  any_goals exact changeLink_only _ _
  any_goals exact .refl _ _
  split
  any_goals exact Only.trans (.of (clearDown_only _) rfl) (changeLink_only _ _)
  exact .refl _ _

theorem closeLate_only (s : State) : Only cycleBlocks s (closeLate s) := by
  unfold closeLate
  dsimp only
  split
  · exact Only.trans (.of (s.setRuns_only _ _) rfl) (goDown_only _ _)
  · exact (s.setRuns_only _ _).of rfl

theorem failLink_only (s : State) : Only cycleBlocks s (failLink s) := by
  unfold failLink
  split
  · exact Only.trans (.of (s.setRuns_only _ _) rfl) (changeLink_only _ _)
  · exact Only.trans (.of (s.setRuns_only _ _) rfl) (changeLink_only _ _)
  any_goals exact goDown_only _ _
  all_goals exact .refl _ _

theorem closeLost_only (s : State) : Only cycleBlocks s (closeLost s) := by
  unfold closeLost
  dsimp only
  split
  · exact Only.trans (.of (s.setRuns_only _ _) rfl) (failLink_only _)
  · exact (s.setRuns_only _ _).of rfl

theorem closeProbe_only (s : State) (c : RingCycle) : Only cycleBlocks s (closeProbe s c) := by
  unfold closeProbe
  split
  · exact Only.trans (.of (s.setRuns_only 0 0) rfl) (Only.trans (.of (clearDown_only _) rfl)
      (changeLink_only _ _))
  · exact .refl _ _

theorem updateMembers_only (s : State) (c : RingCycle) : Only [.rgm] s (updateMembers s c) := by
  exact s.setRgm_only _

theorem faultStation_only (s : State) (p : RingPos) : Only cycleBlocks s (faultStation s p) := by
  exact Only.trans (.of (s.setStation_only p _) rfl) (Only.trans (.of (State.setFlag_only _ _) rfl)
      (Only.trans (.of (removeEnrolItems_only _ p) rfl) (.of (faultEvent_only _ p) rfl)))

theorem missStation_only (s : State) (p : RingPos) : Only cycleBlocks s (missStation s p) := by
  have h := s.setStation_only p { s.rgm.stations[p] with miss := missAfter s.rgm.stations[p] }
  unfold missStation
  dsimp only
  split
  · exact Only.trans (.of h rfl) (faultStation_only _ _)
  · exact h.of rfl

theorem missOne_only (c : RingCycle) (s : State) (p : RingPos) :
    Only cycleBlocks s (missOne c s p) := by
  unfold missOne
  split
  · exact missStation_only _ _
  · exact .refl _ _

theorem countMisses_only (s : State) (c : RingCycle) : Only cycleBlocks s (countMisses s c) := by
  unfold countMisses
  split
  · exact Only.foldl _ (missOne_only c) _ _
  · exact .refl _ _

theorem sampleScan_only (s : State) (x : Nat) : Only [.rgm] s (sampleScan s x) := by
  exact s.setRgm_only _

theorem closeScan_only (s : State) (c : RingCycle) : Only [.rgm] s (closeScan s c) := by
  unfold closeScan
  split
  · exact sampleScan_only _ _
  · exact .refl _ _

theorem endItems_only (s : State) (c : RingCycle) : Only [.rgm] s (endItems s c) := by
  exact s.setRgm_only _

theorem judgeCycle_only (s : State) (c : RingCycle) : Only cycleBlocks s (judgeCycle s c) := by
  unfold judgeCycle
  split
  · exact closeReturned_only _ _
  · split
    · exact closeLate_only _
    · exact closeLost_only _

theorem closeRunning_only (s : State) (c : RingCycle) : Only cycleBlocks s (closeRunning s c) := by
  exact Only.trans (judgeCycle_only _ _) (Only.trans (.of (updateMembers_only _ c) rfl)
      (countMisses_only _ c))

theorem closeCycle_only (s : State) : Only cycleBlocks s (closeCycle s) := by
  unfold closeCycle
  split
  · exact .refl _ _
  · refine Only.trans ?_ (Only.trans (.of (closeScan_only _ _) rfl) (.of (endItems_only _ _) rfl))
    split
    · exact closeProbe_only _ _
    · exact closeRunning_only _ _

theorem stepStations_only (s : State) (w : Vector Bool 24) : Only [.rgm] s (stepStations s w) := by
  exact s.setRgm_only _

theorem stepProbe_only (s : State) : Only [.rgm] s (stepProbe s).1 := by
  unfold stepProbe
  split
  · exact .refl _ _
  · exact s.setRgm_only _

theorem sendCycle_only (s : State) (probe : Bool) (fs : List CycleFrame) :
    Only [.rgm] s (sendCycle s probe fs) := by
  exact s.setRgm_only _

theorem cycleEntries_only (s : State) (probe : Bool) :
    Only [.fsc, .rgm] s (cycleEntries s probe).1 := by
  unfold cycleEntries
  split
  · exact .refl _ _
  · exact fillEntries_only _

theorem finishCycle_only (s : State) (probe : Bool) :
    Only [.fsc, .rgm] s (finishCycle s probe) := by
  exact Only.trans (cycleEntries_only s probe) (.of (sendCycle_only _ _ _) rfl)

theorem runCycle_only (s : State) : Only [.fsc, .rgm] s (runCycle s) := by
  exact Only.trans (.of (s.setRgm_only _) rfl) (Only.trans (.of (stepProbe_only _) rfl)
      (finishCycle_only _ _))

theorem startCycle_only (s : State) : Only cycleBlocks s (startCycle s) := by
  exact Only.trans (closeCycle_only s) (Only.trans (.of (stepStations_only _ _) rfl) (.of (runCycle_only _) rfl))

theorem clearRing_only (s : State) : Only [.rgm] s (clearRing s) := by
  exact s.setRgm_only _

theorem announceLink_only (s : State) (old : LinkStatus) :
    Only groupBlocks s (announceLink s old) := by
  unfold announceLink
  split
  · exact .refl _ _
  · exact Only.trans (.of (s.setFlag_only _) rfl) (bothGroups_only _ _)

theorem firstCycle_only (s : State) : Only cycleBlocks s (firstCycle s) := by
  unfold firstCycle
  split
  · exact startCycle_only _
  · exact .refl _ _

theorem ringRestart_only (s : State) : Only cycleBlocks s (ringRestart s) := by
  exact Only.trans (.of (clearRing_only s) rfl) (Only.trans (.of (Only.foldl _ faultEvent_only _ _) rfl)
      (Only.trans (.of (announceLink_only _ _) rfl) (firstCycle_only _)))

/-! ## Frames that come back -/

/-- What a frame that comes back can touch. -/
abbrev returnBlocks : List Block := [.fac, .fsc, .rgm, .exm, .lvm, .groups, .sticky]

theorem takeExtinction_only (v : Valve) (d : Half) (s : State) (x : Option (Byte × Time)) :
    Only firingBlocks s (takeExtinction v d s x) := by
  unfold takeExtinction
  split
  · exact .refl _ _
  · exact extinctionReport_only _ _ _ _ _

theorem takeReports_only (s : State) (v : Valve) (d : Half) (r : RunSlot) :
    Only returnBlocks s (takeReports s v d r) := by
  exact Only.trans (.of (Only.foldl _ (takeFired_only v d) _ _) rfl) (Only.trans
      (.of (Only.foldl _ (takeAck_only v _) _ _) rfl) (Only.trans (.of (takeExtinction_only _ _ _ _) rfl)
        (.of (Only.foldl _ (levelChange_only v) _ _) rfl)))

theorem takeRun_only (s : State) (p : RingPos) (v : Valve) (d : Half) (r : RunSlot) :
    Only returnBlocks s (takeRun s p v d r) := by
  exact Only.trans (.of (s.setStation_only p _) rfl) (Only.trans (.of (State.removeItem_only _ _ _) rfl)
      (takeReports_only _ _ _ _))

theorem routeSlot_only (s : State) (p : RingPos) (row : StationRow) (d : Half) (b : SlotBody) :
    Only returnBlocks s (routeSlot s p row d b) := by
  unfold routeSlot
  split
  · exact (takeIdent_only _ _ _ _ _).of rfl
  · split
    · exact takeRun_only _ _ _ _ _
    · exact (runNotEnrolled_only _ _).of rfl

theorem noteLineError_only (s : State) (p : RingPos) (d : Half) (b : Bool) :
    Only [.rgm] s (noteLineError s p d b) := by
  unfold noteLineError
  split <;> (constructor <;> intro h <;> first | exact absurd (by decide) h | rfl | exact fun _ m => m | exact .refl _)

theorem noteTurned_only (s : State) (p : RingPos) (m : Marker) (b : Bool) :
    Only [.rgm] s (noteTurned s p m b) := by
  unfold noteTurned
  split
  · split
    · exact State.createItem_only _ _ _
    · exact .refl _ _
  · exact State.removeItem_only _ _ _

theorem noteResync_only (s : State) (p : RingPos) (m : Marker) :
    Only [.rgm] s (noteResync s p m) := by
  unfold noteResync
  split
  · exact s.setRgm_only _
  · exact .refl _ _

theorem noteSlot_only (s : State) (p : RingPos) (m : Marker) (lineError turned : Bool) :
    Only [.rgm] s (noteSlot s p m lineError turned) := by
  exact Only.trans (s.mapCycle_only _) (Only.trans (noteLineError_only _ _ _ _)
      (Only.trans (noteTurned_only _ _ _ _) (noteResync_only _ _ _)))

theorem routeGood_only (s : State) (p : RingPos) (d : Half) (b : SlotBody) :
    Only returnBlocks s (routeGood s p d b) := by
  unfold routeGood
  split
  · exact .refl _ _
  · exact routeSlot_only _ _ _ _ _

theorem State.countReceiveError_only (s : State) : Only [.rgm] s s.countReceiveError := by
  exact s.setRgm_only _

theorem takeSlot_only (m : Marker) (s : State) (x : RingPos × Slot) :
    Only returnBlocks s (takeSlot m s x) := by
  unfold takeSlot
  split
  · exact .refl _ _
  · exact s.countReceiveError_only.of rfl
  · exact Only.trans (.of (noteSlot_only _ _ _ _ _) rfl) (routeGood_only _ _ _ _)

theorem noteTurning_only (s : State) (m : Marker) (input : Port) (xs : List (RingPos × Slot)) :
    Only [.rgm] s (noteTurning s m input xs) := by
  unfold noteTurning
  split
  · split
    any_goals exact .refl _ _
    all_goals
      split
      · exact .refl _ _
      · exact s.setRgm_only _
  · exact .refl _ _

theorem sampleLate_only (s : State) : Only [.rgm] s (sampleLate s) := by
  unfold sampleLate
  split
  · exact .refl _ _
  · exact sampleScan_only _ _

theorem takeOverrun_only (s : State) (n : BitVec 16) : Only [.rgm] s (takeOverrun s n) := by
  have h : Only [.rgm] s (s.countReceiveError.mapCycle noteOverrun) :=
    Only.trans s.countReceiveError_only (State.mapCycle_only _ _)
  unfold takeOverrun
  dsimp only
  split
  · exact h.trans (sampleLate_only _)
  · exact h

theorem takeReturn_only (s : State) (m : Marker) (input : Port) (slots : List Slot) :
    Only returnBlocks s (takeReturn s m input slots) := by
  exact Only.trans (.of (s.mapCycle_only _) rfl) (Only.trans (.of (noteTurning_only _ _ _ _) rfl)
      (Only.foldl _ (takeSlot_only m) _ _))

theorem takeArrival_only (s : State) (input : Port) (a : Arrival) :
    Only returnBlocks s (takeArrival s input a) := by
  unfold takeArrival
  split
  · exact s.countReceiveError_only.of rfl
  · exact s.countReceiveError_only.of rfl
  · split
    · split
      · split
        · exact takeReturn_only _ _ _ _
        · exact s.countReceiveError_only.of rfl
      · exact s.countReceiveError_only.of rfl
    · exact (takeOverrun_only _ _).of rfl

/-! ## Order Link -/

theorem kickTransmitter_only (s : State) : Only [.queue] s (kickTransmitter s) := by
  unfold kickTransmitter
  split
  · exact s.setOlp_output _ _
  all_goals exact .refl _ _

theorem enqueue_only (s : State) (f : OutFrame) : Only [.queue] s (enqueue s f) := by
  exact Only.trans (s.setOlp_output _ s.olp.sending) (kickTransmitter_only _)

theorem queueStatus_only (s : State) : Only [.queue] s (queueStatus s) := by
  unfold queueStatus
  split
  · exact .refl _ _
  · exact enqueue_only _ _

theorem endSending_only (s : State) : Only [.queue] s (endSending s) := by
  exact Only.trans (s.setOlp_output s.olp.queue _) (kickTransmitter_only _)

theorem State.countLinkCrc_only (s : State) : Only [.count] s s.countLinkCrc := by
  constructor <;> intro h <;> first | exact absurd (by decide) h | rfl | exact fun _ m => m | exact .refl _

theorem State.countOrderFormat_only (s : State) : Only [.count] s s.countOrderFormat := by
  constructor <;> intro h <;> first | exact absurd (by decide) h | rfl | exact fun _ m => m | exact .refl _

theorem State.countDuplicate_only (s : State) : Only [.count] s s.countDuplicate := by
  constructor <;> intro h <;> first | exact absurd (by decide) h | rfl | exact fun _ m => m | exact .refl _

theorem State.countGap_only (s : State) : Only [.count] s s.countGap := by
  constructor <;> intro h <;> first | exact absurd (by decide) h | rfl | exact fun _ m => m | exact .refl _

theorem State.countBusyDrop_only (s : State) : Only [.count] s s.countBusyDrop := by
  constructor <;> intro h <;> first | exact absurd (by decide) h | rfl | exact fun _ m => m | exact .refl _

/-- A request touches what its own act touches, the output queue and the link counters. -/
theorem request_only {bs : List Block} (s : State) (type seq : Byte)
    (act : State → State × Answer) (h : Only bs s (act s).1) :
    Only (.queue :: .count :: bs) s (request s type seq act) := by
  unfold request
  split
  · exact s.countBusyDrop_only.mono (by simp)
  · dsimp only
    exact Only.trans (h.mono (by intro x m; simp [m])) ((enqueue_only _ _).mono (by simp))

theorem query_only (s : State) (seq : Byte) (answer : State → Answer) :
    Only [.queue, .count] s (query s seq answer) := by
  exact request_only s _ _ _ (.refl [] s)

theorem noteClamp_only (s : State) (o : OrderValues) : Only [.sticky, .count] s (noteClamp s o) := by
  unfold noteClamp
  split
  · exact .refl _ _
  · refine Only.trans (.of (s.setFlag_only .clamp) rfl) ?_
    constructor <;> intro h <;> first | exact absurd (by decide) h | rfl | exact fun _ m => m | exact .refl _

theorem takeOrderValues_only (s : State) (seq : Byte) (o : OrderValues) :
    Only [.order] s (takeOrderValues s seq o) := by
  constructor <;> intro h <;> first | exact absurd (by decide) h | rfl | exact fun _ m => m | exact .refl _

theorem detectAc_only (s : State) (u : Nat) : Only [.order, .sticky] s (detectAc s u) := by
  have h (x : AcState) : Only [.order] s (s.setOlp { s.olp with ac := x }) := by
    constructor <;> intro h <;> first | exact absurd (by decide) h | rfl | exact fun _ m => m | exact .refl _
  unfold detectAc
  dsimp only
  split
  · exact .refl _ _
  · exact Only.trans ((h _).of rfl) (.of (State.setFlag_only _ _) rfl)

theorem noteGap_only (s : State) (seq : Byte) : Only [.count] s (noteGap s seq) := by
  unfold noteGap
  split
  · exact .refl _ _
  · split
    · exact .refl _ _
    · exact s.countGap_only

/-- What an ORDER can touch. -/
abbrev orderBlocks : List Block := [.fac, .fsc, .groups, .sticky, .order, .queue, .count]

theorem adoptOrder_only (s : State) (seq : Byte) (o : OrderValues) :
    Only orderBlocks s (adoptOrder s seq o) := by
  exact Only.trans (.of (noteClamp_only _ _) rfl) (Only.trans (.of (takeOrderValues_only _ _ _) rfl)
    (Only.trans (.of (detectAc_only _ _) rfl) (Only.trans (.of (bothGroups_only _ _) rfl)
      (.of (queueStatus_only _) rfl))))

theorem takeOrder_only (s : State) (seq : Byte) (p : List Byte) :
    Only orderBlocks s (takeOrder s seq p) := by
  unfold takeOrder
  split
  · exact s.countOrderFormat_only.of rfl
  · split
    · exact s.countDuplicate_only.of rfl
    · exact Only.trans (.of (noteGap_only _ _) rfl) (adoptOrder_only _ _ _)

theorem holdExpired_only (s : State) : Only (.order :: groupBlocks) s (holdExpired s) := by
  have h : Only [.order] s (s.setOlp { s.olp with orderState := .lost, holdTimer := none }) := by
    constructor <;> intro h <;> first | exact absurd (by decide) h | rfl | exact fun _ m => m | exact .refl _
  exact Only.trans (.of h rfl) (.of (bothGroups_only _ _) rfl)

theorem watchdogExpired_only (s : State) :
    Only (.order :: groupBlocks) s (watchdogExpired s) := by
  have h : Only [.order] s (s.setOlp { s.olp with
      orderState := .hold, watchdog := none,
      holdTimer := some (s.after (s.tbs.limits.holdWindow * Config.tbPerMs)) }) := by
    constructor <;> intro h <;> first | exact absurd (by decide) h | rfl | exact fun _ m => m | exact .refl _
  have k := Only.trans (.of h rfl) (Only.trans (.of (State.setFlag_only _ .orderHold) rfl)
    (.of (bs := groupBlocks) (cs := .order :: groupBlocks)
      (bothGroups_only _ (.orderState false)) rfl))
  unfold watchdogExpired
  dsimp only
  split
  · exact k.trans (holdExpired_only _)
  · exact k

theorem takeUnknown_only (s : State) (type seq : Byte) (p : List Byte) :
    Only [.queue, .count] s (takeUnknown s type seq p) := by
  unfold takeUnknown
  split
  · exact .refl _ _
  · split
    · exact s.countOrderFormat_only.of rfl
    · exact request_only s _ _ _ (.refl [] s)

/-! ## Tables -/

theorem writeTable_only (s : State) (table row : Byte) (bs : List Byte) :
    Only [.tbs] s (writeTable s table row bs).1 := by
  unfold writeTable writeKnown
  dsimp only
  split
  · exact .refl _ _
  · split
    · exact .refl _ _
    · split
      · split
        · exact .refl _ _
        · exact s.setTbs_only _
      · exact .refl _ _

theorem discardTable_only (s : State) (table : Byte) :
    Only [.tbs] s (discardTable s table).1 := by
  unfold discardTable
  split
  · exact .refl _ _
  · exact s.setTbs_only _

/-- What a commit can touch. -/
abbrev commitBlocks : List Block :=
  [.pru, .plan, .fac, .fsc, .rgm, .exm, .lvm, .groups, .sticky, .tbs]

theorem remakeFromStation_only (s : State) : Only levelBlocks s (remakeFromStation s) := by
  unfold remakeFromStation
  split
  · exact .refl _ _
  · exact remakeLevels_only _ _

theorem clearSequences_only (s : State) : Only [.fsc] s (clearSequences s) := by
  exact s.setFsc_only _ (.refl _)

theorem stationEffects_only (s : State) :
    Only [.fac, .fsc, .rgm, .lvm, .groups, .sticky] s (stationEffects s) := by
  exact Only.trans (.of (remakeFromStation_only s) rfl) (Only.trans (.of (clearSequences_only _) rfl)
      (.of (ringRestart_only _) rfl))

theorem commitEffects_only (s : State) (id : TableId) :
    Only [.pru, .plan, .fac, .fsc, .rgm, .exm, .lvm, .groups, .sticky] s (commitEffects s id) := by
  unfold commitEffects
  split
  · exact (clampToLimits_only s).of rfl
  · exact .refl _ _
  · exact Only.trans (.of (restartPru_only s) rfl) (.of (disarmPlannings_only _) rfl)
  · exact (stationEffects_only s).of rfl
  · exact (ringRestart_only s).of rfl

theorem takeCommit_only (s : State) (id : TableId) : Only commitBlocks s (takeCommit s id) := by
  have h : Only commitBlocks s (noteCommit s id) :=
    Only.trans (.of (s.setTbs_only _) rfl) (.of (State.setFlag_only _ _) rfl)
  exact Only.trans h (Only.trans (.of (commitEffects_only _ id) rfl) (.of (bothGroups_only _ _) rfl))

theorem commitTable_only (s : State) (table : Byte) :
    Only commitBlocks s (commitTable s table).1 := by
  unfold commitTable
  split
  · exact .refl _ _
  · split
    · exact .refl _ _
    · split
      · exact .refl _ _
      · split
        · exact .refl _ _
        · exact takeCommit_only _ _

/-! ## Commands -/

theorem clearFaultsOf_only (s : State) (v : Valve) :
    Only [.fac, .fsc, .rgm, .lvm, .groups, .sticky] s (clearFaultsOf s v) := by
  unfold clearFaultsOf
  dsimp only
  refine Only.trans (.of (clearLevel_only s v true) rfl) ?_
  split
  · exact .refl _ _
  · split
    · exact (State.createItem_only _ _ _).of rfl
    · exact .refl _ _

theorem clearAllFaults_only (s : State) :
    Only [.fac, .fsc, .rgm, .lvm, .groups, .sticky] s (clearAllFaults s) := by
  exact Only.foldl _ clearFaultsOf_only _ _

theorem clearLevelFaults_only (s : State) (valve : Byte) :
    Only [.fac, .fsc, .rgm, .lvm, .groups, .sticky] s (clearLevelFaults s valve).1 := by
  unfold clearLevelFaults
  by_cases h : valve = 0#8
  · rw [if_pos h]
    dsimp only
    exact clearAllFaults_only s
  · rw [if_neg h]
    split
    · exact .refl _ _
    · exact clearFaultsOf_only s _

theorem testFire_only (s : State) (valve : Byte) : Only firingBlocks s (testFire s valve).1 := by
  unfold testFire
  split
  · exact .refl _ _
  · split
    · next h =>
      exact Only.trans (placeTest_only _ _ (by simpa [testAllowed] using ((Bool.and_eq_true _ _).mp h).2))
        (.of (groupEvent_only _ _ _) rfl)
    · exact .refl _ _

theorem resetTrip_only (s : State) (group : Byte) : Only groupBlocks s (resetTrip s group).1 := by
  unfold resetTrip
  split
  · exact .refl _ _
  · split
    · exact groupEvent_only _ _ _
    · exact .refl _ _

theorem ringRestartCommand_only (s : State) : Only cycleBlocks s (ringRestartCommand s).1 := by
  unfold ringRestartCommand
  split
  · exact ringRestart_only _
  · exact .refl _ _

/-- What a warm restart can touch: the timebase, the Level Monitor, the tables and the waiting
commands stay. -/
abbrev restartBlocks : List Block := [.pru, .plan, .fac, .fsc, .rgm, .exm, .groups, .sticky]

theorem restartGroup_only (s : State) (g : Group) : Only [.groups] s (restartGroup s g) := by
  exact Only.trans (s.setGroup_only g _) (State.setGroup_only _ g _)

theorem warmRestart_only (s : State) : Only restartBlocks s (warmRestart s) := by
  have h (s : State) : Only [.fsc] s (clearMisses s) := s.setFsc_only _ (.refl _)
  exact Only.trans (.of (restartPru_only s) rfl) (Only.trans (.of (restartFac_only _) rfl)
    (Only.trans (.of (restartFsc_only _) rfl) (Only.trans (.of (restartExm_only _) rfl)
      (Only.trans (.of (ringRestart_only _) rfl) (Only.trans (.of (h _) rfl)
        (Only.trans (.of (restartGroup_only _ 0) rfl) (.of (restartGroup_only _ 1) rfl)))))))

theorem warmRestartCommand_only (s : State) :
    Only restartBlocks s (warmRestartCommand s).1 := by
  unfold warmRestartCommand
  split
  · exact warmRestart_only _
  · exact .refl _ _

end Sys2Proof.Machine
end

