-- ==== Sys2Proof/Laws/Commands.lean ====
section
/-! SUPPORT. What each command can touch, and that every command has a next state. -/

namespace Sys2Proof.Machine

/-- An armed instant's event touches what the event touches. -/
theorem takeIf_only {bs : List Block} (instant : State → Option Time) (event : State → State)
    (h : ∀ s, Only bs s (event s)) (t : Time) (s : State) :
    Only bs (s.at t) (takeIf instant event t s) := by
  unfold takeIf
  dsimp only
  split
  · exact h _
  · exact .refl _ _

theorem takeDeadline_only (v : Valve) (s : State) : Only firingBlocks s (takeDeadline v s) := by
  unfold takeDeadline
  split
  · exact .refl _ _
  · exact deadlineEvent_only _ _ _

theorem holdTimerEvent_only (g : Group) (s : State) : Only groupBlocks s (holdTimerEvent g s) := by
  exact Only.trans (.of (s.setGroup_only g _) rfl) (groupEvent_only _ _ _)

/-- A new set of sticky flags. -/
theorem State.setOlp_sticky (s : State) (x : BoolSet 16) :
    Only [.sticky, .clear] s (s.setOlp { s.olp with sticky := x }) := by
  constructor <;> intro h <;> first | exact absurd (by decide) h | rfl | exact .refl _

theorem clearFlags_only (s : State) (mask : BitVec 16) :
    Only [.sticky, .clear] s (clearFlags s mask) := by
  exact s.setOlp_sticky _

theorem clearCounters_only (s : State) :
    Only [.pru, .fac, .fsc, .rgm, .exm, .lvm, .count] s (clearCounters s) := by
  constructor <;> intro h <;> first | exact absurd (by decide) h | rfl | exact fun _ m => m | exact .refl _

/-- Every part of the state. -/
abbrev everything : List Block :=
  [.now, .pru, .plan, .fac, .fsc, .rgm, .exm, .lvm, .groups, .sticky, .clear, .order, .queue,
    .count, .tbs, .pending]

/-- The parts a command can touch, beside the timebase. -/
def touches : Instr → List Block
  | .powerUp => everything
  | .comparatorEdge _ _ _ => phaseBlocks
  | .captureWatch _ => lockBlocks
  | .cycleMarker _ => phaseBlocks
  | .planningInstant _ _ => planBlocks
  | .ringCycleStart _ => cycleBlocks
  | .ringFrameReturn _ _ _ => returnBlocks
  | .latenessInstant _ _ => [.fsc]
  | .confirmInstant _ _ => firingBlocks
  | .holdInstant _ _ => [.fsc]
  | .releaseTimeout _ _ => firingBlocks
  | .deadlineInstant _ _ => firingBlocks
  | .bypassHoldTimer _ _ => groupBlocks
  | .linkFrameDropped _ _ => [.count]
  | .unknownFrame _ _ _ _ => [.queue, .count]
  | .order _ _ _ => orderBlocks
  | .orderWatchdog _ => .order :: groupBlocks
  | .holdTimer _ => .order :: groupBlocks
  | .transmitEnd _ => [.queue]
  | .tableWrite _ _ _ _ _ => [.queue, .count, .tbs]
  | .tableCommit _ _ _ => .queue :: .count :: commitBlocks
  | .tableDiscard _ _ _ => [.queue, .count, .tbs]
  | .tableRow _ _ _ _ _ => [.queue, .count]
  | .valveRecord _ _ _ => [.queue, .count]
  | .levelSet _ _ _ => [.queue, .count]
  | .stationRecord _ _ _ => [.queue, .count]
  | .schedule _ _ _ => [.queue, .count]
  | .captureHistory _ _ => [.queue, .count]
  | .counters _ _ => [.queue, .count]
  | .ringStats _ _ => [.queue, .count]
  | .clearFlags _ _ _ => [.queue, .count, .sticky, .clear]
  | .clearCounters _ _ => [.queue, .count, .pru, .fac, .fsc, .rgm, .exm, .lvm]
  | .clearRingStats _ _ => [.queue, .count, .rgm]
  | .clearLevelFaults _ _ _ => [.queue, .count, .fac, .fsc, .rgm, .lvm, .groups, .sticky]
  | .testFire _ _ _ => .queue :: .count :: firingBlocks
  | .resetTrip _ _ _ => .queue :: .count :: groupBlocks
  | .ringRestart _ _ => .queue :: .count :: cycleBlocks
  | .warmRestart _ _ => .queue :: .count :: restartBlocks

/-- Every command but power-up has a next state, which differs in the parts the command can touch at
most from the state before with the timebase at the command's time. -/
theorem exec_touches (c : Instr) (s : State) (time : Time) (h : c.time? = some time) :
    ∃ t, exec c s = .next t ∧ Only (touches c) (s.at time) t := by
  cases c with
  | powerUp => cases h
  | comparatorEdge t line rising =>
    cases h; exact ⟨_, rfl, takeEdge_only _ _ _⟩
  | captureWatch t =>
    cases h; exact ⟨_, rfl, takeIf_only _ _ watchEvent_only _ s⟩
  | cycleMarker t =>
    cases h; exact ⟨_, rfl, runMarkers_only _ _⟩
  | planningInstant t v =>
    cases h; exact ⟨_, rfl, takeIf_only _ _ (fun s => takePlanning_only s v) _ s⟩
  | ringCycleStart t =>
    cases h; exact ⟨_, rfl, takeIf_only _ _ startCycle_only _ s⟩
  | ringFrameReturn t input bytes =>
    cases h; exact ⟨_, rfl, takeArrival_only _ _ _⟩
  | latenessInstant t v =>
    cases h; exact ⟨_, rfl, takeInstant_only _ _ _ _ latenessEvent_only⟩
  | confirmInstant t v =>
    cases h; exact ⟨_, rfl, takeInstant_only _ _ _ _ confirmEvent_only⟩
  | holdInstant t v =>
    cases h; exact ⟨_, rfl, takeInstant_only _ _ _ _ holdEvent_only⟩
  | releaseTimeout t v =>
    cases h; exact ⟨_, rfl, takeInstant_only _ _ _ _ releaseTimeoutEvent_only⟩
  | deadlineInstant t v =>
    cases h; exact ⟨_, rfl, takeIf_only _ _ (takeDeadline_only v) _ s⟩
  | bypassHoldTimer t g =>
    cases h; exact ⟨_, rfl, takeIf_only _ _ (holdTimerEvent_only g) _ s⟩
  | linkFrameDropped t cause =>
    cases h; exact ⟨_, rfl, State.countLinkCrc_only _⟩
  | unknownFrame t type seq payload =>
    cases h; exact ⟨_, rfl, takeUnknown_only _ _ _ _⟩
  | order t seq payload =>
    cases h; exact ⟨_, rfl, takeOrder_only _ _ _⟩
  | orderWatchdog t =>
    cases h; exact ⟨_, rfl, takeIf_only _ _ watchdogExpired_only _ s⟩
  | holdTimer t =>
    cases h; exact ⟨_, rfl, takeIf_only _ _ holdExpired_only _ s⟩
  | transmitEnd t =>
    cases h; exact ⟨_, rfl, takeIf_only _ _ endSending_only _ s⟩
  | tableWrite t seq table row contents =>
    cases h; exact ⟨_, rfl, request_only _ _ _ _ (writeTable_only _ _ _ _)⟩
  | tableCommit t seq table =>
    cases h; exact ⟨_, rfl, request_only _ _ _ _ (commitTable_only _ _)⟩
  | tableDiscard t seq table =>
    cases h; exact ⟨_, rfl, request_only _ _ _ _ (discardTable_only _ _)⟩
  | tableRow t seq table row selector =>
    cases h; exact ⟨_, rfl, query_only _ _ _⟩
  | valveRecord t seq valve =>
    cases h; exact ⟨_, rfl, query_only _ _ _⟩
  | levelSet t seq valve =>
    cases h; exact ⟨_, rfl, query_only _ _ _⟩
  | stationRecord t seq position =>
    cases h; exact ⟨_, rfl, query_only _ _ _⟩
  | schedule t seq offset =>
    cases h; exact ⟨_, rfl, query_only _ _ _⟩
  | captureHistory t seq =>
    cases h; exact ⟨_, rfl, query_only _ _ _⟩
  | counters t seq =>
    cases h; exact ⟨_, rfl, query_only _ _ _⟩
  | ringStats t seq =>
    cases h; exact ⟨_, rfl, query_only _ _ _⟩
  | clearFlags t seq mask =>
    cases h; exact ⟨_, rfl, request_only _ _ _ _ (clearFlags_only _ _)⟩
  | clearCounters t seq =>
    cases h; exact ⟨_, rfl, (request_only _ _ _ _ (clearCounters_only _)).of rfl⟩
  | clearRingStats t seq =>
    cases h; exact ⟨_, rfl, request_only _ _ _ _ (State.setRgm_only _ _)⟩
  | clearLevelFaults t seq valve =>
    cases h; exact ⟨_, rfl, request_only _ _ _ _ (clearLevelFaults_only _ _)⟩
  | testFire t seq valve =>
    cases h; exact ⟨_, rfl, request_only _ _ _ _ (testFire_only _ _)⟩
  | resetTrip t seq group =>
    cases h; exact ⟨_, rfl, request_only _ _ _ _ (resetTrip_only _ _)⟩
  | ringRestart t seq =>
    cases h; exact ⟨_, rfl, request_only _ _ _ _ (ringRestartCommand_only _)⟩
  | warmRestart t seq =>
    cases h; exact ⟨_, rfl, request_only _ _ _ _ (warmRestartCommand_only _)⟩

/-- A commit changes the live records under the tables as they are after it. -/
theorem takeCommit_moves (s : State) (id : TableId) :
    Moves (takeCommit s id).tbs.limits s.fsc.records (takeCommit s id).fsc.records := by
  have h : Only [.pru, .plan, .fac, .fsc, .rgm, .exm, .lvm, .groups, .sticky] (noteCommit s id)
      (takeCommit s id) :=
    Only.trans (.of (commitEffects_only _ id) rfl) (.of (bothGroups_only _ _) rfl)
  have m := h.moves (by decide)
  rw [← h.tbs (by decide)] at m
  exact m

theorem commitTable_moves (s : State) (table : Byte) :
    Moves (commitTable s table).1.tbs.limits s.fsc.records (commitTable s table).1.fsc.records := by
  unfold commitTable
  split
  · exact .refl _
  · split
    · exact .refl _
    · split
      · exact .refl _
      · split
        · exact .refl _
        · exact takeCommit_moves _ _

/-- Every command but power-up changes the live records by moves, under the Limits Table as it is
after the command. -/
theorem exec_moves (c : Instr) (s t : State) (h : exec c s = .next t) (up : c ≠ .powerUp) :
    Moves t.tbs.limits s.fsc.records t.fsc.records := by
  cases time : c.time? with
  | none => cases c <;> first | exact absurd rfl up | cases time
  | some n =>
    obtain ⟨t', run, only⟩ := exec_touches c s n time
    cases h.symm.trans run
    by_cases tables : Block.tbs ∈ touches c
    · by_cases records : Block.fsc ∈ touches c
      · cases c with
        | powerUp => exact absurd rfl up
        | tableCommit m seq table =>
          cases time
          cases h
          unfold request
          split
          · exact .refl _
          · dsimp only
            rw [(enqueue_only _ _).tbs (by decide), (enqueue_only _ _).fsc (by decide)]
            exact commitTable_moves (s.at n) table
        | _ => simp [touches] at tables records
      · rw [only.fsc records]; exact .refl _
    · have m := only.moves tables
      rw [← only.tbs tables] at m
      exact m

end Sys2Proof.Machine
end

