-- ==== Sys2Proof/Laws/PerInstr.lean ====
section
/-! SUPPORT. A law of each command as syntax: a frame written for it fits the Order Link, and reads
back as the command. -/

namespace Sys2Proof.Laws

open Sys2Proof.Machine

/-- The frame that spells a well-formed command has a payload that fits, and its type and payload
spell the command (R159, R160, Tables 12-2, 12-5, 12-6). -/
def Framed.Statement (i : Instr) : Prop :=
  ∀ t type seq p, i.wf = true → frameOf i = some (type, seq, p) → i.time? = some t →
    p.length ≤ Config.maxPayload ∧ ofFrame t type seq p = i

theorem beBytes_two (m : BitVec 16) : BitVec.ofNat 16 (beNat (beBytes 2 m.toNat)) = m := by
  apply BitVec.eq_of_toNat_eq
  have := m.isLt
  simp only [beBytes, beNat, List.nil_append, List.cons_append, List.foldl, BitVec.toNat_ofNat]
  omega

theorem Framed.powerUp :
    Framed.Statement (.powerUp) :=
  fun _ _ _ _ _ frame _ => by cases frame

theorem Framed.comparatorEdge (t : Time) (line : Line) (rising : Bool) :
    Framed.Statement (.comparatorEdge t line rising) :=
  fun _ _ _ _ _ frame _ => by cases frame

theorem Framed.captureWatch (t : Time) :
    Framed.Statement (.captureWatch t) :=
  fun _ _ _ _ _ frame _ => by cases frame

theorem Framed.cycleMarker (t : Time) :
    Framed.Statement (.cycleMarker t) :=
  fun _ _ _ _ _ frame _ => by cases frame

theorem Framed.planningInstant (t : Time) (v : Valve) :
    Framed.Statement (.planningInstant t v) :=
  fun _ _ _ _ _ frame _ => by cases frame

theorem Framed.ringCycleStart (t : Time) :
    Framed.Statement (.ringCycleStart t) :=
  fun _ _ _ _ _ frame _ => by cases frame

theorem Framed.ringFrameReturn (t : Time) (input : Port) (bytes : List Byte) :
    Framed.Statement (.ringFrameReturn t input bytes) :=
  fun _ _ _ _ _ frame _ => by cases frame

theorem Framed.latenessInstant (t : Time) (v : Valve) :
    Framed.Statement (.latenessInstant t v) :=
  fun _ _ _ _ _ frame _ => by cases frame

theorem Framed.confirmInstant (t : Time) (v : Valve) :
    Framed.Statement (.confirmInstant t v) :=
  fun _ _ _ _ _ frame _ => by cases frame

theorem Framed.holdInstant (t : Time) (v : Valve) :
    Framed.Statement (.holdInstant t v) :=
  fun _ _ _ _ _ frame _ => by cases frame

theorem Framed.releaseTimeout (t : Time) (v : Valve) :
    Framed.Statement (.releaseTimeout t v) :=
  fun _ _ _ _ _ frame _ => by cases frame

theorem Framed.deadlineInstant (t : Time) (v : Valve) :
    Framed.Statement (.deadlineInstant t v) :=
  fun _ _ _ _ _ frame _ => by cases frame

theorem Framed.bypassHoldTimer (t : Time) (g : Group) :
    Framed.Statement (.bypassHoldTimer t g) :=
  fun _ _ _ _ _ frame _ => by cases frame

theorem Framed.linkFrameDropped (t : Time) (cause : DropCause) :
    Framed.Statement (.linkFrameDropped t cause) :=
  fun _ _ _ _ _ frame _ => by cases frame

theorem Framed.unknownFrame (t : Time) (type seq : Byte) (payload : List Byte) :
    Framed.Statement (.unknownFrame t type seq payload) := by
  intro _ _ _ _ wf frame time
  cases frame
  cases time
  simp only [Instr.wf, payloadFits, Bool.and_eq_true, decide_eq_true_eq, Bool.not_eq_true'] at wf
  exact ⟨wf.1.1, by simp [ofFrame, wf.1.2, wf.2]⟩

theorem Framed.order (t : Time) (seq : Byte) (payload : List Byte) :
    Framed.Statement (.order t seq payload) := by
  intro _ _ _ _ wf frame time
  cases frame
  cases time
  exact ⟨of_decide_eq_true wf, rfl⟩

theorem Framed.orderWatchdog (t : Time) :
    Framed.Statement (.orderWatchdog t) :=
  fun _ _ _ _ _ frame _ => by cases frame

theorem Framed.holdTimer (t : Time) :
    Framed.Statement (.holdTimer t) :=
  fun _ _ _ _ _ frame _ => by cases frame

theorem Framed.transmitEnd (t : Time) :
    Framed.Statement (.transmitEnd t) :=
  fun _ _ _ _ _ frame _ => by cases frame

theorem Framed.tableWrite (t : Time) (seq table row : Byte) (contents : List Byte) :
    Framed.Statement (.tableWrite t seq table row contents) := by
  intro _ _ _ _ wf frame time
  cases frame
  cases time
  simp only [Instr.wf, payloadFits, Bool.and_eq_true, decide_eq_true_eq] at wf
  exact ⟨wf.1, by simp [ofFrame, wf.2]⟩

theorem Framed.tableCommit (t : Time) (seq table : Byte) :
    Framed.Statement (.tableCommit t seq table) := by
  intro _ _ _ _ _ frame time
  cases frame
  cases time
  exact ⟨by simp [Config.maxPayload], rfl⟩

theorem Framed.tableDiscard (t : Time) (seq table : Byte) :
    Framed.Statement (.tableDiscard t seq table) := by
  intro _ _ _ _ _ frame time
  cases frame
  cases time
  exact ⟨by simp [Config.maxPayload], rfl⟩

theorem Framed.tableRow (t : Time) (seq table row selector : Byte) :
    Framed.Statement (.tableRow t seq table row selector) := by
  intro _ _ _ _ _ frame time
  cases frame
  cases time
  exact ⟨by simp [Config.maxPayload], rfl⟩

theorem Framed.valveRecord (t : Time) (seq valve : Byte) :
    Framed.Statement (.valveRecord t seq valve) := by
  intro _ _ _ _ _ frame time
  cases frame
  cases time
  exact ⟨by simp [Config.maxPayload], rfl⟩

theorem Framed.levelSet (t : Time) (seq valve : Byte) :
    Framed.Statement (.levelSet t seq valve) := by
  intro _ _ _ _ _ frame time
  cases frame
  cases time
  exact ⟨by simp [Config.maxPayload], rfl⟩

theorem Framed.stationRecord (t : Time) (seq position : Byte) :
    Framed.Statement (.stationRecord t seq position) := by
  intro _ _ _ _ _ frame time
  cases frame
  cases time
  exact ⟨by simp [Config.maxPayload], rfl⟩

theorem Framed.schedule (t : Time) (seq offset : Byte) :
    Framed.Statement (.schedule t seq offset) := by
  intro _ _ _ _ _ frame time
  cases frame
  cases time
  exact ⟨by simp [Config.maxPayload], rfl⟩

theorem Framed.captureHistory (t : Time) (seq : Byte) :
    Framed.Statement (.captureHistory t seq) := by
  intro _ _ _ _ _ frame time
  cases frame
  cases time
  exact ⟨by simp [Config.maxPayload], rfl⟩

theorem Framed.counters (t : Time) (seq : Byte) :
    Framed.Statement (.counters t seq) := by
  intro _ _ _ _ _ frame time
  cases frame
  cases time
  exact ⟨by simp [Config.maxPayload], rfl⟩

theorem Framed.ringStats (t : Time) (seq : Byte) :
    Framed.Statement (.ringStats t seq) := by
  intro _ _ _ _ _ frame time
  cases frame
  cases time
  exact ⟨by simp [Config.maxPayload], rfl⟩

theorem Framed.clearFlags (t : Time) (seq : Byte) (mask : BitVec 16) :
    Framed.Statement (.clearFlags t seq mask) := by
  intro _ _ _ _ _ frame time
  cases frame
  cases time
  refine ⟨by simp [Config.maxPayload], ?_⟩
  have back : BitVec.ofNat 16 (beNat ((beBytes 2 mask.toNat).take 2)) = mask := by
    rw [List.take_of_length_le (by simp)]
    exact beBytes_two mask
  simp [ofFrame, lengthOk, commandOf, back]

theorem Framed.clearCounters (t : Time) (seq : Byte) :
    Framed.Statement (.clearCounters t seq) := by
  intro _ _ _ _ _ frame time
  cases frame
  cases time
  exact ⟨by simp [Config.maxPayload], rfl⟩

theorem Framed.clearRingStats (t : Time) (seq : Byte) :
    Framed.Statement (.clearRingStats t seq) := by
  intro _ _ _ _ _ frame time
  cases frame
  cases time
  exact ⟨by simp [Config.maxPayload], rfl⟩

theorem Framed.clearLevelFaults (t : Time) (seq valve : Byte) :
    Framed.Statement (.clearLevelFaults t seq valve) := by
  intro _ _ _ _ _ frame time
  cases frame
  cases time
  exact ⟨by simp [Config.maxPayload], rfl⟩

theorem Framed.testFire (t : Time) (seq valve : Byte) :
    Framed.Statement (.testFire t seq valve) := by
  intro _ _ _ _ _ frame time
  cases frame
  cases time
  exact ⟨by simp [Config.maxPayload], rfl⟩

theorem Framed.resetTrip (t : Time) (seq group : Byte) :
    Framed.Statement (.resetTrip t seq group) := by
  intro _ _ _ _ _ frame time
  cases frame
  cases time
  exact ⟨by simp [Config.maxPayload], rfl⟩

theorem Framed.ringRestart (t : Time) (seq : Byte) :
    Framed.Statement (.ringRestart t seq) := by
  intro _ _ _ _ _ frame time
  cases frame
  cases time
  exact ⟨by simp [Config.maxPayload], rfl⟩

theorem Framed.warmRestart (t : Time) (seq : Byte) :
    Framed.Statement (.warmRestart t seq) := by
  intro _ _ _ _ _ frame time
  cases frame
  cases time
  exact ⟨by simp [Config.maxPayload], rfl⟩

end Sys2Proof.Laws
end

