-- ==== Sys2Proof/Laws/Records.lean ====
section
/-! SUPPORT. What the moves of the Fire Schedule keep: the bound per valve, the leg of a bridge, the
sequence numbers of a valve and the angles. -/

namespace Sys2Proof.Machine

/-- A list of live records in which every valve keeps its bound (R57). -/
def Bounded (l : List FireRecord) : Prop :=
  ∀ v, (l.filter fun r => decide (r.valve = v)).length ≤ Config.recordsPerValve

/-- A list in which the BYPASS records of a bridge lie in one leg (R71). -/
def OneLeg (l : List FireRecord) : Prop :=
  ∀ x ∈ l, ∀ y ∈ l, x.isBypass = true → y.isBypass = true →
    valveBridge x.valve = valveBridge y.valve → valveLeg x.valve = valveLeg y.valve

/-- A list in which the numbers of a valve's records differ (R57, R60). -/
def Numbered (l : List FireRecord) : Prop :=
  ∀ v, ((l.filter fun r => decide (r.valve = v)).filterMap FireRecord.seq).Nodup

/-- A list in which every NORMAL record keeps its angle between its α limits (R50). -/
def Angled (l : List FireRecord) : Prop :=
  ∀ r ∈ l, ∀ n, r.body = .normal n → n.inputs.alphaMin ≤ n.inputs.alphaMax → angleHeld n

/-- What a replaced record keeps, the list keeps at every place. -/
theorem map_replaceFirst {α : Type} (f : FireRecord → α) (r r' : FireRecord) (h : f r' = f r)
    (l : List FireRecord) : (replaceFirst r r' l).map f = l.map f := by
  induction l with
  | nil => rfl
  | cons x xs ih =>
    simp only [replaceFirst]
    split
    · next e => simp [e, h]
    · simp [ih]

theorem valve_count (l : List FireRecord) (v : Valve) :
    (l.filter fun r => decide (r.valve = v)).length = (l.map FireRecord.valve).count v := by
  induction l with
  | nil => rfl
  | cons x xs ih =>
    by_cases h : x.valve = v
    · simp [h, ih]
    · simp [h, ih]

theorem Bounded.of_map {l l' : List FireRecord} (h : Bounded l)
    (e : l'.map FireRecord.valve = l.map FireRecord.valve) : Bounded l' := by
  intro v
  rw [valve_count, e, ← valve_count]
  exact h v

theorem Bounded.of_perm {l l' : List FireRecord} (h : Bounded l) (p : List.Perm l' l) :
    Bounded l' := by
  intro v
  rw [valve_count, (p.map _).count_eq, ← valve_count]
  exact h v

theorem Moves.bounded {lt : LimitsTable} {l l' : List FireRecord} (m : Moves lt l l')
    (h : Bounded l) : Bounded l' := by
  induction m with
  | refl l => exact h
  | trans _ _ ih ih' => exact ih' (ih h)
  | drop r l => exact fun v => (List.erase_sublist.filter _).length_le.trans (h v)
  | put r r' l same => exact h.of_map (map_replaceFirst _ r r' same.valve l)
  | number r r' l n valve => exact h.of_map (map_replaceFirst _ r r' valve l)
  | move r r' l mem rev =>
    refine (h.of_perm (List.perm_cons_erase mem).symm).of_map (l := r :: l.erase r) ?_ |>.of_perm
      (insertBy_perm _ _ _)
    simp [rev.valve]
  | map f l same => exact h.of_map (by simp [Function.comp_def, (same _).valve])
  | add r l place =>
    refine Bounded.of_perm (l := r :: l) (fun v => ?_) (insertBy_perm _ _ _)
    by_cases e : r.valve = v
    · subst e
      have := place.room
      simp only [List.filter_cons, decide_true, if_true, List.length_cons]
      omega
    · simpa [List.filter_cons, e] using h v
  | clear l => exact fun v => by simp

/-- What a replaced record keeps, every record of the list keeps. -/
theorem mem_replaceFirst_of {r r' x : FireRecord} {l : List FireRecord}
    (h : x ∈ replaceFirst r r' l) : (x = r' ∧ r ∈ l) ∨ x ∈ l := by
  induction l with
  | nil => simp [replaceFirst] at h
  | cons y ys ih =>
    simp only [replaceFirst] at h
    split at h
    · next e =>
      rcases List.mem_cons.mp h with h | h
      · exact .inl ⟨h, e ▸ List.mem_cons_self⟩
      · exact .inr (List.mem_cons_of_mem _ h)
    · rcases List.mem_cons.mp h with h | h
      · exact .inr (h ▸ List.mem_cons_self)
      · rcases ih h with ⟨h, m⟩ | h
        · exact .inl ⟨h, List.mem_cons_of_mem _ m⟩
        · exact .inr (List.mem_cons_of_mem _ h)

theorem Angled.of_bodies {l l' : List FireRecord} (h : Angled l)
    (e : ∀ x ∈ l', ∃ y ∈ l, x.body = y.body) : Angled l' := by
  intro x mx n body
  obtain ⟨y, my, same⟩ := e x mx
  exact h y my n (same ▸ body)

theorem Moves.angled {lt : LimitsTable} {l l' : List FireRecord} (m : Moves lt l l')
    (h : Angled l) : Angled l' := by
  induction m with
  | refl l => exact h
  | trans _ _ ih ih' => exact ih' (ih h)
  | drop r l => exact h.of_bodies fun x mx => ⟨x, List.mem_of_mem_erase mx, rfl⟩
  | put r r' l same =>
    refine h.of_bodies fun x mx => ?_
    rcases mem_replaceFirst_of mx with ⟨rfl, m⟩ | m
    · exact ⟨r, m, same.body⟩
    · exact ⟨x, m, rfl⟩
  | number r r' l n valve body =>
    refine h.of_bodies fun x mx => ?_
    rcases mem_replaceFirst_of mx with ⟨rfl, m⟩ | m
    · exact ⟨r, m, body⟩
    · exact ⟨x, m, rfl⟩
  | move r r' l mem rev =>
    intro x mx n body
    rcases (mem_insertBy _ _ _ _).mp mx with rfl | mx
    · obtain ⟨n', _, a, body', range⟩ := rev.normal
      rw [body'] at body
      cases body
      exact range
    · exact h x (List.mem_of_mem_erase mx) n body
  | map f l same =>
    refine h.of_bodies fun x mx => ?_
    obtain ⟨y, my, rfl⟩ := List.mem_map.mp mx
    exact ⟨y, my, (same y).body⟩
  | add r l place =>
    intro x mx n body
    rcases (mem_insertBy _ _ _ _).mp mx with rfl | mx
    · obtain ⟨lo, hi, range⟩ := place.angle n body
      rw [lo, hi]
      exact range
    · exact h x mx n body
  | clear l => exact fun x mx => by simp at mx

theorem isBypass_of_body {r r' : FireRecord} (h : r'.body = r.body) : r'.isBypass = r.isBypass := by
  simp [FireRecord.isBypass, h]

theorem OneLeg.of_same {l l' : List FireRecord} (h : OneLeg l)
    (e : ∀ x ∈ l', x.isBypass = true → ∃ y ∈ l, y.isBypass = true ∧ y.valve = x.valve) :
    OneLeg l' := by
  intro x mx y my bx by_ br
  obtain ⟨x', mx', bx', vx⟩ := e x mx bx
  obtain ⟨y', my', by', vy⟩ := e y my by_
  rw [← vx, ← vy]
  exact h x' mx' y' my' bx' by' (by rw [vx, vy]; exact br)

theorem Moves.oneLeg {lt : LimitsTable} {l l' : List FireRecord} (m : Moves lt l l')
    (h : OneLeg l) : OneLeg l' := by
  induction m with
  | refl l => exact h
  | trans _ _ ih ih' => exact ih' (ih h)
  | drop r l => exact h.of_same fun x mx bx => ⟨x, List.mem_of_mem_erase mx, bx, rfl⟩
  | put r r' l same =>
    refine h.of_same fun x mx bx => ?_
    rcases mem_replaceFirst_of mx with ⟨rfl, m⟩ | m
    · exact ⟨r, m, isBypass_of_body same.body ▸ bx, same.valve.symm⟩
    · exact ⟨x, m, bx, rfl⟩
  | number r r' l n valve body =>
    refine h.of_same fun x mx bx => ?_
    rcases mem_replaceFirst_of mx with ⟨rfl, m⟩ | m
    · exact ⟨r, m, isBypass_of_body body ▸ bx, valve.symm⟩
    · exact ⟨x, m, bx, rfl⟩
  | move r r' l mem rev =>
    refine h.of_same fun x mx bx => ?_
    rcases (mem_insertBy _ _ _ _).mp mx with rfl | mx
    · obtain ⟨n', _, a, body', _⟩ := rev.normal
      simp [FireRecord.isBypass, body'] at bx
    · exact ⟨x, List.mem_of_mem_erase mx, bx, rfl⟩
  | map f l same =>
    refine h.of_same fun x mx bx => ?_
    obtain ⟨y, my, rfl⟩ := List.mem_map.mp mx
    exact ⟨y, my, isBypass_of_body (same y).body ▸ bx, (same y).valve.symm⟩
  | add r l place =>
    intro x mx y my bx by_ br
    rcases (mem_insertBy _ _ _ _).mp mx with rfl | mx' <;>
      rcases (mem_insertBy _ _ _ _).mp my with rfl | my'
    · rfl
    · exact (place.leg bx y my' by_ br.symm).symm
    · exact place.leg by_ x mx' bx br
    · exact h x mx' y my' bx by_ br
  | clear l => exact fun x mx => by simp at mx

/-! ## Sequence numbers -/

/-- The sequence numbers of a valve's records. -/
def numbersOf (l : List FireRecord) (v : Valve) : List Byte :=
  (l.filter fun r => decide (r.valve = v)).filterMap FireRecord.seq

theorem numbersOf_perm {l l' : List FireRecord} (p : List.Perm l l') (v : Valve) :
    List.Perm (numbersOf l v) (numbersOf l' v) := (p.filter _).filterMap _

theorem numbersOf_map (l l' : List FireRecord) (v : Valve)
    (e : l'.map (fun r => (r.valve, r.seq)) = l.map fun r => (r.valve, r.seq)) :
    numbersOf l' v = numbersOf l v := by
  have key : ∀ l : List FireRecord, numbersOf l v =
      ((l.map fun r => (r.valve, r.seq)).filter fun x => decide (x.1 = v)).filterMap Prod.snd := by
    intro l
    induction l with
    | nil => rfl
    | cons x xs ih =>
      simp only [numbersOf, List.map_cons, List.filter_cons] at ih ⊢
      by_cases h : x.valve = v
      · simp [h, List.filterMap_cons, ih]
      · simp [h, ih]
  rw [key, key, e]

/-- A record that gets its number: the numbers of its valve gain the number given. -/
theorem numbersOf_number (r r' : FireRecord) (v : Valve) (valve : r'.valve = r.valve)
    (old : r.seq = none) (q : Byte) (new : r'.seq = some q) (l : List FireRecord) :
    List.Perm (numbersOf (replaceFirst r r' l) v) (numbersOf l v) ∨
      (r.valve = v ∧ r ∈ l ∧ List.Perm (numbersOf (replaceFirst r r' l) v) (q :: numbersOf l v)) := by
  induction l with
  | nil => exact .inl (.refl _)
  | cons x xs ih =>
    simp only [replaceFirst]
    split
    · next e =>
      subst e
      by_cases h : x.valve = v
      · exact .inr ⟨h, List.mem_cons_self, by simp [numbersOf, valve, h, old, new]⟩
      · exact .inl (by simp [numbersOf, valve, h])
    · have step : ∀ ys : List FireRecord, numbersOf (x :: ys) v =
          (if x.valve = v then x.seq.toList else []) ++ numbersOf ys v := by
        intro ys
        by_cases h : x.valve = v
        · cases e : x.seq <;> simp [numbersOf, h, e]
        · simp [numbersOf, h]
      rw [step, step]
      rcases ih with p | ⟨a, b, p⟩
      · exact .inl (p.append_left _)
      · exact .inr ⟨a, List.mem_cons_of_mem _ b, (p.append_left _).trans List.perm_middle⟩

theorem mem_numbersOf {l : List FireRecord} {v : Valve} {q : Byte} :
    q ∈ numbersOf l v ↔ ∃ x ∈ l, x.valve = v ∧ x.seq = some q := by
  simp [numbersOf, and_assoc]

/-- The number given at a first dispatch is no number of the valve's other record (R60). -/
theorem numberGiven_new (l : List FireRecord) (r : FireRecord) (n : Byte) (h : Bounded l)
    (mem : r ∈ l) (none : r.seq = none) : numberGiven l r.valve n ∉ numbersOf l r.valve := by
  intro used
  have one : (numbersOf l r.valve).length ≤ 1 := by
    have p := numbersOf_perm (List.perm_cons_erase mem) r.valve
    have b := h.of_perm (List.perm_cons_erase mem).symm r.valve
    simp only [List.filter_cons, decide_true, if_true, List.length_cons, Config.recordsPerValve] at b
    rw [p.length_eq]
    have : (numbersOf (r :: l.erase r) r.valve).length ≤
        ((l.erase r).filter fun x => decide (x.valve = r.valve)).length := by
      simp only [numbersOf, List.filter_cons, decide_true, if_true]
      rw [List.filterMap_cons, none]
      exact List.length_filterMap_le _ _
    omega
  unfold numberGiven at used
  split at used
  · next e =>
    have given : n ∈ numbersOf l r.valve := by
      simp only [List.any_eq_true, List.mem_filter, decide_eq_true_eq] at e
      obtain ⟨x, ⟨mx, vx⟩, sx⟩ := e
      exact mem_numbersOf.mpr ⟨x, mx, vx, sx⟩
    match numbersOf l r.valve, one, given, used with
    | [y], _, g, u =>
      simp only [List.mem_singleton] at g u
      rw [← g] at u
      bv_omega
  · next e =>
    obtain ⟨x, mx, vx, sx⟩ := mem_numbersOf.mp used
    apply e
    simp only [List.any_eq_true, List.mem_filter, decide_eq_true_eq]
    exact ⟨x, ⟨mx, vx⟩, sx⟩

theorem Moves.numbered {lt : LimitsTable} {l l' : List FireRecord} (m : Moves lt l l')
    (b : Bounded l) (h : Numbered l) : Numbered l' := by
  induction m with
  | refl l => exact h
  | trans m _ ih ih' => exact ih' (m.bounded b) (ih b h)
  | drop r l => exact fun v => (h v).sublist ((List.erase_sublist.filter _).filterMap _)
  | put r r' l same =>
    intro v
    have := numbersOf_map l (replaceFirst r r' l) v
      (map_replaceFirst _ r r' (by rw [same.valve, same.seq]) l)
    unfold numbersOf at this
    rw [this]
    exact h v
  | number r r' l n valve body old new =>
    intro v
    rcases numbersOf_number r r' v valve old _ new l with p | ⟨rfl, mem, p⟩
    · exact p.nodup_iff.mpr (h v)
    · exact p.nodup_iff.mpr (List.nodup_cons.mpr ⟨numberGiven_new l r n b mem old, h _⟩)
  | move r r' l mem rev =>
    intro v
    have p : List.Perm (numbersOf (insertBy schedBefore r' (l.erase r)) v) (numbersOf l v) := by
      refine (numbersOf_perm (insertBy_perm _ _ _) v).trans ?_
      rw [numbersOf_map (r :: l.erase r) (r' :: l.erase r) v (by simp [rev.valve, rev.seq])]
      exact numbersOf_perm (List.perm_cons_erase mem).symm v
    exact p.nodup_iff.mpr (h v)
  | map f l same =>
    intro v
    have := numbersOf_map l (l.map f) v
      (by simp [Function.comp_def, (same _).valve, (same _).seq])
    unfold numbersOf at this
    rw [this]
    exact h v
  | add r l place =>
    intro v
    have p := numbersOf_perm (insertBy_perm schedBefore r l) v
    refine p.nodup_iff.mpr ?_
    have : numbersOf (r :: l) v = numbersOf l v := by
      by_cases e : r.valve = v <;> simp [numbersOf, e, place.seq]
    rw [this]
    exact h v
  | clear l => exact fun v => by simp

end Sys2Proof.Machine
end

