-- ==== Sys2Proof/Tests/Slice0.lean ====
section
/-! SUPPORT. Tests: well-formedness, frames and words, the manual's worked examples one command at a
time, and a witness for the hypotheses of every statement that has any. -/

namespace Sys2Proof.Tests

open Sys2Proof Sys2Proof.Machine

-- One theorem after the other: kernel evaluations side by side exhaust the thread stacks.
set_option Elab.async false

/-! ## Small states -/

/-- The state that a command leaves. -/
def after (c : Instr) (s : State) : State :=
  match exec c s with
  | .next t => t
  | .fault _ => s
  | .refused _ => s

/-- The Fire Schedule's records after a command. -/
def recordsAfter (c : Instr) (s : State) : List FireRecord := (after c s).fsc.records

/-- A Station Table that maps position k to valve k, with 60 levels and path delays 500. -/
def plainTable : StationTable := Vector.ofFn fun p => ⟨p, 0#32, 60, 3, 500, 500⟩

/-- A station that is ENROLLED and STAMPED. -/
def enrolled : Station :=
  { Station.reset with state := .enrolled, timing := some .stamped, member := some .f }

/-- 02_phase_reference_unit.md, Tracking in LOCKED. -/
def tracking : State :=
  { State.reset with
    now := 1133000#32
    pru := { Pru.reset with
      lock := .locked, origin := 1000000#32
      marker := some 1800000#32, watch := some 1533000#32 } }

/-- A group that is in state `x`. -/
def groupIn (x : GroupState) : GroupRecord :=
  { GroupRecord.reset with state := x, inhibits := fill 6 false }

/-- `tracking` with every station ENROLLED, the ring FORWARD and G1 RUNNING: the state before the
worked planning of B1D-3 (03_firing_angle_calculator.md). -/
def running : State :=
  { tracking with
    fac := { Fac.reset with
      alphaLast := setAt (fill 2 none) 0 (some 14450)
      plannings := setAt (fill 24 none) 8 (some ⟨1266667#32, 1000000#32⟩) }
    rgm := { Rgm.reset with
      link := .forward, stations := fill 24 enrolled
      cycleNumber := 24#16, cycleAt := some 1640000#32, sendLatest := some 1638400#32 }
    exm := { Exm.reset with correction := setAt (fill 4 0) 1 100 }
    lvm := { Lvm.reset with levels := fill 24 { LevelRecord.reset with installed := 60, redundancy := 3 } }
    groups := setAt (fill 2 GroupRecord.reset) 0 (groupIn .running)
    olp := { Olp.reset with
      order := ⟨14600, 1100, 1000, fill 2 ⟨true, false, false⟩⟩
      ac := .ok, orderState := .ok, lastSeq := some 16#8, watchdog := some 50020000#32 }
    tbs := { Tbs.reset with station := some plainTable } }

/-- `running` with other live records. -/
def withRecords (rs : List FireRecord) : State := { running with fsc := { Fsc.reset with records := rs } }

/-- `running` with G1 in another state. -/
def inState (x : GroupState) : State := { running with groups := setAt running.groups 0 (groupIn x) }

/-- `State.reset` with other Order Link values. -/
def withOlp (o : Olp) : State := { State.reset with olp := o }

/-- The planning inputs of B1D-3 (03_firing_angle_calculator.md). -/
def inputs9 : PlanInputs :=
  ⟨14600, 1100, 2, 1690, 500, 16500, 200, 1700, some 14450, 1000000#32, 800000⟩

/-- The NORMAL record of B1D-3 (03_firing_angle_calculator.md). -/
def record9 : FireRecord :=
  newNormal RingTable.defaults 8 1655778#32 266667 ⟨1733333#32, 14510, inputs9⟩

/-- The record of B2Y-2 (04_fire_schedule.md, A LATE Record That Fires). -/
def record14 : FireRecord :=
  { newNormal RingTable.defaults 13 2000000#32 266667 ⟨2077778#32, 14510, inputs9⟩ with
    state := .dispatched, seq := some 7#8 }

/-- The record of B2Y-5 (04_fire_schedule.md, Cancel Against Fire). -/
def record17 : FireRecord :=
  { newNormal RingTable.defaults 16 3000000#32 266667 ⟨3077778#32, 14510, inputs9⟩ with
    state := .armed, seq := some 12#8 }

/-- A BYPASS record of B2Y-3 (04_fire_schedule.md, Bypass Entry and Release). -/
def bypass15 : FireRecord := { newBypass 14 5003700#32 with state := .armed, seq := some 3#8 }

/-- A return slot with its CRC. -/
def slot (bs : List Byte) : List Byte :=
  let bs := bs ++ List.replicate (28 - bs.length) 0#8
  bs ++ crcBytes bs

/-- A frame of cycle 24 with some marker, as it comes back with one slot filled. -/
def returnedBy (m : Marker) (p : Nat) (bs : List Byte) : List Byte :=
  let f : CycleFrame := ⟨m, 24#16, 1638400#32, [], []⟩
  f.header ++ crcBytes f.header ++
    ((List.replicate 24 emptySlotBytes).set (p - 1) (slot bs)).flatten

/-- The same in FORWARD. -/
def returned (p : Nat) (bs : List Byte) : List Byte := returnedBy .f p bs

/-- A forward cycle with nothing come back yet. -/
def cycle24 : RingCycle :=
  ⟨false, .forward, [⟨.f, 24#16, 1638400#32, [], []⟩], false, false, false, none,
    fill 24 false, fill 24 false⟩

/-- `s` with a cycle under way. -/
def underWay (s : State) : State := { s with rgm := { s.rgm with cycle := some cycle24 } }

/-! ## Well-formedness: one ill-formed command for each check -/

theorem test_wf_frameTooLong :
    (Instr.ringFrameReturn 0#32 .fIn (List.replicate 812 0#8)).wf = false := by decide +kernel

theorem test_wf_frameLongest :
    (Instr.ringFrameReturn 0#32 .fIn (List.replicate 811 0#8)).wf = true := by decide +kernel

theorem test_wf_unknownIsOrder : (Instr.unknownFrame 0#32 1#8 0#8 []).wf = false := by decide

theorem test_wf_unknownIsKnown : (Instr.unknownFrame 0#32 5#8 0#8 [1#8]).wf = false := by decide

theorem test_wf_unknownTooLong :
    (Instr.unknownFrame 0#32 9#8 0#8 (List.replicate 241 0#8)).wf = false := by decide +kernel

theorem test_wf_orderTooLong :
    (Instr.order 0#32 0#8 (List.replicate 241 0#8)).wf = false := by decide +kernel

theorem test_wf_writeWrongLength :
    (Instr.tableWrite 0#32 0#8 1#8 1#8 (List.replicate 30 0#8)).wf = false := by decide +kernel

theorem test_wf_writeTooLong :
    (Instr.tableWrite 0#32 0#8 9#8 1#8 (List.replicate 239 0#8)).wf = false := by decide +kernel

/-! ## Words, bytes and arithmetic -/

/-- The table gives no row any bits (log entry 5). -/
theorem test_noWordSpells : decodeTableWord 32 0 = none := rfl

/-- R183: the CRC over "123456789". -/
theorem test_crc : crc16 [0x31#8, 0x32#8, 0x33#8, 0x34#8, 0x35#8, 0x36#8, 0x37#8, 0x38#8, 0x39#8] =
    0x29B1#16 := by decide +kernel

/-- R5: the due time across the wrap; R6, Table 1-4. -/
theorem test_wrap : addTb 4294500000#32 655778 = 188482#32 ∧
    before 4294967000#32 1000#32 = true ∧ signedDiff 1000#32 4294967000#32 = -1296 ∧
    before 0#32 2147483648#32 = false ∧ atOrBefore 0#32 2147483648#32 = true := by decide +kernel

/-- R9, R10, R12: the worked conversions. -/
theorem test_conversions : angleToTb 29510 800000 = 655778 ∧ tbToAngle (-33333) 800000 = -1500 ∧
    roundDiv (-4 * 32) 256 = -1 ∧ angleToTb 500 800000 = 11111 ∧
    entryHold record9 = 16667 := by decide +kernel

/-- R11: the period limits at 60 Hz. -/
theorem test_periods : { ConverterTable.defaults with nominal := .hz60 }.periodMin = 586667 ∧
    { ConverterTable.defaults with nominal := .hz60 }.periodMax = 746667 := by decide +kernel

/-- Table 3-3: interpolation in default band 2 and on a falling segment. -/
theorem test_overlap : predictedOverlap OverlapTable.defaults[2] 1100 = 1690 ∧
    predictedOverlap OverlapTable.defaults[3] 2047 = 2220 ∧
    predictedOverlap (Vector.ofFn fun i => if i.val = 4 then 1300 else 1180) 600 = 1218 := by
  decide +kernel

/-- R4, R34: trimmed phases, and the instant of B1Y-1 for the next cycle. -/
theorem test_phases :
    phase { ConverterTable.defaults with trim := setAt (fill 4 0) 0 (-200) } 0 = 35800 ∧
    planningOf ConverterTable.defaults 1800000#32 800000 0 = ⟨2533333#32, 2600000#32⟩ := by
  decide +kernel

/-- 03, Floor and Low Voltage. -/
theorem test_floor :
    stages 12000 4500 16500 200 3200 4599 3000 3000 (some 6000) = ⟨true, true, 4500⟩ := by
  decide +kernel

/-- A QUERY of SCHEDULE with its bytes written out (Tables 12-1, 12-2, 12-6). -/
theorem test_receive_query :
    receiveFrame 9#32 ([7#8, 4#8, 2#8, 5#8, 14#8] ++ crcBytes [7#8, 4#8, 2#8, 5#8, 14#8]) =
      .schedule 9#32 4#8 14#8 := by decide +kernel

/-- A COMMAND CLEAR_FLAGS with its bytes written out, high byte of the mask first. -/
theorem test_receive_command :
    receiveFrame 9#32 ([8#8, 4#8, 3#8, 1#8, 2#8, 3#8] ++ crcBytes [8#8, 4#8, 3#8, 1#8, 2#8, 3#8]) =
      .clearFlags 9#32 4#8 0x0203#16 := by decide +kernel

/-- R159: the three causes of a drop. -/
theorem test_receive_dropped : receiveFrame 9#32 [1#8, 0#8, 241#8] = .linkFrameDropped 9#32 .length ∧
    receiveFrame 9#32 [1#8, 0#8, 8#8, 0#8] = .linkFrameDropped 9#32 .interrupted ∧
    receiveFrame 9#32 [5#8, 0#8, 1#8, 1#8, 0#8, 0#8] = .linkFrameDropped 9#32 .crc := by
  decide +kernel

/-- R160: STATUS is an unknown type inbound. -/
theorem test_receive_unknown :
    receiveFrame 9#32 ([2#8, 4#8, 0#8] ++ crcBytes [2#8, 4#8, 0#8]) =
      .unknownFrame 9#32 2#8 4#8 [] := by decide +kernel

/-- 10, A Full Queue: a frame of 180 payload bytes takes 1,488 tb. -/
theorem test_lineTime : lineTime (frameBytes 3#8 0#8 (List.replicate 180 0#8)) = 1488 := by
  decide +kernel

/-! ## Worked examples, one command each -/

/-- R32, R172. -/
theorem test_powerUp : (after .powerUp running).pru.lock = .unlocked ∧
    (after .powerUp running).pru.marker = none ∧ (after .powerUp running).tbs.station = none := by
  decide +kernel

/-- 02, Edge 1 of the acquisition. -/
theorem test_edge_first :
    (after (.comparatorEdge 5000000#32 .a false) State.reset).pru =
      { Pru.reset with
        lock := .acquiring, origin := 4600000#32
        marker := some 5400000#32, watch := some 5400000#32
        lastEdge := setAt (fill 3 none) 0 (some 5000000#32)
        history := [⟨3, 5000000#32, 0, .initial⟩] } := by decide +kernel

/-- 02, case (b): the edge comes before the marker. -/
theorem test_edge_beforeMarker :
    let s : State := { State.reset with
      pru := { Pru.reset with
        lock := .acquiring, origin := 4600206#32, period := 800007, acquisition := 2 } }
    let p := (after (.comparatorEdge 5400150#32 .a true) s).pru
    p.origin = 4600174#32 ∧ p.period = 800006 ∧ p.marker = some 5400180#32 ∧
      p.acquisition = 3 := by decide +kernel

/-- 02, Holdover: the watch at 10,400,000. -/
theorem test_watch :
    let s : State := { State.reset with
      pru := { Pru.reset with lock := .locked, origin := 9800000#32, watch := some 10400000#32 } }
    let t := after (.captureWatch 10400000#32) s
    t.pru.lock = .holdover ∧ t.pru.holdover = 0 ∧ t.pru.watch = none ∧
      t.hasFlag .lockChange = true := by decide +kernel

/-- 02, case (a): the marker at 5,400,213. -/
theorem test_marker :
    let s : State := { State.reset with
      pru := { Pru.reset with
        lock := .acquiring, origin := 4600206#32, period := 800007, marker := some 5400213#32 } }
    let p := (after (.cycleMarker 5400213#32) s).pru
    p.origin = 5400213#32 ∧ p.marker = some 6200220#32 := by decide +kernel

/-- 02, Holdover: the limit at 13,800,000. -/
theorem test_marker_limit :
    let s : State := { State.reset with
      pru := { Pru.reset with
        lock := .holdover, origin := 13000000#32, holdover := 4, marker := some 13800000#32 } }
    let p := (after (.cycleMarker 13800000#32) s).pru
    p.origin = 13800000#32 ∧ p.lock = .unlocked ∧ p.marker = none := by decide +kernel

/-- 03, Planning a Gamma-Limited Firing. -/
theorem test_planning : recordsAfter (.planningInstant 1266667#32 8) running = [record9] ∧
    (after (.planningInstant 1266667#32 8) running).fac.alphaLast[0] = some 14510 ∧
    (after (.planningInstant 1266667#32 8) running).fac.gammaLimiting[0] = true := by
  decide +kernel

/-- 04, Life of a NORMAL Record: first dispatch at 1,640,000. -/
theorem test_ringCycleStart :
    let s := withRecords [record9]
    let s := { s with fsc := { s.fsc with nextSeq := setAt s.fsc.nextSeq 8 41#8 } }
    let t := after (.ringCycleStart 1640000#32) s
    t.rgm.cycle.map RingCycle.frames =
      some [⟨.f, 25#16, 1640000#32, [], [⟨8, .fire, 41#8, 1655278#32, 16667⟩]⟩] ∧
    t.fsc.records = [{ record9 with state := .dispatched, seq := some 41#8 }] ∧
    t.fsc.nextSeq[8] = 42#8 := by decide +kernel

/-- 04: the window opens at 1,639,278. -/
theorem test_notYetEligible :
    eligible (withRecords [record9]) 1638400#32 record9 = false ∧
    eligible (withRecords [record9]) 1652800#32 record9 = true := by decide +kernel

/-- 04, the return of 1,656,950: fired report 41, local 1,655,281. -/
theorem test_frame_fired :
    let s := underWay (withRecords [{ record9 with state := .armed, seq := some 41#8 }])
    let bytes := returned 9
      [2#8, 0#8, 4#8, 0#8, 0#8, 41#8, 0x00#8, 0x19#8, 0x41#8, 0xF1#8]
    let t := after (.ringFrameReturn 1656950#32 .fIn bytes) s
    t.fsc.records = [] ∧ t.fsc.valves[8].lastOutcome = .fired ∧
    t.fsc.valves[8].lastDue = some 1655778#32 ∧ t.fsc.valves[8].fireCount = 1#16 ∧
    t.fsc.lastFired[1] = some 8 ∧
    t.exm.pendings[8] = some ⟨false, 41#8, 1733333#32, 1738133#32⟩ := by decide +kernel

/-- 07 and 03: report 41 at 1,700,000 raises the correction of B1D and revises B1D-4. -/
theorem test_frame_extinction :
    let later := newNormal RingTable.defaults 9 1789111#32 266667
      ⟨1866667#32, 14510, { inputs9 with rateReference := some 14600 }⟩
    let s := withRecords [later]
    let s := underWay { s with
      exm := { s.exm with
        pendings := setAt s.exm.pendings 8 (some ⟨false, 41#8, 1733333#32, 1738133#32⟩) } }
    let bytes := returned 9
      (2#8 :: 0#8 :: 16#8 :: List.replicate 12 0#8 ++ [41#8, 0x00#8, 0x19#8, 0xEE#8, 0xAC#8])
    let t := after (.ringFrameReturn 1700000#32 .fIn bytes) s
    t.exm.lastGamma[8] = some 1500 ∧ t.exm.correction[1] = 300 ∧ t.exm.windows[0] = [1500] ∧
    t.fsc.records.map (fun r => (r.due, r.revised, r.alpha?)) =
      [(1784667#32, true, some 14310)] := by decide +kernel

/-- 04, A LATE Record That Fires. -/
theorem test_lateness :
    let t := after (.latenessInstant 1997600#32 13) (withRecords [record14])
    t.fsc.records.map FireRecord.late = [true] ∧ t.fsc.fireLate = 1#16 := by decide +kernel

/-- 04, Cancel Against Fire, case (d). -/
theorem test_confirm_cancelling :
    let s := withRecords [{ record17 with state := .cancelling, decision := some 30#32 }]
    let t := after (.confirmInstant 3008000#32 16) s
    t.fsc.records = [] ∧ t.fsc.unconfirmed = 1#16 ∧
    t.fsc.valves[16].lastOutcome = .cancelledUnconfirmed := by decide +kernel

/-- 04, Bypass Entry and Release: ARMED becomes HOLDING. -/
theorem test_hold :
    (recordsAfter (.holdInstant 5003700#32 14) (withRecords [bypass15])).map FireRecord.state =
      [.holding] := by decide +kernel

/-- 09, A Trip, a Second Cause and the Reset: the release timeout of valve 20. -/
theorem test_releaseTimeout :
    let r := { newBypass 19 31000000#32 with
      state := .releasing, releaseAt := some 31008000#32, decision := some 2#32 }
    let s := withRecords [r]
    let t := after (.releaseTimeout 31008000#32 19)
      { s with
        groups := setAt s.groups 1 (groupIn .stopping)
        rgm := { s.rgm with stations := setAt s.rgm.stations 19 { enrolled with state := .enrolling } } }
    t.groups[1].state = .blocked ∧ t.fsc.valves[19].lastOutcome = .releasedUnconfirmed := by
  decide +kernel

/-- 07, Two Failures Within One Recovery: the deadline of valve 23. -/
theorem test_deadline :
    let s := { running with groups := setAt running.groups 1 (groupIn .running) }
    let s := { s with exm := { s.exm with
      pendings := setAt s.exm.pendings 22 (some ⟨false, 17#8, 41800000#32, 41804800#32⟩)
      recovery := setAt s.exm.recovery 1 9, repeats := setAt s.exm.repeats 1 1
      cfCount := setAt s.exm.cfCount 1 1#16 } }
    let t := after (.deadlineInstant 41804800#32 22) s
    t.exm.recovery[1] = 24 ∧ t.exm.repeats[1] = 2 ∧ t.exm.cfCount[1] = 2#16 ∧
    t.groups[1].state = .running := by decide +kernel

/-- 07: the late report 17, γ = −248. -/
theorem test_lateMeasurement : measuredGamma running 41800000#32 41805500#32 = -248 := by
  decide +kernel

/-- 09, Block Through the Bypass Pattern: the hold timer at 20,900,000. -/
theorem test_bypassHold :
    let s := withRecords [{ newBypass 1 20103200#32 with state := .holding, seq := some 1#8 }]
    let g := { groupIn .bypassing with
      pairs := #v[some .leg52, some .leg14], holdTimer := some 20900000#32 }
    let s := { s with groups := setAt s.groups 0 g }
    let t := after (.bypassHoldTimer 20900000#32 0) s
    t.groups[0].state = .stopping ∧ t.groups[0].pairs = fill 2 none ∧
    t.fsc.records.map FireRecord.state = [.releasing] := by decide +kernel

/-- R159. -/
theorem test_dropped :
    (after (.linkFrameDropped 5#32 .crc) State.reset).olp.linkCrc = 1#16 := by decide +kernel

/-- R160: the BAD_FRAME reply to a STATUS frame, its header written out (R184). -/
theorem test_badFrame :
    ((after (.unknownFrame 5#32 2#8 4#8 []) State.reset).olp.sending.map fun x => x.bytes.take 8) =
      some [3#8, 4#8, 5#8, 2#8, 1#8, 0#8, 0#8, 0#8] := by decide +kernel

/-- 10, An Order Hold and Loss: the adoption of sequence 17. -/
theorem test_order :
    let t := after (.order 50000000#32 17#8
      [0x39#8, 0x08#8, 0x04#8, 0x4C#8, 0x03#8, 0xE8#8, 1#8, 0#8]) running
    t.olp.order = ⟨14600, 1100, 1000, #v[⟨true, false, false⟩, ⟨false, false, false⟩]⟩ ∧
    t.olp.watchdog = some 50020000#32 ∧ t.olp.gap = 0#16 ∧ t.olp.sending.isSome = true := by
  decide +kernel

/-- 09, Block Through the Bypass Pattern: the adoption at 20,100,000. -/
theorem test_order_block :
    let s := { running with fsc := { Fsc.reset with
      lastFired := #v[some 1, some 6, none, none] } }
    let t := after (.order 20100000#32 17#8
      [0x39#8, 0x08#8, 0x04#8, 0x4C#8, 0x03#8, 0xE8#8, 2#8, 0#8]) s
    t.groups[0].state = .bypassing ∧ t.groups[0].holdTimer = some 20900000#32 ∧
    t.groups[0].pairs = #v[some .leg52, some .leg14] ∧
    t.fsc.records.map (fun r => (r.valve, r.due)) =
      [(1, 20103200#32), (4, 20103200#32), (6, 20103200#32), (9, 20103200#32)] := by
  decide +kernel

/-- 10, An Order Hold and Loss: 50,020,000. -/
theorem test_watchdog :
    let t := after (.orderWatchdog 50020000#32) running
    t.olp.orderState = .hold ∧ t.olp.holdTimer = some 50420000#32 ∧
    t.groups[0].state = .running := by decide +kernel

/-- 10, An Order Hold and Loss: 50,420,000. -/
theorem test_holdTimer :
    let s := { running with olp := { running.olp with
      orderState := .hold, holdTimer := some 50420000#32, watchdog := none } }
    let t := after (.holdTimer 50420000#32) s
    t.olp.orderState = .lost ∧ t.groups[0].state = .tripped ∧
    t.groups[0].firstCause = some .orderLost ∧ t.hasFlag .tripG1 = true := by decide +kernel

/-- A REPLY waiting in the queue. -/
def waiting (seq : Byte) : OutFrame := .reply ⟨7#8, seq, .ok, 7#8, 0#16, []⟩

/-- 10, A Full Queue: the queue holds REPLY A, STATUS, REPLY B, REPLY C. -/
def fullQueue : State :=
  withOlp { Olp.reset with
    queue := [waiting 1#8, .status, waiting 2#8, waiting 3#8], sending := some ⟨[], 1488#32⟩ }

/-- 10, A Full Queue: the sending ends. -/
theorem test_transmitEnd :
    (after (.transmitEnd 1488#32) fullQueue).olp.queue = [.status, waiting 2#8, waiting 3#8] := by
  decide +kernel

/-- 10, A Full Queue: CLEAR_COUNTERS is dropped unanswered. -/
theorem test_clearCounters_busy :
    (after (.clearCounters 9#32 5#8) fullQueue).olp.busyDrop = 1#16 ∧
    (after (.clearCounters 9#32 5#8) fullQueue).olp.queue = fullQueue.olp.queue := by
  decide +kernel

/-- 11, Moving a Station: row 4 with path delay F 45,000 is BAD_VALUE for field 5. -/
theorem test_tableWrite_badValue :
    (writeTable running 4#8 4#8
      [3#8, 0#8, 0#8, 0#8, 0#8, 60#8, 3#8, 0xAF#8, 0xC8#8, 1#8, 0xF4#8]).2 = badValue 4#8 5 := by
  decide +kernel

/-- 11: row 3 naming valve 4 opens the shadow as a copy. -/
theorem test_tableWrite :
    let s := (writeTable running 4#8 3#8
      [4#8, 0#8, 0#8, 0#8, 0#8, 60#8, 3#8, 0#8, 200#8, 1#8, 0xF4#8]).1
    (s.tbs.stationShadow.map fun x => x[2]) = some (some ⟨3, 0#32, 60, 3, 200, 500⟩) ∧
    (s.tbs.stationShadow.map fun x => x[3]) = some (some ⟨3, 0#32, 60, 3, 500, 500⟩) := by
  decide +kernel

/-- 11: a commit with rows 3 and 4 naming one valve is BAD_VALUE, row 4. -/
theorem test_tableCommit_failingRow :
    let s := { State.reset with tbs := { Tbs.reset with
      stationShadow := some (mapVec some (setAt plainTable 2 ⟨3, 0#32, 60, 3, 200, 500⟩)) } }
    (commitTable s 4#8).2 = badValue 4#8 4 := by decide +kernel

/-- 06: the commit at 2,000,000 starts the ring with cycle 1. -/
theorem test_tableCommit_station :
    let s := { State.reset with tbs := { Tbs.reset with
      stationShadow := some (mapVec some plainTable) } }
    let t := after (.tableCommit 2000000#32 1#8 4#8) s
    t.rgm.link = .forward ∧ t.rgm.cycleNumber = 1#16 ∧ t.rgm.cycleAt = some 2001600#32 ∧
    t.tbs.generation = 1#16 := by decide +kernel

/-- Table 12-4, R183: a BYPASS record not yet fired shows its stamp absent, all ones. -/
theorem test_schedule_bypass :
    (scheduleTail bypass15).take 4 = List.replicate 4 0xFF#8 := by decide +kernel

/-- R176. -/
theorem test_tableDiscard :
    let s := { State.reset with tbs := { Tbs.reset with limitsShadow := some LimitsTable.defaults } }
    (after (.tableDiscard 5#32 1#8 1#8) s).tbs.limitsShadow = none := by decide +kernel

/-- The REPLY being sent after a query: its header bytes and its whole length. -/
def replyHead (c : Instr) (s : State) : Option (List Byte × Nat) :=
  (after c s).olp.sending.map fun x => ((x.bytes.drop 3).take 5, x.bytes.length)

/-- R179, Table 12-9: the lengths of the eight replies. -/
theorem test_queries :
    replyHead (.tableRow 5#32 1#8 1#8 1#8 0#8) running = some ([7#8, 0#8, 1#8, 0#8, 0#8], 45) ∧
    replyHead (.valveRecord 5#32 1#8 9#8) running = some ([7#8, 0#8, 2#8, 0#8, 0#8], 43) ∧
    replyHead (.levelSet 5#32 1#8 9#8) running = some ([7#8, 0#8, 3#8, 0#8, 0#8], 51) ∧
    replyHead (.stationRecord 5#32 1#8 9#8) running = some ([7#8, 0#8, 4#8, 0#8, 0#8], 43) ∧
    replyHead (.captureHistory 5#32 1#8) running = some ([7#8, 0#8, 6#8, 0#8, 0#8], 140) ∧
    replyHead (.counters 5#32 1#8) running = some ([7#8, 0#8, 7#8, 0#8, 0#8], 50) ∧
    replyHead (.ringStats 5#32 1#8) running = some ([7#8, 0#8, 8#8, 0#8, 0#8], 45) := by
  decide +kernel

/-- R179: a TABLE_ROW selector of 2 is BAD_INDEX, naming the value (12, Table 12-6). -/
theorem test_tableRow_selector :
    replyHead (.tableRow 5#32 1#8 1#8 1#8 2#8) running = some ([7#8, 3#8, 1#8, 0#8, 2#8], 10) := by
  decide +kernel

/-- R76: an offset of 48 is BAD_INDEX. -/
theorem test_schedule_offset :
    replyHead (.schedule 5#32 1#8 48#8) running = some ([7#8, 3#8, 5#8, 0#8, 48#8], 10) := by
  decide +kernel

/-- R169: the mask clears the flags it names. -/
theorem test_clearFlags :
    let s := (State.reset.setFlag .lockChange).setFlag .clamp
    (after (.clearFlags 5#32 1#8 0x4000#16) s).hasFlag .clamp = false ∧
    (after (.clearFlags 5#32 1#8 0x4000#16) s).hasFlag .lockChange = true := by decide +kernel

/-- R180. -/
theorem test_clearCounters :
    let s := { State.reset with olp := { Olp.reset with linkCrc := 5#16 } }
    (after (.clearCounters 5#32 1#8) s).olp.linkCrc = 0#16 := by decide +kernel

/-- R180. -/
theorem test_clearRingStats :
    let s := { running with rgm := { running.rgm with scanMin := 1240, scanMax := 1260, scanCurrent := 1250 } }
    let t := after (.clearRingStats 5#32 1#8) s
    t.rgm.scanMin = 0 ∧ t.rgm.scanMax = 0 ∧ t.rgm.scanCurrent = 1250 := by decide +kernel

/-- The level record of valve 22 after slot C (08, A Valve Passes Its Redundancy). -/
def levels22 : LevelRecord :=
  ⟨60, 3, [(9, .short), (17, .noResponse), (41, .short)], false, .atLimit, 5#16⟩

/-- G2 RUNNING with the level record of valve 22 after slot C. -/
def atLimit : State :=
  { running with
    lvm := { running.lvm with levels := setAt running.lvm.levels 21 levels22 }
    groups := setAt running.groups 1 (groupIn .running) }

/-- 08: slot D, 52 SHORT. -/
theorem test_levelLimit :
    let t := levelChange 21 atLimit (52, .short)
    t.lvm.levels[21].state = .overLimit ∧ t.groups[1].state = .tripped ∧
    t.groups[1].firstCause = some .levelLimit := by decide +kernel

/-- 08: the clear of valve 22 by command. -/
theorem test_clearLevelFaults :
    let t := after (.clearLevelFaults 5#32 1#8 22#8) atLimit
    t.lvm.levels[21] = { levels22 with failed := [], state := .healthy } ∧
    t.itemPending 21 .levelResync = true := by decide +kernel

/-- R74, R156: a TEST record two ring intervals ahead. -/
theorem test_testFire :
    let s := { inState .blocked with tbs := { running.tbs with
      limits := { LimitsTable.defaults with testEnable := true } } }
    (recordsAfter (.testFire 1000000#32 1#8 9#8) s).map (fun r => (r.valve, r.due, r.isTest)) =
      [(8, 1003200#32, true)] := by decide +kernel

/-- R155: with no record left the group passes STOPPING to BLOCKED. -/
theorem test_resetTrip :
    let g := { groupIn .tripped with
      firstCause := some .stationFault, tripCauses := setAt (fill 7 false) 1 true }
    let s := { running with groups := setAt running.groups 1 g }
    let t := after (.resetTrip 31000000#32 1#8 2#8) s
    t.groups[1].firstCause = none ∧ BoolSet.any t.groups[1].tripCauses = false ∧
    t.groups[1].state ≠ .tripped := by decide +kernel

/-- Both groups BLOCKED, with no order flags. -/
def blocked : State :=
  { inState .blocked with olp := { running.olp with order := ⟨14600, 1100, 1000, fill 2 ⟨false, false, false⟩⟩ } }

/-- R103. -/
theorem test_ringRestart :
    let t := after (.ringRestart 1639000#32 1#8) blocked
    t.rgm.stations[8].state = .absent ∧ t.rgm.cycleNumber = 25#16 ∧
    t.rgm.cycleAt = some 1640600#32 := by decide +kernel

/-- R33, R181. -/
theorem test_warmRestart :
    let t := after (.warmRestart 1639000#32 1#8) blocked
    t.pru.lock = .unlocked ∧ t.pru.origin = 0#32 ∧ t.exm.correction[1] = 0 ∧
    t.rgm.cycleNumber = 25#16 := by decide +kernel

/-! ## Witnesses: states and operands that meet the hypotheses of the statements -/

/-- Every command answers a next state. -/
theorem exec_after (c : Instr) (s : State) : exec c s = .next (after c s) := by cases c <;> rfl

/-- A hypothesis about whatever stands in a field, from what does stand there. -/
theorem ofStored {α : Type} {o : Option α} {x : α} {P : α → Prop} (h : o = some x) (p : P x) :
    ∀ y, o = some y → P y := by
  intro y hy
  rw [h] at hy
  exact Option.some.inj hy ▸ p

/-- The frame of cycle 24 with one slot filled comes back: what is to be computed. -/
abbrev ShowsSlot (s : State) (k : Nat) (p : RingPos) (bs : List Byte) (row : StationRow)
    (lineError turned : Bool) (body : SlotBody) : Prop :=
  s.rgm.cycle = some cycle24 ∧ s.rgm.cycleNumber = 24#16 ∧
    rowAt s p = some row ∧
    readFrame (returned k bs) = .complete 24#16 (some .f)
      ((List.replicate 24 emptySlotBytes).set p.val (slot bs)) ∧
    ((List.replicate 24 emptySlotBytes).set p.val (slot bs)).map judgeSlot =
      (List.finRange 24).map fun q => if q = p then .good lineError turned body else .empty

/-- Such a frame is a timely intact return with one good slot, in each of some states. -/
theorem returns_one_slot {states : List State} {k : Nat} {p : RingPos} {bs : List Byte} {row : StationRow}
    {lineError turned : Bool} {body : SlotBody}
    (h : ∀ s ∈ states, ShowsSlot s k p bs row lineError turned body) :
    ∀ s ∈ states, ReturnsOneSlot s .fIn (returned k bs) cycle24 .f p row lineError turned body := by
  intro s hs
  obtain ⟨cycle, number, table, frame, slots⟩ := h s hs
  exact ⟨⟨_, number ▸ frame, slots⟩, cycle, table, rfl, rfl⟩

theorem witness_EveryCommandCompletes :
    (Instr.holdTimer 5#32).time? = some 5#32 ∧ Instr.powerUp.time? = none := by decide

/-- The record's confirm instant is one count ahead; the marker is not reached, the cycle start is. -/
theorem witness_IdleStepCountsTheTimebase :
    let s := { withRecords [record9] with now := 1663777#32 }
    s.pending = [] ∧ s.pru.marker = some 1800000#32 ∧ s.rgm.cycleAt = some 1640000#32 ∧
    record9 ∈ s.fsc.records ∧ record9.confirmAt = some 1663778#32 ∧
    passed (s.now + 1#32) 1663778#32 = true ∧ passed s.now 1663778#32 = false ∧
    passed (s.now + 1#32) 1800000#32 = false := by decide +kernel

theorem witness_QueriesChangeNothing :
    exec (.ringStats 5#32 1#8) running = .next (after (.ringStats 5#32 1#8) running) :=
  exec_after _ _

/-- Each of the eight requests is refused somewhere. -/
theorem witness_RefusedRequestsChangeNothing :
    (writeTable running 6#8 1#8 []).2.result ≠ .ok ∧ (commitTable running 1#8).2.result ≠ .ok ∧
    (discardTable running 6#8).2.result ≠ .ok ∧ (testFire running 25#8).2.result ≠ .ok ∧
    (resetTrip running 1#8).2.result ≠ .ok ∧ (clearLevelFaults running 25#8).2.result ≠ .ok ∧
    (ringRestartCommand running).2.result ≠ .ok ∧ (warmRestartCommand running).2.result ≠ .ok := by
  decide +kernel

/-- Also of `BlocksChangeByTheirOwnCommands`: a transmit end is none of the excepted commands. -/
theorem witness_OnlyCommitsChangeActiveTables :
    exec (.transmitEnd 5#32) running = .next (after (.transmitEnd 5#32) running) ∧
    Instr.transmitEnd 5#32 ≠ .powerUp ∧ (∀ m n k, Instr.transmitEnd 5#32 ≠ .tableCommit m n k) ∧
    (∀ m n k, Instr.transmitEnd 5#32 ≠ .tableDiscard m n k) ∧
    (∀ m n k r x, Instr.transmitEnd 5#32 ≠ .tableWrite m n k r x) ∧
    (∀ m n p, Instr.transmitEnd 5#32 ≠ .order m n p) ∧
    (∀ m, Instr.transmitEnd 5#32 ≠ .orderWatchdog m) ∧
    (∀ m, Instr.transmitEnd 5#32 ≠ .holdTimer m) := by
  refine ⟨exec_after _ _, ?_, ?_, ?_, ?_, ?_, ?_, ?_⟩ <;> intros <;> exact Instr.noConfusion

theorem witness_OnlyClearFlagsClearsAFlag :
    let s := running.setFlag .clamp
    exec (.ringRestart 5#32 1#8) s = .next (after (.ringRestart 5#32 1#8) s) ∧
    Instr.ringRestart 5#32 1#8 ≠ .powerUp ∧
    (∀ m n k, Instr.ringRestart 5#32 1#8 ≠ .clearFlags m n k) ∧ s.hasFlag .clamp = true :=
  ⟨exec_after _ _, by decide, by intros; exact Instr.noConfusion, by decide +kernel⟩

/-- Two BYPASS records in one leg, two records of valve 9, a cycle start at the front of the queue. -/
def busy : State :=
  { withRecords [{ record9 with state := .armed, seq := some 41#8 },
      newStart RingTable.defaults 8 1655800#32 266667, bypass15,
      { newBypass 17 5003700#32 with seq := some 9#8 }] with
    tbs := { running.tbs with limitsShadow := some LimitsTable.defaults }
    pending := [.ringCycleStart 1640000#32] }

theorem busy_step :
    step busy = .next (after (.ringCycleStart 1640000#32) { busy with pending := [] }) :=
  exec_after (.ringCycleStart 1640000#32) { busy with pending := [] }

theorem witness_StepKeepsRecordsBoundedAndNumbered : RecordsBounded busy ∧ SequencesDistinct busy := by
  unfold RecordsBounded SequencesDistinct
  decide +kernel

theorem tables_of_busy : TablesInRange busy := by
  have station : busy.tbs.station = some plainTable := rfl
  have limits : busy.tbs.limitsShadow = some LimitsTable.defaults := rfl
  refine ⟨⟨by decide +kernel, by decide +kernel, by decide +kernel, by decide +kernel,
    ofStored station (by decide +kernel)⟩, ofStored limits (by decide +kernel), ?_, ?_, ?_, ?_⟩ <;>
  · intro x h
    cases h

theorem witness_StepKeepsLegsAndAngles :
    OneLegPerBridge busy ∧ TablesInRange busy ∧ AnglesHeld busy := by
  refine ⟨?_, tables_of_busy, ?_⟩
  · unfold OneLegPerBridge
    decide +kernel
  · intro r hr n hn
    have hr : r = { record9 with state := .armed, seq := some 41#8 } ∨
        r = newStart RingTable.defaults 8 1655800#32 266667 ∨ r = bypass15 ∨
        r = { newBypass 17 5003700#32 with seq := some 9#8 } := by
      simpa only [busy, withRecords, List.mem_cons, List.not_mem_nil, or_false] using hr
    rcases hr with rfl | rfl | rfl | rfl
    · cases hn
      decide
    · cases hn
    · cases hn
    · cases hn

theorem witness_StepKeepsThePeriod : PeriodHeld busy ∧ UnlockedIdle busy := by
  unfold PeriodHeld UnlockedIdle
  decide +kernel

theorem witness_StepKeepsTablesInRange : TablesInRange busy := tables_of_busy

theorem witness_StepKeepsCorrections : TablesInRange busy ∧ CorrectionsHeld busy := by
  refine ⟨witness_StepKeepsTablesInRange, ?_⟩
  unfold CorrectionsHeld
  decide +kernel

theorem witness_StepKeepsBuffersBounded : BuffersBounded busy ∧ QueueBounded busy := by
  unfold BuffersBounded QueueBounded LevelsListed
  decide +kernel

/-- G1 RUNNING with two live records, G2 BLOCKED with none. -/
def fitting : State :=
  { withRecords [record9, newStart RingTable.defaults 8 1655800#32 266667] with
    pending := [.ringCycleStart 1640000#32] }

theorem witness_StepKeepsOrderTimersAndGroups :
    step fitting = .next (after (.ringCycleStart 1640000#32) { fitting with pending := [] }) ∧
    OrderTimersHeld fitting ∧ GroupsHeld fitting ∧ PlannedFits fitting ∧
    (record9 ∈ fitting.fsc.records ∧ record9.state = .planned) ∧ GroupsFit fitting := by
  refine ⟨exec_after (.ringCycleStart 1640000#32) { fitting with pending := [] }, ?_, ?_, ?_, ?_,
    fun g => ⟨?_, ?_, ?_⟩⟩
  · unfold OrderTimersHeld; decide +kernel
  · unfold GroupsHeld GroupHeld; decide +kernel
  · unfold PlannedFits; decide +kernel
  · decide +kernel
  all_goals revert g; decide +kernel

/-- `tracking` with a last edge time on line A. -/
def edgeOnA (l : Time) (p : Pru) : State := { tracking with pru := { p with lastEdge := setAt (fill 3 none) 0 (some l) } }

/-- The holdoff of A is 11,111 tb: one count inside it, and at its end with e = +25,970 (02, Tracking
in LOCKED). -/
theorem witness_EdgesThatLeaveTheModel :
    let p := { tracking.pru with origin := 1000029#32, period := 800001 }
    let s := edgeOnA 1414889#32 p
    s.pru.lastEdge[lineIndex .a] = some 1414889#32 ∧
    ((1425999#32 - 1414889#32 : Time).toNat : Int) <
      angleToTb s.tbs.converter.edgeHoldoff s.pru.period ∧
    angleToTb s.tbs.converter.edgeHoldoff s.pru.period ≤
      ((1426000#32 - 1414889#32 : Time).toNat : Int) ∧ s.pru.lock = .locked ∧
    phaseError s.pru (edgeIndex .a false) 1426000#32 = 25970 ∧
    angleToTb s.tbs.converter.captureWindow s.pru.period <
      ((phaseError s.pru (edgeIndex .a false) 1426000#32).natAbs : Int) := by decide +kernel

theorem witness_FirstCaptureStartsAcquisition :
    let s := edgeOnA 4988889#32 Pru.reset
    s.pru.lock = .unlocked ∧ ∀ l, s.pru.lastEdge[lineIndex .a] = some l →
      angleToTb s.tbs.converter.edgeHoldoff s.pru.period ≤ ((5000000#32 - l).toNat : Int) :=
  ⟨by decide, ofStored (x := 4988889#32) (by decide +kernel) (by decide +kernel)⟩

/-- LOCKED at the edge of the capture window, e = +22,222 (02, Tracking in LOCKED); HOLDOVER at the edge of
the lock window, e = +2,222, and one count beyond it. -/
theorem witness_AcceptedCaptureUpdatesTheModel :
    let s := tracking
    let h : State := { s with pru := { s.pru with lock := .holdover, holdover := 2 } }
    let ahead (n : Time) (e : Int) : Prop := passed n (addTb (addTb s.pru.origin
      (roundDiv (e * 32) 256)) (800000 + roundDiv (e * 16) 4096)) = false
    s.pru.lock = .locked ∧ s.pru.lastEdge[lineIndex .b] = none ∧
    phaseError s.pru (edgeIndex .b true) 1288889#32 = 22222 ∧
    (22222 : Int) ≤ angleToTb s.tbs.converter.captureWindow s.pru.period ∧ ahead 1288889#32 22222 ∧
    h.pru.lock = .holdover ∧ phaseError h.pru (edgeIndex .b true) 1268889#32 = 2222 ∧
    (2222 : Int) ≤ angleToTb h.tbs.converter.lockWindow h.pru.period ∧ ahead 1268889#32 2222 ∧
    phaseError h.pru (edgeIndex .b true) 1268890#32 = 2223 ∧
    angleToTb h.tbs.converter.lockWindow h.pru.period < 2223 ∧ ahead 1268890#32 2223 := by
  decide +kernel

/-- The lock window's edge, e = +2,222 and one beyond it; the capture window's edge, e = +22,222 and one
beyond it; the counts at the last value below their ends and at it. -/
theorem witness_AcquiringCountsCaptures :
    let s (acquisition rejectRun : Nat) : State := { running with
      pru := { tracking.pru with
        lock := .acquiring, acquisition := acquisition, rejectRun := rejectRun } }
    let ahead (n : Time) (e : Int) : Prop := passed n (addTb (addTb 1000000#32
      (roundDiv (e * 128) 256)) (800000 + roundDiv (e * 64) 4096)) = false
    (s 10 4).pru.lock = .acquiring ∧ (s 10 4).groups[(0 : Group)].state = .running ∧
    (s 10 4).pru.lastEdge[lineIndex .b] = none ∧ (s 10 4).pru.acquisition < 11 ∧
    (s 11 5).pru.acquisition = 11 ∧ (s 10 4).pru.rejectRun < 5 ∧ (s 11 5).pru.rejectRun = 5 ∧
    phaseError (s 10 4).pru (edgeIndex .b true) 1268889#32 = 2222 ∧
    (2222 : Int) ≤ angleToTb (s 10 4).tbs.converter.lockWindow (s 10 4).pru.period ∧
    ahead 1268889#32 2222 ∧
    phaseError (s 10 4).pru (edgeIndex .b true) 1268890#32 = 2223 ∧
    angleToTb (s 10 4).tbs.converter.lockWindow (s 10 4).pru.period < 2223 ∧
    ahead 1268890#32 2223 ∧
    phaseError (s 10 4).pru (edgeIndex .b true) 1288889#32 = 22222 ∧
    (22222 : Int) ≤ angleToTb (s 10 4).tbs.converter.captureWindow (s 10 4).pru.period ∧
    phaseError (s 10 4).pru (edgeIndex .b true) 1288890#32 = 22223 ∧
    angleToTb (s 10 4).tbs.converter.captureWindow (s 10 4).pru.period < 22223 := by decide +kernel

theorem witness_CaptureWatchExpires :
    let s : State := { running with pru := { tracking.pru with lock := .acquiring } }
    s.groups[(0 : Group)].state = .running ∧
    tracking.pru.watch = some 1533000#32 ∧ tracking.pru.lock = .locked ∧
    s.pru.watch = some 1533000#32 ∧ s.pru.lock = .acquiring ∧
    passed 1533000#32 1533000#32 = true := by decide +kernel

/-- The third clause at the holdover limit of 5, the second one below it. -/
theorem witness_CycleMarkerStepsTheOrigin :
    let held (n : Nat) : State :=
      { running with pru := { tracking.pru with lock := .holdover, holdover := n } }
    (held 4).groups[(0 : Group)].state = .running ∧
    tracking.pru.marker = some 1800000#32 ∧ passed 1800000#32 1800000#32 = true ∧
    tracking.pru.lock ≠ .holdover ∧
    passed 1800000#32 (addTb (addTb 1000000#32 800000) 800000) = false ∧
    passed 1800000#32 (planningOf ConverterTable.defaults 1800000#32 800000 1).time = false ∧
    (held 3).pru.marker = some 1800000#32 ∧ (held 3).pru.lock = .holdover ∧
    (held 3).pru.holdover + 1 < (held 3).tbs.converter.holdoverLimit ∧
    (held 4).tbs.converter.holdoverLimit ≤ (held 4).pru.holdover + 1 := by decide +kernel

/-- Outside DEBLOCKING and RUNNING, and with both places of the valve taken. -/
theorem witness_PlanningWithoutARecord :
    let s := withRecords [record9, newStart RingTable.defaults 8 1655800#32 266667]
    (inState .blocked).fac.plannings[(8 : Valve)] = some ⟨1266667#32, 1000000#32⟩ ∧
    passed 1266667#32 1266667#32 = true ∧
    (inState .blocked).groups[valveGroup 8].state = .blocked ∧
    s.fac.plannings[(8 : Valve)] = some ⟨1266667#32, 1000000#32⟩ ∧
    s.groups[valveGroup 8].state = .running ∧ s.pru.lock = .locked ∧
    2 ≤ (s.recordsOf 8).length := by decide +kernel

/-- Valve 9 and its predecessor, valve 8, each with one record, and valve 8 with two; the due time is
1,655,778. -/
theorem witness_PlanningPlacesTheRecords :
    let s := withRecords [{ record9 with due := 1400000#32, state := .armed, seq := some 1#8 },
      { record9 with valve := 7, due := 1400000#32, state := .armed, seq := some 2#8 }]
    s.fac.plannings[(8 : Valve)] = some ⟨1266667#32, 1000000#32⟩ ∧
    passed 1266667#32 1266667#32 = true ∧ s.groups[valveGroup 8].state = .running ∧
    s.pru.lock = .locked ∧ (s.recordsOf 8).length = 1 ∧ (s.recordsOf (predecessor 8)).length = 1 ∧
    timeAt 1000000#32 (phase s.tbs.converter 8 + 14510) s.pru.period = 1655778#32 ∧
    2 ≤ ((withRecords [{ record9 with valve := 7, state := .armed, seq := some 2#8 },
      newStart RingTable.defaults 7 1655800#32 266667]).recordsOf (predecessor 8)).length ∧
    passed 1266667#32 (addTb 1655778#32 (-(s.tbs.ring.ackMargin : Int))) = false ∧
    passed 1266667#32 (addTb 1655778#32 s.tbs.ring.confirmTimeout) = false := by decide +kernel

theorem witness_LatenessHoldAndReleaseInstants :
    let r := { bypass15 with state := .releasing, releaseAt := some 5808000#32 }
    let s := withRecords [r]
    dueRecord ((withRecords [record14]).at 1997600#32) 13 FireRecord.latenessAt = some record14 ∧
    dueRecord ((withRecords [bypass15]).at 5003700#32) 14 FireRecord.holdAt = some bypass15 ∧
    dueRecord (s.at 5808000#32) 14 FireRecord.releaseAt = some r ∧ r.isBypass = true ∧
    r.state = .releasing ∧ s.recordsOf 14 = [r] := by decide +kernel

/-- A NORMAL record in DEBLOCKING and at the second miss in RUNNING, a TEST record, a CANCELLING record. -/
theorem witness_ConfirmInstantEndsTheRecord :
    let missed (x : GroupState) : State :=
      { withRecords [record17] with
        groups := setAt running.groups 1 (groupIn x)
        fsc := { Fsc.reset with
          records := [record17]
          valves := setAt Fsc.reset.valves 16 { ValveFiring.reset with misses := 1#16 } } }
    let test := { newTest RingTable.defaults 16 3000000#32 266667 with
      state := .dispatched, seq := some 12#8 }
    let cancelled := { record17 with state := .cancelling, decision := some 30#32 }
    dueRecord ((missed .running).at 3008000#32) 16 FireRecord.confirmAt = some record17 ∧
    (missed .running).recordsOf 16 = [record17] ∧ record17.isRegular = true ∧
    record17.isNormal = true ∧ record17.state = .armed ∧
    (missed .running).groups[valveGroup 16].state = .running ∧
    1 ≤ (missed .running).fsc.valves[(16 : Valve)].misses.toNat ∧
    dueRecord ((missed .deblocking).at 3008000#32) 16 FireRecord.confirmAt = some record17 ∧
    (missed .deblocking).recordsOf 16 = [record17] ∧
    (missed .deblocking).groups[valveGroup 16].state = .deblocking ∧
    dueRecord ((withRecords [test]).at 3008000#32) 16 FireRecord.confirmAt = some test ∧
    (withRecords [test]).recordsOf 16 = [test] ∧ test.isTest = true ∧ test.state = .dispatched ∧
    dueRecord ((withRecords [cancelled]).at 3008000#32) 16 FireRecord.confirmAt = some cancelled ∧
    (withRecords [cancelled]).recordsOf 16 = [cancelled] ∧ cancelled.isRegular = true ∧
    cancelled.state = .cancelling := by decide +kernel

/-- The bytes of a RUN slot with one fired report, and with one acknowledgement, of number 41. -/
def fired41 : List Byte := [2#8, 0#8, 4#8, 0#8, 0#8, 41#8, 0x00#8, 0x19#8, 0x41#8, 0xF1#8]
def ack41 : List Byte := [2#8, 0#8, 1#8, 41#8]

/-- The frame of 1,656,950 (04, Life of a NORMAL Record) at position 9: the fired report 41 of an ARMED
record, in G1 DEBLOCKING with valve 9 the last to fire; the ack 41 of a DISPATCHED record and of one that
is CANCELLING since cycle 23; a BYPASS record live and RELEASING, a TEST record; and a number that no record
carries. -/
theorem witness_StationReportsActOnRecords :
    let fired : RunSlot := ⟨.ready, .blocking, [], [(41#8, 1655281#32)], none, []⟩
    let ack : RunSlot := ⟨.ready, .blocking, [41#8], [], none, []⟩
    let armed := { record9 with state := .armed, seq := some 41#8 }
    let sent := { record9 with state := .dispatched, seq := some 41#8 }
    let ending := { sent with state := .cancelling, firstCancel := some 23#16 }
    let test := { newTest RingTable.defaults 8 1655778#32 266667 with
      state := .dispatched, seq := some 41#8 }
    let bypass := { newBypass 8 1655778#32 with state := .dispatched, seq := some 41#8 }
    let release := { bypass with state := .releasing, firstCancel := some 24#16 }
    let held (r : FireRecord) : State := underWay (withRecords [r])
    let eleven := { groupIn .deblocking with fired := setAt (fill 12 true) 8 false }
    let last : State := { held armed with groups := setAt running.groups 0 eleven }
    (∀ s ∈ [held armed, last, held test, held bypass, held record9],
      ReturnsOneSlot s .fIn (returned 9 fired41) cycle24 .f 8 plainTable[8] false false (.run fired)) ∧
    (∀ s ∈ [held sent, held ending, held bypass, held release],
      ReturnsOneSlot s .fIn (returned 9 ack41) cycle24 .f 8 plainTable[8] false false (.run ack)) ∧
    (∀ s ∈ [held armed, last, held sent, held ending, held test, held bypass, held release],
      s.rgm.stations[(8 : RingPos)].state = .enrolled) ∧
    matchRecord (held armed) 8 41#8 = some armed ∧ (held armed).recordsOf 8 = [armed] ∧
    armed.isRegular = true ∧
    passed 1656950#32 (addTb 1733333#32 (held armed).tbs.ring.extinctionAllowance) = false ∧
    last.groups[(0 : Group)].state = .deblocking ∧
    Machine.commandOf last.olp.order.flags[(0 : Group)] ≠ .block ∧
    Machine.commandOf last.olp.order.flags[(0 : Group)] ≠ .bypass ∧
    BoolSet.full (setAt last.groups[(0 : Group)].fired (placeInGroup 8) true) = true ∧
    matchRecord (held sent) 8 41#8 = some sent ∧ matchRecord (held ending) 8 41#8 = some ending ∧
    matchRecord (held test) 8 41#8 = some test ∧ (held test).recordsOf 8 = [test] ∧
    test.isTest = true ∧ matchRecord (held bypass) 8 41#8 = some bypass ∧ bypass.isBypass = true ∧
    passed 1656950#32 bypass.due = true ∧ matchRecord (held release) 8 41#8 = some release ∧
    (held release).recordsOf 8 = [release] ∧ release.isTest = false ∧
    ((held release).rgm.cycleNumber - 24#16).toNat ≤ 32767 ∧
    (held ending).recordsOf 8 = [ending] ∧ ending.isTest = false ∧
    ((held ending).rgm.cycleNumber - 23#16).toNat ≤ 32767 ∧
    matchRecord (held record9) 8 41#8 = none := by
  exact ⟨returns_one_slot (by decide +kernel), returns_one_slot (by decide +kernel), by decide +kernel⟩

/-- The PLANNED record of B1D-4 (03_firing_angle_calculator.md, Protective Revision). -/
def planned10 : FireRecord :=
  newNormal RingTable.defaults 9 1789111#32 266667
    ⟨1866667#32, 14510, { inputs9 with rateReference := some 14600 }⟩

/-- Valve 9 in G1 BLOCKED and in G1 RUNNING, a repeat count that reaches the CF trip count, and one that
does not with a PLANNED record that is revised. -/
theorem witness_DeadlineActsByTheGroupState :
    let p : PendingExtinction := ⟨false, 41#8, 1733333#32, 1738133#32⟩
    let open9 (s : State) : State := { s with exm := { s.exm with
      pendings := setAt s.exm.pendings 8 (some p)
      recovery := setAt s.exm.recovery 0 9, repeats := setAt s.exm.repeats 0 2 } }
    (open9 running).exm.pendings[(8 : Valve)] = some p ∧ p.expired = false ∧
    passed 1738133#32 p.deadline = true ∧ (open9 running).groups[valveGroup 8].state = .running ∧
    (open9 running).tbs.limits.cfTripCount ≤
      (after (.deadlineInstant 1738133#32 8) (open9 running)).exm.repeats[(0 : Group)] ∧
    (open9 (withRecords [planned10])).exm.pendings[(8 : Valve)] = some p ∧
    revisedTo (after (.deadlineInstant 1738133#32 8)
      { open9 (withRecords [planned10]) with tbs := { running.tbs with
        limits := { LimitsTable.defaults with cfTripCount := 15 } } }) planned10 ≠ planned10 ∧
    (open9 (inState .blocked)).exm.pendings[(8 : Valve)] = some p ∧
    (open9 (inState .blocked)).groups[valveGroup 8].state = .blocked := by decide +kernel

/-- γ at γ_min_eff, one below it, and 0. The report 41 of 1,700,000 (07) at position 9, which matches an OPEN
pending extinction, an EXPIRED one and none; its γ is 1,500, short of γ_min_eff and above a lower one. -/
theorem witness_MeasurementSteersTheCorrection :
    let bytes : List Byte :=
      2#8 :: 0#8 :: 16#8 :: List.replicate 12 0#8 ++ [41#8, 0x00#8, 0x19#8, 0xEE#8, 0xAC#8]
    let report : RunSlot := ⟨.ready, .blocking, [], [], some (41#8, 1699500#32), []⟩
    let pending (q : Byte) (x : Bool) (s : State) : State := underWay { s with exm := { s.exm with
      pendings := setAt s.exm.pendings 8 (some ⟨x, q, 1733333#32, 1738133#32⟩) } }
    let lower : State := { running with tbs := { running.tbs with
      limits := { LimitsTable.defaults with gammaMin := 1500 } } }
    (∀ s ∈ [pending 41#8 false running, pending 41#8 true running, pending 40#8 false running,
        pending 41#8 false lower, pending 41#8 false (inState .blocked)],
      ReturnsOneSlot s .fIn (returned 9 bytes) cycle24 .f 8 plainTable[8] false false (.run report)) ∧
    running.rgm.stations[(8 : RingPos)].state = .enrolled ∧
    tbToAngle (signedDiff (addTb 1699500#32 (valveDelay running 8 .f)) 1733333#32)
      running.pru.period = 1500 ∧
    running.groups[valveGroup 8].state = .running ∧ running.olp.ac = .ok ∧
    running.tbs.limits.gammaMin ≤ 1700 ∧ (1699 : Int) < running.tbs.limits.gammaMin ∧
    revisedTo (onTimeMeasurement ((withRecords [planned10]).at 1700000#32) 8 1500) planned10 ≠
      planned10 ∧
    (0 : Int) < running.tbs.limits.gammaMin ∧ lower.tbs.limits.gammaMin ≤ 1500 ∧
    running.exm.correction[valveBridge 8] ≤ running.tbs.limits.cMax := by
  exact ⟨returns_one_slot (by decide +kernel), by decide +kernel⟩

/-- With a BYPASS record left, and with none. -/
theorem witness_BypassHoldTimerExpires :
    let g := { groupIn .bypassing with holdTimer := some 5800000#32 }
    let bypassing (rs : List FireRecord) : State :=
      { withRecords rs with groups := setAt running.groups 1 g }
    passed 5800000#32 5800000#32 = true ∧
    (∀ s ∈ [bypassing [bypass15], bypassing []],
      s.groups[(1 : Group)].holdTimer = some 5800000#32 ∧
      s.groups[(1 : Group)].state = .bypassing) ∧
    (bypassing [bypass15]).groupBusy 1 = true ∧ (bypassing []).groupBusy 1 = false := by decide +kernel

theorem witness_DroppedAndUnknownFrames :
    ([] : List Byte).length ≠ 8 ∧ (2#8 : Byte) ≠ 1#8 ∧ lengthOk 2#8 [] = false ∧
    replyCount running.olp.queue < 3 := by decide +kernel

/-- An ORDER with α_ord 14600, Id 1100, U 1000 and the flags of two bytes. -/
def orderBytes (g1 g2 : Byte) : List Byte := [0x39#8, 0x08#8, 0x04#8, 0x4C#8, 0x03#8, 0xE8#8, g1, g2]

/-- A duplicate, a new number, and a management frame with the same number. -/
theorem witness_OrderSequenceHandling :
    (orderBytes 1#8 0#8).length = 8 ∧ running.olp.lastSeq = some 16#8 ∧
    running.olp.lastSeq ≠ some 17#8 ∧
    frameOf (.counters 5#32 16#8) = some (7#8, 16#8, [7#8]) ∧
    (Instr.counters 5#32 16#8).wf = true ∧ (7#8 : Byte) ≠ 1#8 ∧
    running.olp.sending = none ∧ running.olp.queue = [] := by decide +kernel

/-- Quantities in range, one of them one above its range, the AC levels at their edges, and a frame
being sent. -/
theorem witness_AcceptedOrderIsAdopted :
    let high : List Byte := [0x46#8, 0x51#8, 0#8, 0#8, 0#8, 0#8, 0#8, 0#8]
    (orderBytes 1#8 0#8).length = 8 ∧ running.olp.lastSeq ≠ some 17#8 ∧
    (orderOfPayload (orderBytes 1#8 0#8)).alpha = 14600 ∧ high.length = 8 ∧
    (orderOfPayload high).alpha = 18001 ∧ running.olp.ac = .ok ∧ State.reset.olp.ac = .low ∧
    running.olp.sending = none ∧ running.olp.queue = [] ∧ fullQueue.olp.sending ≠ none ∧
    fullQueue.olp.lastSeq ≠ some 17#8 := by decide +kernel

/-- A bridge that has fired and one that has not. -/
theorem witness_OrderWithBypassEntersBypassing :
    let s := { inState .blocked with fsc := { Fsc.reset with lastFired := #v[some 1, none, none, none] } }
    (orderBytes 6#8 0#8).length = 8 ∧ s.olp.lastSeq ≠ some 17#8 ∧
    s.groups[(0 : Group)].state = .blocked ∧
    (orderOfPayload (orderBytes 6#8 0#8)).flags[(0 : Group)].bypass = true := by decide +kernel

/-- A hold window of 10 ms, and one of 0 ms that ends at once; the hold timer of a RUNNING group. -/
theorem witness_OrderTimersExpire :
    let s := { running with tbs := { running.tbs with
      limits := { LimitsTable.defaults with holdWindow := 0 } } }
    let h := { running with olp := { running.olp with
      orderState := .hold, holdTimer := some 50420000#32, watchdog := none } }
    running.olp.orderState = .ok ∧ running.olp.watchdog = some 50020000#32 ∧
    passed 50020000#32 50020000#32 = true ∧
    passed 50020000#32 (addTb 50020000#32 (running.tbs.limits.holdWindow * 40000 : Nat)) = false ∧
    s.olp.orderState = .ok ∧ s.olp.watchdog = some 50020000#32 ∧
    passed 50020000#32 (addTb 50020000#32 (s.tbs.limits.holdWindow * 40000 : Nat)) = true ∧
    s.groups[(0 : Group)].state = .running ∧
    Machine.commandOf s.olp.order.flags[(0 : Group)] ≠ .block ∧
    Machine.commandOf s.olp.order.flags[(0 : Group)] ≠ .bypass ∧
    h.olp.orderState = .hold ∧ h.olp.holdTimer = some 50420000#32 ∧
    passed 50420000#32 50420000#32 = true ∧ h.groups[(0 : Group)].state = .running := by
  decide +kernel

theorem witness_TransmitEndTakesTheNextFrame :
    let s := withOlp { Olp.reset with sending := some ⟨[], 1488#32⟩ }
    fullQueue.olp.sending = some ⟨[], 1488#32⟩ ∧ passed 1488#32 1488#32 = true ∧
    fullQueue.olp.queue = waiting 1#8 :: [.status, waiting 2#8, waiting 3#8] ∧
    s.olp.sending = some ⟨[], 1488#32⟩ ∧ s.olp.queue = [] := by decide +kernel

theorem witness_BusyQueueDropsEveryRequest :
    frameOf (.clearCounters 9#32 5#8) = some (8#8, 5#8, [2#8]) ∧
    (Instr.clearCounters 9#32 5#8).time? = some 9#32 ∧ (Instr.clearCounters 9#32 5#8).wf = true ∧
    (8#8 : Byte) ≠ 1#8 ∧ replyCount fullQueue.olp.queue = 3 := by decide +kernel

/-- The bytes of the last row of the ST, every field at the top of its range. -/
def row24 : List Byte :=
  [24#8, 0xFF#8, 0xFF#8, 0xFF#8, 0xFF#8, 120#8, 12#8, 0x9C#8, 0x40#8, 0x9C#8, 0x40#8]

/-- A row in range, the rows on either side of the ST's range, an unknown table, and an LT row and an ST row
with a field outside its range. -/
theorem witness_TableWriteGoesToTheShadow :
    let low := fieldBytes limitsFields { LimitsTable.defaults with alphaMin := 299 }.toFields
    replyCount running.olp.queue < 3 ∧ row24.length = rowSize .station ∧
    (24#8 : Byte).toNat ≤ rowCount .station ∧
    rowInRange .station (parseFields (rowFields .station) row24) = true ∧ low.length = 31 ∧
    firstBadField .limits 1 limitsFields (parseFields limitsFields low) = some 1 ∧
    firstBadField .station 1 (rowFields .station)
      (parseFields (rowFields .station) (25#8 :: row24.drop 1)) = some 1 ∧
    (0#8 : Byte).toNat = 0 ∧ rowCount .station < (25#8 : Byte).toNat ∧ tableOfCode 0#8 = none ∧
    tableOfCode 6#8 = none := by
  decide +kernel

/-- An LT and an OT shadow in a RUNNING group, a CT shadow with both groups BLOCKED. -/
theorem witness_CommitsTakeEffect :
    let lt := { LimitsTable.defaults with cMax := 50, acAssert := 749 }
    let s := { running with tbs := { running.tbs with
      limitsShadow := some lt, overlapShadow := some OverlapTable.defaults } }
    let b := { blocked with tbs := { blocked.tbs with
      converterShadow := some ConverterTable.defaults } }
    s.tbs.limitsShadow = some lt ∧ lt.acAssert < lt.acRelease ∧ replyCount s.olp.queue < 3 ∧
    s.groups[(0 : Group)].state = .running ∧ s.tbs.overlapShadow = some OverlapTable.defaults ∧
    b.tbs.converterShadow = some ConverterTable.defaults ∧
    ConverterTable.defaults.lockWindow < ConverterTable.defaults.captureWindow ∧
    (∀ g : Group, b.groups[g].state = .blocked) ∧ b.pru.lock ≠ .unlocked ∧
    (∀ g : Group, Machine.commandOf b.olp.order.flags[g] ≠ .bypass) := by decide +kernel

/-- No such table, no shadow, a group that is not BLOCKED, an ST row that fails, and an LT row that fails
while G1 is RUNNING. -/
theorem witness_CommitIsRefused :
    let opened (s : State) : State := { s with tbs := { s.tbs with
      stationShadow := some (mapVec some (setAt plainTable 2 ⟨3, 0#32, 60, 3, 200, 500⟩)) } }
    let limits : State := { running with tbs := { running.tbs with
      limitsShadow := some { LimitsTable.defaults with acAssert := LimitsTable.defaults.acRelease } } }
    tableOfCode 6#8 = none ∧ hasShadow running.tbs .limits = false ∧
    hasShadow (opened running).tbs .station = true ∧
    (opened running).groups[(0 : Group)].state ≠ .blocked ∧
    (∀ g : Group, (opened State.reset).groups[g].state = .blocked) ∧
    failingRow (opened State.reset).tbs .station = some 4 ∧
    hasShadow limits.tbs .limits = true ∧ failingRow limits.tbs .limits = some 1 ∧
    limits.groups[(0 : Group)].state = .running ∧
    replyCount running.olp.queue < 3 := by decide +kernel

theorem witness_TableDiscardDropsTheShadow :
    replyCount running.olp.queue < 3 ∧ tableOfCode 0#8 = none ∧ tableOfCode 6#8 = none ∧
    hasShadow running.tbs .limits = false := by decide +kernel

/-- The first and last values of each argument, on either side of its range. -/
theorem witness_QueriesAreAnswered :
    let s := { running with tbs := { running.tbs with limitsShadow := some LimitsTable.defaults } }
    replyCount s.olp.queue < 3 ∧ (24#8 : Byte).toNat ≤ rowCount .station ∧
    hasShadow s.tbs .limits = true ∧ hasShadow s.tbs .ring = false ∧ tableOfCode 6#8 = none ∧
    24 < (25#8 : Byte).toNat ∧ (47#8 : Byte).toNat ≤ 47 ∧ 47 < (48#8 : Byte).toNat ∧
    rowCount .station < (25#8 : Byte).toNat ∧ rowCount .limits < (2#8 : Byte).toNat ∧
    (1#8 : Byte).toNat ≤ rowCount .limits ∧ 1 < (2#8 : Byte).toNat := by
  decide +kernel

/-- A valve beyond its redundancy at an ENROLLED station, and an index one above the range. -/
theorem witness_ClearingCommands :
    replyCount atLimit.olp.queue < 3 ∧ 24 < (25#8 : Byte).toNat ∧
    atLimit.lvm.levels[(21 : Valve)].state ≠ .healthy ∧ positionOf atLimit 21 = some 21 ∧
    atLimit.rgm.stations[(21 : RingPos)].state = .enrolled := by decide +kernel

/-- Allowed, and not allowed while G1 is RUNNING. -/
theorem witness_TestFirePlacesATestRecord :
    let s := { inState .blocked with tbs := { running.tbs with
      limits := { LimitsTable.defaults with testEnable := true } } }
    replyCount s.olp.queue < 3 ∧ s.groups[valveGroup 8].state = .blocked ∧
    s.tbs.limits.testEnable = true ∧ valveEnrolled s 8 = true ∧ (s.recordsOf 8).length < 2 ∧
    passed 1000000#32 (addTb (addTb 1000000#32 (2 * s.tbs.ring.ringInterval : Nat))
      s.tbs.ring.confirmTimeout) = false ∧
    running.groups[valveGroup 8].state ≠ .blocked := by decide +kernel

/-- TRIPPED with a sent NORMAL record left, and with none. -/
theorem witness_ResetTripLeavesTripped :
    let sent := { record9 with state := .armed, seq := some 41#8 }
    let tripped (rs : List FireRecord) : State :=
      { withRecords rs with groups := setAt running.groups 0 (groupIn .tripped) }
    (∀ s ∈ [tripped [sent], tripped []], replyCount s.olp.queue < 3 ∧
      s.groups[(0 : Group)].state = .tripped ∧
      ∀ r ∈ s.fsc.records, valveGroup r.valve = 0 → r.state ≠ .planned) ∧
    (tripped [sent]).groupBusy 0 = true ∧ (tripped []).groupBusy 0 = false ∧
    running.groups[(1 : Group)].state ≠ .tripped ∧ (0#8 : Byte) ≠ 1#8 ∧ (3#8 : Byte) ≠ 2#8 := by
  decide +kernel

/-- Refused while G1 is RUNNING; taken with an ST active and with none; a Ring Table and a Station Table to
commit. -/
theorem witness_RingRestartStartsAfresh :
    replyCount running.olp.queue < 3 ∧ running.groups[(0 : Group)].state ≠ .blocked ∧
    (∀ g : Group, blocked.groups[g].state = .blocked) ∧ blocked.tbs.station.isSome = true ∧
    blocked.rgm.link = .forward ∧ (∀ g : Group, State.reset.groups[g].state = .blocked) ∧
    State.reset.tbs.station = none ∧ replyCount blocked.olp.queue < 3 ∧
    RingTable.defaults.ackMargin < RingTable.defaults.dispatchHorizon ∧
    firstFailingRow (mapVec some plainTable) = none ∧
    (∀ g : Group, Machine.commandOf blocked.olp.order.flags[g] ≠ .bypass) := by decide +kernel

theorem witness_WarmRestartTakesRestartValues :
    replyCount blocked.olp.queue < 3 ∧ (∀ g : Group, blocked.groups[g].state = .blocked) ∧
    blocked.pru.lock ≠ .unlocked ∧
    ∀ g : Group, Machine.commandOf blocked.olp.order.flags[g] ≠ .bypass := by decide +kernel

/-- `running` after a cycle that came back whole, in which position 5, with `misses` missed, was not heard. -/
def cameBack (misses : Nat) : State :=
  { running with rgm := { running.rgm with
    stations := setAt running.rgm.stations 4 { enrolled with miss := misses }
    cycle := some { cycle24 with
      returnedF := true, lastReturn := some 1639650#32, heardF := setAt (fill 24 true) 4 false } } }

/-- The station not heard, below the station timeout of 3 and at it. -/
theorem witness_RingCycleStartSendsAFrame :
    ∀ m : Fin 3, ∃ c, (cameBack m).rgm.cycle = some c ∧ (cameBack m).rgm.link = .forward ∧
      c.probe = false ∧ c.returnedF = true ∧ (cameBack m).rgm.cycleAt = some 1640000#32 ∧
      passed 1640000#32 1640000#32 = true ∧ c.lastReturn = some 1639650#32 ∧
      (cameBack m).rgm.sendLatest = some 1638400#32 ∧ c.heardF[(4 : RingPos)] = false ∧
      c.heardR[(4 : RingPos)] = false ∧ c.heardF[(3 : RingPos)] = true ∧
      (cameBack m).rgm.stations[(4 : RingPos)].state = .enrolled ∧
      (min 15 (m.val + 1) < (cameBack m).tbs.ring.stationTimeout ↔ m ≠ 2) := by
  intro m
  refine ⟨_, rfl, ?_⟩
  revert m
  decide +kernel

/-- A CANCEL entry to resend and the first dispatch of B1D-3 (04, Life of a NORMAL Record), in each status
that carries entries, one cycle short of the probe. -/
theorem witness_DispatchFillsThePlaces :
    let cancelled := { record17 with
      state := .cancelling, decision := some 30#32, firstCancel := some 24#16 }
    let back (pattern : Pattern) (f r : Bool) : RingCycle := { cycle24 with
      pattern := pattern, returnedF := f, returnedR := r, lastReturn := some 1639650#32
      heardF := fill 24 f, heardR := fill 24 r }
    let at24 (x : LinkStatus) (c : RingCycle) : State :=
      let s := withRecords [record9, cancelled]
      { s with
        fsc := { s.fsc with nextSeq := setAt s.fsc.nextSeq 8 41#8 }
        rgm := { s.rgm with
          link := x, cycle := some c, probeCount := 14
          stations := mapVec (fun r => { r with member := some (if c.returnedF then .f else .r) })
            s.rgm.stations } }
    (∀ x ∈ [(LinkStatus.forward, back .forward true false), (.reverse, back .reverse false true),
        (.loopbackBoth, back .loopback true true), (.loopbackF, back .loopback true false),
        (.loopbackR, back .loopback false true)],
      let s := at24 x.1 x.2
      (x.1 = .forward ∨ x.1 = .reverse → x.2.returnedF = true ∨ x.2.returnedR = true) ∧
      (x.1 = .loopbackBoth → x.2.returnedF = true ∧ x.2.returnedR = true) ∧
      (x.1 = .loopbackF → x.2.returnedF = true ∧ x.2.returnedR = false) ∧
      (x.1 = .loopbackR → x.2.returnedF = false ∧ x.2.returnedR = true) ∧
      x.2.probe = false ∧ s.rgm.link = x.1 ∧ s.rgm.cycle = some x.2 ∧
      s.rgm.probeCount + 1 < s.tbs.ring.probeInterval ∧
      s.rgm.cycleAt = some 1640000#32 ∧
      (∀ p : RingPos, s.rgm.stations[p].state = .enrolled →
        x.2.heardF[p] = true ∨ x.2.heardR[p] = true) ∧
      eligible s 1640000#32 record9 = true ∧ eligible s 1640000#32 cancelled = true ∧
      positionOf s 8 = some 8 ∧ positionOf s 16 = some 16 ∧
      (s.recordsOf 8).filter (fun x => x.seq.isNone) = [record9]) ∧
    cancelled.seq = some 12#8 ∧ passed 1640000#32 1640000#32 = true := by decide +kernel

/-- A cycle start of `running` in a status, with runs, a probe count and the cycle to close. -/
def closing (x : LinkStatus) (fail overrun probes : Nat) (c : RingCycle) : State :=
  { running with rgm := { running.rgm with
    link := x, failRun := fail, overrunRun := overrun, probeCount := probes, cycle := some c
    downCause := if x = .down then .loopLost else .none
    downPattern := if x = .down then some .loopback else none } }

/-- A lost close in FORWARD with the fail run one below the loop fail count of 2, a late one in DOWN with the
overrun run one below it, a returned half in DOWN, a probe that returned. -/
theorem witness_ClosesDecideTheLinkStatus :
    let late := { cycle24 with overrun := true }
    let half := { cycle24 with pattern := .loopback, returnedR := true, heardR := fill 24 true }
    let probe := { cycle24 with probe := true, returnedF := true, heardF := fill 24 true }
    (∀ s ∈ [closing .forward 1 0 0 cycle24, closing .down 0 1 5 late, closing .down 8 0 0 half,
        closing .loopbackR 0 0 0 probe],
      s.rgm.cycleAt = some 1640000#32 ∧ passed 1640000#32 1640000#32 = true ∧
      s.rgm.link ≠ .stopped ∧ (s.rgm.link = .down → s.rgm.downPattern.isSome = true) ∧
      s.rgm.cycle.isSome = true ∧ s.tbs.ring.loopFailCount = 2) ∧
    (after (.ringCycleStart 1640000#32) (closing .forward 1 0 0 cycle24)).rgm.link = .reverse ∧
    (after (.ringCycleStart 1640000#32) (closing .down 0 1 5 late)).rgm.downCause = .loopLost ∧
    (after (.ringCycleStart 1640000#32) (closing .down 8 0 0 half)).rgm.link = .loopbackR ∧
    (after (.ringCycleStart 1640000#32) (closing .loopbackR 0 0 0 probe)).rgm.link = .forward := by
  decide +kernel

/-- Too short, a wrong header CRC, a frame of cycle 24 that returns in cycle 25, and one of cycle 24 that
returns turned, at R-in. -/
theorem witness_DiscardedFramesAreCounted :
    let f : CycleFrame := ⟨.f, 24#16, 1638400#32, [], []⟩
    readFrame (f.bytes.take 730) = .abort ∧ readFrame (0xFF#8 :: f.bytes.drop 1) = .crc ∧
    readFrame f.bytes = .complete 24#16 (some .f) (List.replicate 24 emptySlotBytes) ∧
    (24#16 : BitVec 16) ≠ { running.rgm with cycleNumber := 25#16 }.cycleNumber ∧
    (underWay running).rgm.cycle = some cycle24 ∧ ¬ FitsCycle cycle24 .f .rIn := by
  refine ⟨by decide +kernel, by decide +kernel, by decide +kernel, by decide +kernel, rfl, ?_⟩
  rintro ⟨h, -⟩
  cases h

/-- A frame with all its places filled, in FORWARD; an R-half that returns at F-in; a probe. -/
theorem witness_SentFrameReadsBack :
    let f : CycleFrame := ⟨.f, 24#16, 1638400#32, List.replicate 4 (23, .loopClear),
      List.replicate 8 ⟨23, .release, 255#8, 4294967295#32, 65535⟩⟩
    f.items.length ≤ 4 ∧ f.entries.length ≤ 8 ∧ (underWay running).rgm.cycle = some cycle24 ∧
    FitsCycle cycle24 .f .fIn ∧ f.number = (underWay running).rgm.cycleNumber ∧
    FitsCycle { cycle24 with pattern := .loopback, returnedF := true } .r .fIn ∧
    FitsCycle { cycle24 with probe := true, pattern := .loopback } .probe .fIn :=
  ⟨by decide, by decide, rfl, ⟨rfl, rfl⟩, rfl, rfl, ⟨rfl, rfl⟩⟩

/-- An IDENT slot of an ENROLLING position, a RUN slot of an ENROLLED one and of an ABSENT one; a RUN slot
with the turned flag in an R-half at F-in in LOOPBACK_BOTH, and in a probe. -/
theorem witness_GoodSlotReachesItsBlocks :
    let at9 (x : StationState) : State := underWay { running with rgm := { running.rgm with
      stations := setAt running.rgm.stations 8 { enrolled with state := x } } }
    let fired : RunSlot := ⟨.ready, .blocking, [], [(41#8, 1655281#32)], none, []⟩
    (∀ s ∈ [at9 .enrolling],
      ReturnsOneSlot s .fIn (returned 9 [1#8, 5#8, 0#8, 0#8, 0#8, 0x9D#8, 0x19#8, 60#8]) cycle24 .f 8
        plainTable[8] true true (.ident ⟨40217#32, 60, false⟩)) ∧
    (∀ s ∈ [at9 .enrolled, at9 .absent],
      ReturnsOneSlot s .fIn (returned 9 fired41) cycle24 .f 8 plainTable[8] false false (.run fired)) ∧
    (at9 .enrolled).rgm.stations[(8 : RingPos)].state = .enrolled ∧
    (at9 .absent).rgm.stations[(8 : RingPos)].state = .absent ∧
    let loops := { cycle24 with pattern := .loopback, returnedF := true }
    let probes := { cycle24 with pattern := .loopback, probe := true }
    let under (c : RingCycle) : State := { running with rgm := { running.rgm with
      link := .loopbackBoth, cycle := some c } }
    let turned41 : List Byte := 2#8 :: 2#8 :: fired41.drop 2
    ReturnsOneSlot (under loops) .fIn (returnedBy .r 9 turned41) loops .r 8 plainTable[8] false true
      (.run fired) ∧
    ReturnsOneSlot (under probes) .fIn (returnedBy .probe 9 turned41) probes .probe 8 plainTable[8] false
      true (.run fired) := by
  refine ⟨returns_one_slot (by decide +kernel), returns_one_slot (by decide +kernel), by decide +kernel,
    by decide +kernel,
    ⟨⟨(List.replicate 24 emptySlotBytes).set 8 (slot (2#8 :: 2#8 :: fired41.drop 2)), ?_, ?_⟩, rfl, ?_, rfl⟩,
    ⟨⟨(List.replicate 24 emptySlotBytes).set 8 (slot (2#8 :: 2#8 :: fired41.drop 2)), ?_, ?_⟩, rfl, ?_, rfl,
      rfl⟩⟩ <;> decide +kernel

/-- 06, Enrolling a Ring with One Mismatched Station: position 7 reports 58 levels, then 60. -/
theorem witness_ThirdIdentDecidesEnrolment :
    let row : StationRow := ⟨6, 40217#32, 60, 3, 500, 500⟩
    let third (i : Ident) : State := underWay { running with
      rgm := { running.rgm with
        stations := setAt running.rgm.stations 6
          { Station.reset with state := .enrolling, lastIdent := some i, consistent := 2 } }
      tbs := { running.tbs with station := some (setAt plainTable 6 row) } }
    let bytes (levels : Byte) : List Byte :=
      [1#8, 2#8, 0#8, 0#8, 0#8, 0x9D#8, 0x19#8, levels]
    (∀ s ∈ [third ⟨40217#32, 58, true⟩], ReturnsOneSlot s .fIn (returned 7 (bytes 58#8)) cycle24 .f 6
      row false false (.ident ⟨40217#32, 58, true⟩)) ∧
    (∀ s ∈ [third ⟨40217#32, 60, true⟩], ReturnsOneSlot s .fIn (returned 7 (bytes 60#8)) cycle24 .f 6
      row false false (.ident ⟨40217#32, 60, true⟩)) ∧
    (third ⟨40217#32, 58, true⟩).rgm.stations[(6 : RingPos)].state = .enrolling ∧
    (third ⟨40217#32, 58, true⟩).rgm.stations[(6 : RingPos)].lastIdent = some ⟨40217#32, 58, true⟩ ∧
    (third ⟨40217#32, 58, true⟩).rgm.stations[(6 : RingPos)].consistent = 2 ∧
    (58 : Nat) ≠ row.levels ∧ (40217#32 : BitVec 32) = row.identity ∧ (60 : Nat) = row.levels ∧
    (40218#32 : BitVec 32) ≠ row.identity ∧ row.identity ≠ 0#32 ∧
    (takeIdent (third ⟨40217#32, 58, true⟩) 6 row 3#16 ⟨40217#32, 58, true⟩).rgm.stations[
      (6 : RingPos)].mismatch = .levels := by
  exact ⟨returns_one_slot (by decide +kernel), returns_one_slot (by decide +kernel), by decide +kernel⟩

/-- 08, slot D, as taken and as its frame comes back. -/
theorem witness_FailedLevelBeyondRedundancyTrips :
    (∀ s ∈ [underWay atLimit],
      ReturnsOneSlot s .fIn (returned 22 (2#8 :: 0#8 :: 32#8 :: List.replicate 17 0#8 ++ [52#8, 1#8]))
        cycle24 .f 21 plainTable[21] false false (.run ⟨.ready, .blocking, [], [], none, [(52, .short)]⟩)) ∧
    (underWay atLimit).rgm.stations[(21 : RingPos)].state = .enrolled ∧
    (plainTable[21] : StationRow).valve = 21 ∧ 1 ≤ (52 : Nat) ∧
    (52 : Nat) ≤ levels22.installed ∧ (∀ x ∈ levels22.failed, x.1 ≠ 52) ∧
    levels22.failed.length < 16 ∧ levels22.redundancy ≤ levels22.failed.length ∧
    levels22.state ≠ .overLimit ∧ (underWay atLimit).lvm.levels[(21 : Valve)] = levels22 ∧
    (underWay atLimit).groups[valveGroup 21].state = .running := by
  exact ⟨returns_one_slot (by decide +kernel), by decide +kernel⟩

theorem witness_LinkFramesReadBack :
    let i := Instr.tableWrite 9#32 5#8 4#8 24#8 row24
    i.wf = true ∧ frameOf i = some (4#8, 5#8, 4#8 :: 24#8 :: row24) ∧ i.time? = some 9#32 := by
  decide +kernel

theorem witness_WrittenRowsReadBack :
    let t := { Tbs.reset with stationShadow := some (fill 24 none) }
    let s := { running with tbs := writeRow t .station 24#8 (parseFields (rowFields .station) row24) }
    row24.length = rowSize .station ∧ 1 ≤ (24#8 : Byte).toNat ∧
    (24#8 : Byte).toNat ≤ rowCount .station ∧
    rowInRange .station (parseFields (rowFields .station) row24) = true ∧
    (1#8 : Byte) ≠ 24#8 ∧ hasShadow t .station = true ∧ replyCount s.olp.queue < 3 := by
  decide +kernel

end Sys2Proof.Tests
end

section
/-! PROOFS. Commands and the clock: every command completes (O2), the idle step queues the events of the
armed instants it reaches (O3), and power-up (O19). -/

namespace Sys2Proof.Machine

/-! ## Every command has a next state -/

/-- The frame of a command names neither the timebase nor the queue: only power-up has no time. -/
theorem clock_and_queue_not_touched (c : Instr) (n : Time) (h : c.time? = some n) :
    Block.now ∉ touches c ∧ Block.pending ∉ touches c := by
  cases c with
  | powerUp => cases h
  | _ => simp [touches]

/-- Settles O2: the frame of the command leaves its time and the queue; power-up has no time and keeps
the queue. -/
theorem everyCommandCompletes : Obligations.EveryCommandCompletes := by
  intro c s
  cases time : c.time? with
  | none =>
    cases c with
    | powerUp => exact ⟨_, rfl, rfl, fun _ h => nomatch h⟩
    | _ => cases time
  | some n =>
    obtain ⟨t, run, only⟩ := exec_touches c s n time
    obtain ⟨clock, queue⟩ := clock_and_queue_not_touched c n time
    refine ⟨t, run, only.pending queue, fun m same => ?_⟩
    cases same
    exact only.now clock

/-! ## The events of reached instants -/

theorem State.reached_iff (s : State) (i : Option Time) :
    s.reached i = true ↔ ∃ x, i = some x ∧ passed s.now x = true := by
  cases i with
  | none => simp [State.reached]
  | some x => simp [State.reached]

theorem mem_dueEvent (s : State) (i : Option Time) (c d : Instr) :
    c ∈ dueEvent s i d ↔ c = d ∧ s.reached i = true := by
  unfold dueEvent
  split
  · next h => simp [h]
  · next h => simp [h]

/-- A live record of the valve has reached the instant. -/
def RecordDue (s : State) (instant : FireRecord → Option Time) (v : Valve) : Prop :=
  ∃ r ∈ s.fsc.records, r.valve = v ∧ s.reached (instant r) = true

theorem mem_dueRecords (s : State) (instant : FireRecord → Option Time) (make : Valve → Instr)
    (c : Instr) : c ∈ dueRecords s instant make ↔
      ∃ v, c = make v ∧ RecordDue s instant v := by
  simp only [dueRecords, List.mem_flatMap, mem_dueEvent]
  constructor
  · rintro ⟨r, live, same, due⟩
    exact ⟨r.valve, same, r, live, rfl, due⟩
  · rintro ⟨_, same, r, live, rfl, due⟩
    exact ⟨r, live, same, due⟩

/-- Sorting by time keeps the valves whose planning instant is selected (R34). -/
theorem mem_planningOrder (s : State) (sel : Planning → Bool) (v : Valve) :
    v ∈ planningOrder s sel ↔ ∃ p, s.fac.plannings[v] = some p ∧ sel p = true := by
  unfold planningOrder
  simp only [List.mem_map, (sortBy_perm _ _).mem_iff, List.mem_filterMap, List.mem_finRange,
    true_and]
  constructor
  · rintro ⟨⟨w, x⟩, ⟨u, armed⟩, rfl⟩
    split at armed
    · cases armed
    · next p planned =>
      split at armed
      · next chosen =>
        cases armed
        exact ⟨p, planned, chosen⟩
      · cases armed
  · rintro ⟨p, planned, chosen⟩
    exact ⟨(v, p.time), ⟨v, by simp [planned, chosen]⟩, rfl⟩

theorem mem_duePlannings (s : State) (c : Instr) :
    c ∈ duePlannings s ↔ ∃ v, c = .planningInstant s.now v ∧
      s.reached (s.fac.plannings[v].map Planning.time) = true := by
  have armed (v : Valve) : (∃ p, s.fac.plannings[v] = some p ∧ s.reached (some p.time) = true) ↔
      s.reached (s.fac.plannings[v].map Planning.time) = true := by
    cases s.fac.plannings[v] <;> simp [State.reached]
  simp only [duePlannings, List.mem_map, mem_planningOrder, armed]
  exact ⟨fun ⟨v, due, same⟩ => ⟨v, same.symm, due⟩, fun ⟨v, same, due⟩ => ⟨v, due, same.symm⟩⟩

theorem mem_dueDeadlines (s : State) (c : Instr) :
    c ∈ dueDeadlines s ↔ ∃ v, c = .deadlineInstant s.now v ∧ s.reached (deadlineOf s v) = true := by
  simp [dueDeadlines, mem_dueEvent]

theorem mem_dueHoldTimers (s : State) (c : Instr) :
    (c ∈ (List.finRange 2).flatMap fun g : Group =>
      dueEvent s s.groups[g].holdTimer (.bypassHoldTimer s.now g)) ↔
      ∃ g : Group, c = .bypassHoldTimer s.now g ∧ s.reached s.groups[g].holdTimer = true := by
  simp [mem_dueEvent]

theorem deadlineOf_reached (s : State) (v : Valve) : s.reached (deadlineOf s v) = true ↔
    ∃ p, s.exm.pendings[v] = some p ∧ p.expired = false ∧ passed s.now p.deadline = true := by
  unfold deadlineOf
  split
  · next none => simp [none, State.reached]
  · next p opened => cases e : p.expired <;> simp [opened, e, State.reached]

theorem watchdogOf_reached (s : State) : s.reached (watchdogOf s) = true ↔
    s.olp.orderState = .ok ∧ s.reached s.olp.watchdog = true := by
  unfold watchdogOf
  split
  · next ok => simp [ok]
  · next other => simp [other, State.reached]

theorem holdTimerOf_reached (s : State) : s.reached (holdTimerOf s) = true ↔
    s.olp.orderState = .hold ∧ s.reached s.olp.holdTimer = true := by
  unfold holdTimerOf
  split
  · next hold => simp [hold]
  · next other => simp [other, State.reached]

/-- The command is the event of an armed instant that the timebase has reached (R7). -/
def eventDue (s : State) : Instr → Prop
  | .captureWatch _ => s.reached s.pru.watch
  | .cycleMarker _ => s.reached s.pru.marker
  | .planningInstant _ v => s.reached (s.fac.plannings[v].map Planning.time)
  | .deadlineInstant _ v => s.reached (deadlineOf s v)
  | .latenessInstant _ v => RecordDue s FireRecord.latenessAt v
  | .confirmInstant _ v => RecordDue s FireRecord.confirmAt v
  | .holdInstant _ v => RecordDue s FireRecord.holdAt v
  | .releaseTimeout _ v => RecordDue s FireRecord.releaseAt v
  | .bypassHoldTimer _ g => s.reached s.groups[g].holdTimer
  | .orderWatchdog _ => s.reached (watchdogOf s)
  | .holdTimer _ => s.reached (holdTimerOf s)
  | .ringCycleStart _ => s.reached s.rgm.cycleAt
  | .transmitEnd _ => s.reached (sendingEnd s)
  | _ => False

/-- Counting the timebase queues every event that is due, at the present time, and no other command. -/
theorem mem_dueEvents (s : State) (c : Instr) :
    c ∈ dueEvents s ↔ c.time? = some s.now ∧ eventDue s c := by
  simp only [dueEvents, List.mem_append, mem_dueEvent, mem_duePlannings, mem_dueDeadlines,
    mem_dueRecords, mem_dueHoldTimers]
  cases c <;> simp [Instr.time?, eventDue, -Fin.exists_fin_two]

theorem step_of_idle (s : State) (idle : s.pending = []) : step s = .next (tick s) := by
  simp [step, idle]

/-- Settles O3: the idle step queues `dueEvents`, whose members are the events of the instants reached. -/
theorem idleStepCountsTheTimebase : Obligations.IdleStepCountsTheTimebase := by
  intro s idle n due
  refine ⟨dueEvents (s.at n), step_of_idle s idle, fun c => ?_⟩
  have armed (i : Option Time) : (s.at n).reached i = true ↔ due i := State.reached_iff _ i
  rw [mem_dueEvents]
  refine and_congr_right fun _ => ?_
  cases c with
  | deadlineInstant _ v => exact deadlineOf_reached _ v
  | orderWatchdog _ => exact (watchdogOf_reached _).trans (and_congr_right fun _ => armed _)
  | holdTimer _ => exact (holdTimerOf_reached _).trans (and_congr_right fun _ => armed _)
  | latenessInstant _ v | confirmInstant _ v | holdInstant _ v | releaseTimeout _ v =>
    simp only [eventDue, RecordDue, armed, State.at_fsc]
  | captureWatch _ | cycleMarker _ | planningInstant _ v | bypassHoldTimer _ g | ringCycleStart _
  | transmitEnd _ => exact armed _
  | _ => exact .rfl

/-! ## Power-up -/

/-- R158: the inhibit set of both groups at power-up is the one their deblock conditions give. -/
theorem inhibits_at_power_up : ∀ g : Group,
    State.reset.groups[g].inhibits = inhibitSet State.reset g := by decide

/-- Settles O19, part by part of the tables that hold one entry per valve, position, bridge or group. -/
theorem powerUpAtTheOtherBlocks : Obligations.PowerUpAtTheOtherBlocks := by
  intro s
  refine ⟨_, rfl, rfl, fun v => ?valves, rfl, rfl, rfl, rfl, rfl, rfl, rfl, rfl, rfl, rfl,
    fun p => ?positions, fun b => ?bridges, fun g => ?groups, rfl, rfl, rfl, rfl, rfl, rfl,
    fun f => ?flags, rfl, rfl, rfl, rfl, rfl, rfl, rfl, rfl, rfl, rfl, rfl, rfl, rfl, rfl,
    fun id => ?shadows⟩
  case valves =>
    simp only [State.reset, Fac.reset, Fsc.reset, Exm.reset, Lvm.reset, ValveFiring.reset,
      LevelRecord.reset, fill_get, and_self]
  case positions =>
    simp only [State.reset, Fsc.reset, Rgm.reset, Station.reset, fill_get, and_self]
  case bridges => simp only [State.reset, Fsc.reset, Exm.reset, Fac.reset, fill_get, and_self]
  case groups =>
    have inhibits : inhibitSet { State.reset with pending := s.pending } g =
      State.reset.groups[g].inhibits := (inhibits_at_power_up g).symm
    rw [inhibits]
    simp only [State.reset, Fac.reset, Exm.reset, GroupRecord.reset, fill_get, and_self]
  case flags => simp only [State.hasFlag, State.reset, Olp.reset, fill_get]
  case shadows => cases id <;> rfl

end Sys2Proof.Machine
end

section
/-! PROOFS. The end of a record that does not fire: the steps an event at a group is made of, what they
leave of a valve, the trip that stands against the notices of removed records, and the confirm instant
(O29). -/

namespace Sys2Proof.Machine

/-! ## The steps an event at a group is made of -/

/-- One part of what the Group Controller does with an event: a group's record or a sticky flag is
written, the Firing Angle Calculator is told, or the Fire Schedule is asked for a bypass, a cancel
decision or a release decision (R142 to R155). -/
inductive GroupStep : State → State → Prop where
  | group (s : State) (g : Group) (r : GroupRecord) : GroupStep s (s.setGroup g r)
  | flag (s : State) (f : StickyFlag) : GroupStep s (s.setFlag f)
  | fac (s : State) (x : Fac) : GroupStep s (s.setFac x)
  | bypass (s : State) (v : Valve) : GroupStep s (tryBypass s v)
  | cancel (s : State) (g : Group) : GroupStep s (cancelDecision s g).1
  | release (s : State) (g : Group) : GroupStep s (releaseDecision s g)

/-- `s'` comes from `s` by steps of the Group Controller. -/
abbrev GroupSteps : State → State → Prop := Relation.ReflTransGen GroupStep

theorem GroupStep.steps {s s' : State} (h : GroupStep s s') : GroupSteps s s' := .single h

/-- Steps for every element are steps for a list. -/
theorem GroupSteps.foldl {α : Type} (f : State → α → State) (h : ∀ s x, GroupSteps s (f s x))
    (xs : List α) (s : State) : GroupSteps s (xs.foldl f s) := by
  induction xs generalizing s with
  | nil => exact .refl
  | cons x xs ih => exact (h s x).trans (ih _)

theorem bypassRequest_steps (s : State) (v : Valve) : GroupSteps s (bypassRequest s v) := by
  unfold bypassRequest
  split
  · exact .refl
  · exact (GroupStep.bypass s v).steps

theorem retryOne_steps (s : State) (v : Valve) : GroupSteps s (retryOne s v) := by
  unfold retryOne
  split
  · exact (GroupStep.bypass s v).steps
  · exact .refl

theorem retryWaiting_steps (s : State) (v : Valve) : GroupSteps s (retryWaiting s v) :=
  GroupSteps.foldl _ retryOne_steps _ s

theorem enterPattern_steps (s : State) (g : Group) : GroupSteps s (enterPattern s g).1 :=
  (GroupStep.group s g _).steps.trans ((GroupStep.cancel _ g).steps.trans
    (GroupSteps.foldl _ bypassRequest_steps _ _))

theorem enterBypassing_steps (s : State) (g : Group) (timed : Bool) :
    GroupSteps s (enterBypassing s g timed).1 :=
  (GroupStep.group s g _).steps.trans ((GroupStep.group _ g _).steps.trans (enterPattern_steps _ g))

theorem checkStopped_steps (s : State) (g : Group) : GroupSteps s (checkStopped s g) := by
  unfold checkStopped
  split
  · exact .refl
  · exact (GroupStep.group s g _).steps

theorem stopDirect_steps (s : State) (g : Group) : GroupSteps s (stopDirect s g).1 :=
  (GroupStep.group s g _).steps.trans ((GroupStep.cancel _ g).steps.trans (checkStopped_steps _ g))

theorem stopBypass_steps (s : State) (g : Group) : GroupSteps s (stopBypass s g) :=
  (GroupStep.group s g _).steps.trans ((GroupStep.group _ g _).steps.trans
    ((GroupStep.group _ g _).steps.trans ((GroupStep.release _ g).steps.trans
      (checkStopped_steps _ g))))

theorem enterDeblocking_steps (s : State) (g : Group) : GroupSteps s (enterDeblocking s g) := by
  have left : GroupSteps s (if decide (s.groups[g].state = .bypassing) then
      releaseDecision (((s.setGroupState g .deblocking).setHoldTimer g none).clearPairs g) g
      else s.setGroupState g .deblocking) := by
    split
    · exact (GroupStep.group s g _).steps.trans ((GroupStep.group _ g _).steps.trans
        ((GroupStep.group _ g _).steps.trans (GroupStep.release _ g).steps))
    · exact (GroupStep.group s g _).steps
  exact left.trans ((GroupStep.group _ g _).steps.trans (GroupStep.fac _ _).steps)

theorem markTripped_steps (s : State) (g : Group) (c : TripCause) :
    GroupSteps s (markTripped s g c) :=
  (GroupStep.group s g _).steps.trans (GroupStep.flag _ _).steps

theorem trip_steps (s : State) (g : Group) (c : TripCause) : GroupSteps s (trip s g c).1 := by
  refine (markTripped_steps s g c).trans ?_
  unfold trip
  dsimp only
  split
  · split
    · exact .refl
    · exact enterPattern_steps _ g
  · exact (GroupStep.group _ g _).steps.trans ((GroupStep.cancel _ g).steps.trans
      (GroupStep.release _ g).steps)

theorem tripEvent_steps (s : State) (g : Group) (c : TripCause) :
    GroupSteps s (tripEvent s g c).1 := by
  unfold tripEvent
  dsimp only
  split
  · exact trip_steps s g c
  · split
    · exact (GroupStep.group s g _).steps
    · exact .refl

theorem outcomeEvent_steps (s : State) (g : Group) (v : Valve) (normal : Bool) (o : RecordOutcome) :
    GroupSteps s (outcomeEvent s g v normal o).1 := by
  unfold outcomeEvent
  split
  · exact (GroupStep.group s g _).steps
  · exact tripEvent_steps s g _
  · split
    · exact tripEvent_steps s g _
    · exact .refl
  · exact .refl

theorem resetTripped_steps (s : State) (g : Group) : GroupSteps s (resetTripped s g).1 :=
  (GroupStep.group s g _).steps.trans ((GroupStep.cancel _ g).steps.trans
    ((GroupStep.release _ g).steps.trans (checkStopped_steps _ g)))

theorem ownEffect_steps (s : State) (g : Group) (e : GroupEvent) :
    GroupSteps s (ownEffect s g e).1 := by
  cases e with
  | orderState lost | lockChange lost =>
    cases lost
    · exact .refl
    · exact tripEvent_steps s g _
  | stationFault | levelLimit | repeatedCf => exact tripEvent_steps s g _
  | outcome v normal o => exact outcomeEvent_steps s g v normal o
  | recordsEnded =>
    unfold ownEffect
    dsimp only
    split
    · exact (GroupStep.group s g _).steps
    · exact .refl
  | holdExpiry =>
    unfold ownEffect
    dsimp only
    split
    · exact stopBypass_steps s g
    · exact .refl
  | resetTrip =>
    unfold ownEffect
    dsimp only
    split
    · exact resetTripped_steps s g
    · exact .refl
  | orderAdopted | ringStatus | stationEnrolled | levelRestored | tableCommit | testFire =>
    exact .refl

theorem applyFlags_steps (s : State) (g : Group) : GroupSteps s (applyFlags s g).1 := by
  unfold applyFlags
  dsimp only
  split
  case h_1 | h_3 | h_4 => exact enterBypassing_steps s g false
  case h_2 | h_9 =>
    split
    · exact enterDeblocking_steps s g
    · exact .refl
  case h_5 | h_6 =>
    split
    · exact stopDirect_steps s g
    · exact enterBypassing_steps s g true
  case h_7 => exact (GroupStep.group s g _).steps
  case h_8 =>
    split
    · exact stopBypass_steps s g
    · exact .refl
  case h_10 => exact .refl

theorem handleEvent_steps (s : State) (g : Group) (e : GroupEvent) :
    GroupSteps s (handleEvent s g e).1 :=
  (ownEffect_steps s g e).trans ((GroupStep.group _ g _).steps.trans (applyFlags_steps _ g))

theorem runEvents_steps (fuel : Nat) (ns : Notices) (s : State) :
    GroupSteps s (runEvents fuel ns s) := by
  induction fuel generalizing ns s with
  | zero => exact .refl
  | succ n ih =>
    cases ns with
    | nil => exact .refl
    | cons e ns => exact (handleEvent_steps s e.1 e.2).trans (ih _ _)

theorem groupEvent_steps (s : State) (g : Group) (e : GroupEvent) :
    GroupSteps s (groupEvent s g e) := runEvents_steps _ _ s

theorem giveNotices_steps (s : State) (ns : Notices) : GroupSteps s (giveNotices s ns) :=
  GroupSteps.foldl (fun s (e : Group × GroupEvent) => groupEvent s e.1 e.2)
    (fun s e => groupEvent_steps s e.1 e.2) ns s

/-! ## What the steps leave of a valve -/

/-- Every live record of the valve is a BYPASS record. -/
def BypassOnly (s : State) (v : Valve) : Prop :=
  ∀ x ∈ s.fsc.records, x.valve = v → x.isBypass = true

/-- `s'` has the valve's record, the last fired valves and the Fire Schedule's counters of `s`, and
BYPASS records alone of the valve. -/
structure ValveKept (v : Valve) (s s' : State) : Prop where
  firing : s'.fsc.valves[v] = s.fsc.valves[v]
  lastFired : s'.fsc.lastFired = s.fsc.lastFired
  fireLate : s'.fsc.fireLate = s.fsc.fireLate
  fireMissed : s'.fsc.fireMissed = s.fsc.fireMissed
  timingDeviation : s'.fsc.timingDeviation = s.fsc.timingDeviation
  unconfirmed : s'.fsc.unconfirmed = s.fsc.unconfirmed
  bypass : BypassOnly s' v

/-- From a state with BYPASS records alone of the valve, the valve is kept. -/
def Spares (v : Valve) (s s' : State) : Prop := BypassOnly s v → ValveKept v s s'

theorem Spares.refl (v : Valve) (s : State) : Spares v s s :=
  fun only => ⟨rfl, rfl, rfl, rfl, rfl, rfl, only⟩

theorem Spares.trans {v : Valve} {a b c : State} (h : Spares v a b) (k : Spares v b c) :
    Spares v a c := by
  intro only
  have x := h only
  have y := k x.bypass
  exact ⟨y.firing.trans x.firing, y.lastFired.trans x.lastFired, y.fireLate.trans x.fireLate,
    y.fireMissed.trans x.fireMissed, y.timingDeviation.trans x.timingDeviation,
    y.unconfirmed.trans x.unconfirmed, y.bypass⟩

/-- An operation that leaves the Fire Schedule spares every valve. -/
theorem Spares.of_fsc {v : Valve} {s s' : State} (h : s'.fsc = s.fsc) : Spares v s s' := by
  intro only
  constructor
  case bypass => unfold BypassOnly; rw [h]; exact only
  all_goals rw [h]

theorem Spares.foldl {α : Type} {v : Valve} (f : State → α → State) (h : ∀ s x, Spares v s (f s x))
    (xs : List α) (s : State) : Spares v s (xs.foldl f s) := by
  induction xs generalizing s with
  | nil => exact .refl v s
  | cons x xs ih => exact (h s x).trans (ih _)

theorem tryBypass_spares (v w : Valve) (s : State) : Spares v s (tryBypass s w) := by
  intro only
  unfold tryBypass
  split
  · refine ⟨rfl, rfl, rfl, rfl, rfl, rfl, fun x live same => ?_⟩
    rcases (mem_insertBy _ _ _ _).mp live with rfl | old
    · rfl
    · exact only x old same
  · exact ⟨rfl, rfl, rfl, rfl, rfl, rfl, only⟩

theorem retryWaiting_spares (v w : Valve) (s : State) : Spares v s (retryWaiting s w) := by
  refine Spares.foldl _ (fun s w => ?_) _ s
  unfold retryOne
  split
  · exact tryBypass_spares v w s
  · exact .refl v s

/-- A decision that marks records and keeps their valves and kinds spares every valve. -/
theorem spares_of_marks {v : Valve} {s s' : State} (mark : FireRecord → FireRecord)
    (same : ∀ r, SameFiring r (mark r)) (records : s'.fsc.records = s.fsc.records.map mark)
    (rest : ∃ n w, s'.fsc = { s.fsc with
      records := s'.fsc.records, decisionCount := n, waiting := w }) : Spares v s s' := by
  intro only
  obtain ⟨n, w, rest⟩ := rest
  constructor
  case bypass =>
    intro x live valve
    rw [records] at live
    obtain ⟨y, old, rfl⟩ := List.mem_map.mp live
    rw [isBypass_of_body (same y).body]
    exact only y old ((same y).valve ▸ valve)
  all_goals rw [rest]

theorem releaseDecision_spares (v : Valve) (s : State) (g : Group) :
    Spares v s (releaseDecision s g) :=
  spares_of_marks _ (markReleased_same _ _ _) rfl ⟨_, _, rfl⟩

/-- An outcome other than FIRED writes the valve's record and nothing of the bridge (R68). -/
theorem closeRecord_of_unfired (s : State) (r : FireRecord) {o : RecordOutcome} (h : o ≠ .fired) :
    closeRecord s r o =
      (s.dropRecord r).setValveFiring r.valve (writeOutcome s.fsc.valves[r.valve] r o) := by
  simp [closeRecord, noteFired, h]

theorem closeRecord_spares {v : Valve} (s : State) {r : FireRecord} {o : RecordOutcome}
    (h : o ≠ .fired) (other : r.valve ≠ v) : Spares v s (closeRecord s r o) := by
  intro only
  rw [closeRecord_of_unfired s r h]
  exact ⟨setAt_get_ne _ _ _ _ other, rfl, rfl, rfl, rfl, rfl,
    fun x live => only x (List.mem_of_mem_erase live)⟩

theorem isBypass_of_isRegular {r : FireRecord} (h : r.isRegular = true) : r.isBypass = false := by
  cases body : r.body <;> simp_all [FireRecord.isRegular, FireRecord.isBypass]

theorem foldl_cancelPlanned_spares {v : Valve} (rs : List FireRecord) (x : State × Notices)
    (other : ∀ r ∈ rs, r.valve ≠ v) : Spares v x.1 (rs.foldl cancelPlanned x).1 := by
  induction rs generalizing x with
  | nil => exact .refl v x.1
  | cons r rs ih =>
    have one : Spares v x.1 (cancelPlanned x r).1 :=
      (closeRecord_spares x.1 (by decide) (other r List.mem_cons_self)).trans
        (retryWaiting_spares v _ _)
    exact one.trans (ih _ fun y later => other y (List.mem_cons_of_mem _ later))

/-- A cancel decision closes NORMAL and START records, so none of a valve that has BYPASS records
alone (R69). -/
theorem cancelDecision_spares (v : Valve) (s : State) (g : Group) :
    Spares v s (cancelDecision s g).1 := by
  intro only
  have mark : Spares v s ((takeDecision s).setRecords
      (s.fsc.records.map (markCancelled g (takeDecision s).fsc.decisionCount))) :=
    spares_of_marks _ (markCancelled_same _ _) rfl ⟨_, _, rfl⟩
  refine mark.trans (foldl_cancelPlanned_spares _ (_, []) fun r planned same => ?_) only
  simp only [List.mem_filter, Bool.and_eq_true] at planned
  obtain ⟨live, ⟨_, regular⟩, _⟩ := planned
  have := only r live same
  rw [isBypass_of_isRegular regular] at this
  cases this

theorem GroupStep.spares {s s' : State} (v : Valve) (h : GroupStep s s') : Spares v s s' := by
  cases h with
  | group g r => exact .of_fsc rfl
  | flag f => exact .of_fsc rfl
  | fac x => exact .of_fsc rfl
  | bypass w => exact tryBypass_spares v w s
  | cancel g => exact cancelDecision_spares v s g
  | release g => exact releaseDecision_spares v s g

theorem GroupSteps.spares {s s' : State} (v : Valve) (h : GroupSteps s s') : Spares v s s' := by
  induction h with
  | refl => exact .refl v s
  | tail _ step ih => exact ih.trans (step.spares v)

/-! ## A trip stands against the notices of removed records -/

/-- A notice that a removed record of the group hands on (R68). -/
def FromRemoval (g : Group) (e : Group × GroupEvent) : Prop :=
  e.1 = g ∧ ((∃ v normal o, e.2 = .outcome v normal o) ∨ e.2 = .recordsEnded)

theorem noticesOf_fromRemoval (s : State) (r : FireRecord) (o : RecordOutcome) :
    ∀ e ∈ noticesOf s r o, FromRemoval (valveGroup r.valve) e := by
  intro e mem
  simp only [noticesOf, List.mem_append, List.mem_ite_nil_right, List.mem_singleton] at mem
  rcases mem with ⟨_, rfl⟩ | ⟨_, rfl⟩
  · exact ⟨rfl, .inl ⟨_, _, _, rfl⟩⟩
  · exact ⟨rfl, .inr rfl⟩

theorem foldl_cancelPlanned_fromRemoval {g : Group} (rs : List FireRecord) (x : State × Notices)
    (own : ∀ r ∈ rs, valveGroup r.valve = g) (old : ∀ e ∈ x.2, FromRemoval g e) :
    ∀ e ∈ (rs.foldl cancelPlanned x).2, FromRemoval g e := by
  induction rs generalizing x with
  | nil => exact old
  | cons r rs ih =>
    refine ih (cancelPlanned x r) (fun y later => own y (List.mem_cons_of_mem _ later)) ?_
    intro e mem
    rcases List.mem_append.mp mem with mem | mem
    · exact old e mem
    · exact own r List.mem_cons_self ▸ noticesOf_fromRemoval _ r _ e mem

theorem cancelDecision_fromRemoval (s : State) (g : Group) :
    ∀ e ∈ (cancelDecision s g).2, FromRemoval g e := by
  refine foldl_cancelPlanned_fromRemoval _ (_, []) (fun r planned => ?_) (by simp)
  simp only [List.mem_filter, Bool.and_eq_true, decide_eq_true_eq] at planned
  obtain ⟨_, ⟨own, _⟩, _⟩ := planned
  exact own

theorem trip_fromRemoval (s : State) (g : Group) (c : TripCause) :
    ∀ e ∈ (trip s g c).2, FromRemoval g e := by
  unfold trip
  dsimp only
  split
  · split
    · simp
    · exact cancelDecision_fromRemoval _ g
  · exact cancelDecision_fromRemoval _ g

/-- A group and its flags that stand keep a trip. -/
theorem TrippedBy.of_only {bs : List Block} {s t : State} {g : Group} {c : TripCause}
    (trip : TrippedBy s g c) (only : Only bs s t) (groups : t.groups[g] = s.groups[g])
    (clear : Block.clear ∉ bs) : TrippedBy t g c := by
  obtain ⟨state, first, causes, flag⟩ := trip
  unfold TrippedBy
  rw [groups]
  exact ⟨state, first, causes, only.clear clear _ flag⟩

/-- A write of a group's record that keeps its state and its causes keeps a trip. -/
theorem TrippedBy.setGroup {s : State} {g : Group} {c : TripCause} (trip : TrippedBy s g c)
    {r : GroupRecord} (state : r.state = s.groups[g].state)
    (first : r.firstCause = s.groups[g].firstCause)
    (causes : r.tripCauses = s.groups[g].tripCauses) : TrippedBy (s.setGroup g r) g c := by
  unfold TrippedBy
  rw [State.setGroup_groups, setAt_get, state, first, causes]
  exact trip

theorem markTripped_trippedBy (s : State) (g : Group) (c : TripCause) :
    TrippedBy (markTripped s g c) g c := by
  simp only [TrippedBy, markTripped, State.setFlag_groups, State.setGroup_groups, setAt_get,
    State.hasFlag, State.setFlag_olp_sticky, and_self]

/-- Steps 4 and 5 of R152 leave the trip of steps 1 to 3. -/
theorem enterPattern_trippedBy {s : State} {g : Group} {c : TripCause} (trip : TrippedBy s g c) :
    TrippedBy (enterPattern s g).1 g c := by
  have pairs : TrippedBy (s.choosePairs g) g c := trip.setGroup rfl rfl rfl
  have rest : Only [.fsc] (s.choosePairs g) (enterPattern s g).1 :=
    (cancelDecision_only _ g).trans (Only.foldl _ bypassRequest_only _ _)
  exact pairs.of_only rest (by rw [rest.groups (by decide)]) (by decide)

theorem trip_trippedBy (s : State) (g : Group) (c : TripCause) : TrippedBy (trip s g c).1 g c := by
  have marked := markTripped_trippedBy s g c
  unfold trip
  dsimp only
  split
  · split
    · exact marked
    · exact enterPattern_trippedBy marked
  · have pairs : TrippedBy ((markTripped s g c).clearPairs g) g c :=
      marked.setGroup rfl rfl rfl
    have rest := (cancelDecision_only ((markTripped s g c).clearPairs g) g).trans
      (releaseDecision_only _ g)
    exact pairs.of_only rest (by rw [rest.groups (by decide)]) (by decide)

theorem evalInhibits_state (s : State) (g : Group) :
    (evalInhibits s g).groups[g].state = s.groups[g].state := by
  rw [evalInhibits, State.setGroup_groups, setAt_get]

/-- In TRIPPED no flags are acted on (Table 9-3). -/
theorem applyFlags_of_tripped {s : State} {g : Group} (h : s.groups[g].state = .tripped) :
    applyFlags s g = (s, []) := by
  simp only [applyFlags, h]

theorem handleEvent_eq (s : State) (g : Group) (e : GroupEvent) : handleEvent s g e =
    ((applyFlags (evalInhibits (ownEffect s g e).1 g) g).1,
      (ownEffect s g e).2 ++ (applyFlags (evalInhibits (ownEffect s g e).1 g) g).2) := rfl

theorem runEvents_cons (fuel : Nat) (e : Group × GroupEvent) (rest : Notices) (s : State) :
    runEvents (fuel + 1) (e :: rest) s =
      runEvents fuel (rest ++ (handleEvent s e.1 e.2).2) (handleEvent s e.1 e.2).1 := rfl

/-- In TRIPPED a removed record changes nothing but the inhibit set (R142, R151). -/
theorem handleEvent_of_tripped {s : State} {g : Group} {e : Group × GroupEvent}
    (h : s.groups[g].state = .tripped) (quiet : FromRemoval g e) :
    handleEvent s e.1 e.2 = (evalInhibits s g, []) := by
  obtain ⟨own, event⟩ := quiet
  have none : ownEffect s g e.2 = (s, []) := by
    rcases event with ⟨v, normal, o, same⟩ | same
    · simp only [same, ownEffect, outcomeEvent, h]
    · simp only [same, ownEffect, h, reduceCtorEq, if_false]
  have flags : applyFlags (evalInhibits s g) g = (evalInhibits s g, []) :=
    applyFlags_of_tripped ((evalInhibits_state s g).trans h)
  rw [own, handleEvent_eq, none, flags, List.append_nil]

theorem runEvents_trippedBy {g : Group} {c : TripCause} (fuel : Nat) (ns : Notices) (s : State)
    (trip : TrippedBy s g c) (quiet : ∀ e ∈ ns, FromRemoval g e) :
    TrippedBy (runEvents fuel ns s) g c := by
  induction fuel generalizing ns s with
  | zero => exact trip
  | succ fuel ih =>
    cases ns with
    | nil => exact trip
    | cons e rest =>
      rw [runEvents_cons, handleEvent_of_tripped trip.1 (quiet e List.mem_cons_self), List.append_nil]
      exact ih rest _ (trip.setGroup rfl rfl rfl) fun x later => quiet x (List.mem_cons_of_mem _ later)

theorem giveNotices_trippedBy {g : Group} {c : TripCause} (ns : Notices) (s : State)
    (trip : TrippedBy s g c) (quiet : ∀ e ∈ ns, FromRemoval g e) :
    TrippedBy (giveNotices s ns) g c := by
  induction ns generalizing s with
  | nil => exact trip
  | cons e rest ih =>
    have first : TrippedBy (groupEvent s e.1 e.2) g c :=
      runEvents_trippedBy _ _ s trip fun x one => by
        rw [List.mem_singleton.mp one]
        exact quiet e List.mem_cons_self
    exact ih _ first fun x later => quiet x (List.mem_cons_of_mem _ later)

/-- An event whose own effect is a trip leaves the group tripped by the cause alone, whatever the records
that the trip removes hand back (R142, R152). -/
theorem groupEvent_trippedBy {s : State} {g : Group} {c : TripCause} {e : GroupEvent}
    (effect : ownEffect s g e = trip s g c) : TrippedBy (groupEvent s g e) g c := by
  have tripped : TrippedBy (evalInhibits (trip s g c).1 g) g c :=
    (trip_trippedBy s g c).setGroup rfl rfl rfl
  have handled : handleEvent s g e = (evalInhibits (trip s g c).1 g, (trip s g c).2) := by
    rw [handleEvent_eq, effect, applyFlags_of_tripped tripped.1, List.append_nil]
  rw [groupEvent, Nat.add_comm, runEvents_cons, handled]
  exact runEvents_trippedBy _ _ _ tripped (trip_fromRemoval s g c)

/-- The state trips the group by the cause (R151, Table 9-5). -/
theorem tripEvent_of_trips {s : State} {g : Group} {c : TripCause}
    (h : trips c s.groups[g].state = true) : tripEvent s g c = trip s g c := by
  simp only [tripEvent, h, if_true]

/-! ## A record that ends unfired -/

theorem isTest_of_isRegular {r : FireRecord} (h : r.isRegular = true) : r.isTest = false := by
  cases body : r.body <;> simp_all [FireRecord.isRegular, FireRecord.isTest]

theorem isRegular_of_isTest {r : FireRecord} (h : r.isTest = true) : r.isRegular = false := by
  cases regular : r.isRegular
  · rfl
  · rw [isTest_of_isRegular regular] at h
    cases h

/-- What R13 and R68 write for an outcome other than FIRED. -/
theorem writeOutcome_of_unfired (f : ValveFiring) {r : FireRecord} {o : RecordOutcome}
    (regular : r.isRegular = true) (h : o ≠ .fired) :
    writeOutcome f r o = { f with
      lastDue := some r.due, lastAlpha := r.alpha?, lastOutcome := lastOutcomeOf o
      misses := if r.isNormal then missesAfter f.misses o else f.misses } := by
  simp [writeOutcome, isTest_of_isRegular regular, h]

/-- A frame without the Order Link Port's other parts leaves of it all but the sticky flags. -/
theorem Only.olp_but_sticky {bs : List Block} {s t : State} (h : Only bs s t)
    (order : Block.order ∉ bs) (queue : Block.queue ∉ bs) (count : Block.count ∉ bs) :
    t.olp = { s.olp with sticky := t.olp.sticky } := by
  have orders := h.order order
  have output := h.queue queue
  have counts := h.count count
  simp only [Olp.orders, Olp.output, Olp.counts, Prod.mk.injEq] at orders output counts
  obtain ⟨order, lastSeq, state, watchdog, hold, ac⟩ := orders
  obtain ⟨queue, sending⟩ := output
  obtain ⟨linkCrc, format, duplicate, gap, clamp, busy⟩ := counts
  dsimp only
  rw [← order, ← lastSeq, ← state, ← watchdog, ← hold, ← ac, ← queue, ← sending, ← linkCrc,
    ← format, ← duplicate, ← gap, ← clamp, ← busy]

/-- Where one element alone satisfies `p`, none of the others does. -/
theorem filter_erase_of_filter_eq {l : List FireRecord} {p : FireRecord → Bool} {r : FireRecord}
    (alone : l.filter p = [r]) : (l.erase r).filter p = [] := by
  obtain ⟨mem, holds⟩ := List.mem_filter.mp (show r ∈ l.filter p by simp [alone])
  have both := ((List.perm_cons_erase mem).filter p).length_eq
  rw [alone, List.filter_cons_of_pos holds] at both
  exact List.eq_nil_of_length_eq_zero (Nat.succ.inj both).symm

/-- Without the valve's one live record no record of the valve is left. -/
theorem closeRecord_bypassOnly {s : State} {r : FireRecord} {o : RecordOutcome} (h : o ≠ .fired)
    (alone : s.recordsOf r.valve = [r]) : BypassOnly (closeRecord s r o) r.valve := by
  intro x live same
  rw [closeRecord_of_unfired s r h] at live
  have none := List.filter_eq_nil_iff.mp (filter_erase_of_filter_eq alone) x live
  exact absurd (decide_eq_true same) none

/-- R68 for a record that did not fire: no pending extinction is opened. -/
theorem finish_of_unfired (s : State) (r : FireRecord) {o : RecordOutcome} (h : o ≠ .fired) :
    finish s r o = retryWaiting (giveNotices (closeRecord s r o)
      (noticesOf (closeRecord s r o) r o)) r.valve := by
  have none : openIfMeasured (closeRecord s r o) r o = closeRecord s r o := by
    unfold openIfMeasured
    split
    · exact if_neg h
    all_goals rfl
  rw [finish, none]

theorem finish_unfired_only (s : State) (r : FireRecord) {o : RecordOutcome} (h : o ≠ .fired) :
    Only groupBlocks s (finish s r o) := by
  rw [finish_of_unfired s r h]
  exact Only.trans (.of (closeRecord_only s r o) rfl) (Only.trans (giveNotices_only _ _)
    (.of (retryWaiting_only _ _) rfl))

/-- Of the valve whose one live record ends unfired, the end changes just what step 1 of R68 writes. -/
theorem finish_unfired_kept {s : State} {r : FireRecord} {o : RecordOutcome} (h : o ≠ .fired)
    (alone : s.recordsOf r.valve = [r]) :
    ValveKept r.valve
      ((s.dropRecord r).setValveFiring r.valve (writeOutcome s.fsc.valves[r.valve] r o))
      (finish s r o) := by
  have steps : GroupSteps (closeRecord s r o) (finish s r o) := by
    rw [finish_of_unfired s r h]
    exact (giveNotices_steps _ _).trans (retryWaiting_steps _ _)
  have kept := steps.spares r.valve (closeRecord_bypassOnly h alone)
  rw [closeRecord_of_unfired s r h] at kept
  exact kept

theorem finish_unfired_firing {s : State} {r : FireRecord} {o : RecordOutcome} (h : o ≠ .fired)
    (alone : s.recordsOf r.valve = [r]) :
    (finish s r o).fsc.valves[r.valve] = writeOutcome s.fsc.valves[r.valve] r o :=
  (finish_unfired_kept h alone).firing.trans (setAt_get _ _ _)

theorem giveNotices_cons (s : State) (e : Group × GroupEvent) (rest : Notices) :
    giveNotices s (e :: rest) = giveNotices (groupEvent s e.1 e.2) rest := rfl

/-- The first notice of a NORMAL or START record is its outcome (R68, step 4). -/
theorem noticesOf_of_regular (s : State) {r : FireRecord} (o : RecordOutcome)
    (regular : r.isRegular = true) : ∃ rest, noticesOf s r o =
      (valveGroup r.valve, .outcome r.valve r.isNormal o) :: rest := by
  simp [noticesOf, regular]

/-- The outcome of a NORMAL or START record that trips its group leaves it tripped by the cause alone. -/
theorem finish_trippedBy {s : State} {r : FireRecord} {o : RecordOutcome} {c : TripCause}
    (h : o ≠ .fired) (regular : r.isRegular = true)
    (effect : outcomeEvent (closeRecord s r o) (valveGroup r.valve) r.valve r.isNormal o =
      trip (closeRecord s r o) (valveGroup r.valve) c) :
    TrippedBy (finish s r o) (valveGroup r.valve) c := by
  have quiet := noticesOf_fromRemoval (closeRecord s r o) r o
  obtain ⟨rest, notices⟩ := noticesOf_of_regular (closeRecord s r o) o regular
  rw [notices] at quiet
  have first := groupEvent_trippedBy (e := .outcome r.valve r.isNormal o) effect
  have given := giveNotices_trippedBy rest _ first fun x later =>
    quiet x (List.mem_cons_of_mem _ later)
  rw [finish_of_unfired s r h, notices, giveNotices_cons]
  have retry := retryWaiting_only (giveNotices (groupEvent (closeRecord s r o) (valveGroup r.valve)
    (.outcome r.valve r.isNormal o)) rest) r.valve
  exact given.of_only retry (by rw [retry.groups (by decide)]) (by decide)

/-- A missed record of a DEBLOCKING group fails the start (R146). -/
theorem outcomeEvent_startFail {s : State} {g : Group} (v : Valve) (normal : Bool)
    (state : s.groups[g].state = .deblocking) :
    outcomeEvent s g v normal .missed = trip s g .startFail := by
  simp only [outcomeEvent, state]
  exact tripEvent_of_trips (by rw [state]; rfl)

/-- The second consecutive miss of a NORMAL record of a RUNNING group is a misfire (R154). -/
theorem outcomeEvent_misfire {s : State} {g : Group} {v : Valve}
    (state : s.groups[g].state = .running) (second : 2 ≤ s.fsc.valves[v].misses.toNat) :
    outcomeEvent s g v true .missed = trip s g .misfire := by
  simp only [outcomeEvent, state, second, Bool.true_and, decide_true, if_true]
  exact tripEvent_of_trips (by rw [state]; rfl)

/-- The removal of a TEST record hands nothing to the Group Controller (R68, R74). -/
theorem finish_test_only (s : State) {r : FireRecord} {o : RecordOutcome} (h : o ≠ .fired)
    (test : r.isTest = true) : Only [.fsc] s (finish s r o) := by
  have none : noticesOf (closeRecord s r o) r o = [] := by
    simp [noticesOf, test, isRegular_of_isTest test]
  rw [finish_of_unfired s r h, none]
  exact (closeRecord_only s r o).trans (retryWaiting_only _ _)

/-- A NORMAL or START record missed in DEBLOCKING trips its group (R146). -/
theorem finish_missed_startFail {s : State} {r : FireRecord} (regular : r.isRegular = true)
    (state : s.groups[valveGroup r.valve].state = .deblocking) :
    TrippedBy (finish s r .missed) (valveGroup r.valve) .startFail := by
  have groups := (closeRecord_only s r .missed).groups (by decide)
  exact finish_trippedBy (by decide) regular
    (outcomeEvent_startFail _ _ (by rw [groups]; exact state))

/-- A NORMAL record missed in RUNNING, not the first in a row, trips its group (R154). -/
theorem finish_missed_misfire {s : State} {r : FireRecord} (normal : r.isNormal = true)
    (regular : r.isRegular = true) (state : s.groups[valveGroup r.valve].state = .running)
    (one : 1 ≤ s.fsc.valves[r.valve].misses.toNat) :
    TrippedBy (finish s r .missed) (valveGroup r.valve) .misfire := by
  have groups := (closeRecord_only s r .missed).groups (by decide)
  have second : 2 ≤ (closeRecord s r .missed).fsc.valves[r.valve].misses.toNat := by
    rw [closeRecord_of_unfired s r (by decide), State.setValveFiring_fsc_valves, setAt_get,
      writeOutcome_of_unfired _ regular (by decide)]
    simp only [normal, if_true, missesAfter, satInc_toNat]
    exact le_min (by decide) (Nat.succ_le_succ one)
  refine finish_trippedBy (by decide) regular ?_
  rw [normal]
  exact outcomeEvent_misfire (by rw [groups]; exact state) second

/-! ## The confirm instant (R67, R70) -/

theorem dueRecord_valve {s : State} {v : Valve} {instant : FireRecord → Option Time} {r : FireRecord}
    (due : dueRecord s v instant = some r) : r.valve = v := by
  have := List.find?_some due
  simp only [Bool.and_eq_true, decide_eq_true_eq] at this
  exact this.1

theorem takeInstant_of_due {s : State} {v : Valve} {instant : FireRecord → Option Time}
    {r : FireRecord} (event : State → FireRecord → State) (due : dueRecord s v instant = some r) :
    takeInstant s v instant event = event s r := by
  rw [takeInstant, due]

/-- What the miss of a NORMAL or START record counts and flags before the record ends (R67). -/
def noteMissed (s : State) : State := s.countFireMissed.setFlag .fireMissed

theorem noteMissed_only (s : State) : Only groupBlocks s (noteMissed s) :=
  Only.trans (.of s.countFireMissed_only rfl) (.of (State.setFlag_only _ _) rfl)

/-- A record that has not fired at its confirm instant is MISSED (R67). -/
theorem confirmEvent_of_waiting (s : State) {r : FireRecord}
    (waits : r.state = .planned ∨ r.state = .dispatched ∨ r.state = .armed) :
    confirmEvent s r =
      finish (if r.isRegular then noteMissed s else s) r .missed := by
  rcases waits with state | state | state <;> simp only [confirmEvent, noteMissed, state]

/-- A record whose cancel stays unacknowledged is CANCELLED with UNCONFIRMED (R70). -/
theorem confirmEvent_of_cancelling (s : State) {r : FireRecord} (state : r.state = .cancelling) :
    confirmEvent s r = finish s.countUnconfirmed r (.cancelled true) := by
  simp only [confirmEvent, state]

theorem exec_confirmInstant_of_due {s : State} {n : Time} {v : Valve} {r : FireRecord}
    (due : dueRecord (s.at n) v FireRecord.confirmAt = some r) :
    exec (.confirmInstant n v) s = .next (confirmEvent (s.at n) r) :=
  congrArg Host.Outcome.next (takeInstant_of_due confirmEvent due)

/-- Settles O29: the record ends by `finish` with an outcome other than FIRED, which keeps the blocks that
take no part (`finish_unfired_only`) and, of the valve, all but what R13 writes (`finish_unfired_kept`); a
trip that its outcome causes stands against the notices that follow (`finish_trippedBy`). -/
theorem confirmInstantEndsTheRecord : Obligations.ConfirmInstantEndsTheRecord := by
  intro s n v r due alone g old waits others
  cases dueRecord_valve due
  have run := exec_confirmInstant_of_due due
  have apart {t : State} (only : Only groupBlocks (s.at n) t)
      (lastFired : t.fsc.lastFired = s.fsc.lastFired) (bypass : BypassOnly t r.valve) : others t :=
    ⟨lastFired, only.pru (by decide), only.rgm (by decide), only.exm (by decide),
      only.lvm (by decide), only.tbs (by decide), only.pending (by decide),
      only.olp_but_sticky (by decide) (by decide) (by decide), bypass⟩
  refine ⟨fun regular wait => ?missed, fun test wait => ?test, fun regular state => ?cancelling⟩
  case missed =>
    have unfired : RecordOutcome.missed ≠ .fired := by decide
    have noted := noteMissed_only (s.at n)
    have only := finish_unfired_only (noteMissed (s.at n)) r unfired
    have kept := finish_unfired_kept (s := noteMissed (s.at n)) unfired alone
    have firing := finish_unfired_firing (s := noteMissed (s.at n)) unfired alone
    rw [confirmEvent_of_waiting _ wait, if_pos regular] at run
    exact ⟨_, run, apart (noted.trans only) kept.lastFired kept.bypass, kept.fireMissed,
      only.clear (by decide) _ (setAt_get _ _ _), kept.unconfirmed,
      firing.trans (writeOutcome_of_unfired _ regular unfired),
      fun state => finish_missed_startFail (s := noteMissed (s.at n)) regular state,
      fun state normal one =>
        finish_missed_misfire (s := noteMissed (s.at n)) normal regular state one⟩
  case test =>
    have unfired : RecordOutcome.missed ≠ .fired := by decide
    have only := finish_test_only (s.at n) unfired test
    have kept := finish_unfired_kept (s := s.at n) unfired alone
    have firing := finish_unfired_firing (s := s.at n) unfired alone
    rw [confirmEvent_of_waiting _ wait, isRegular_of_isTest test,
      if_neg Bool.false_ne_true] at run
    refine ⟨_, run, apart (only.of rfl) kept.lastFired kept.bypass, kept.fireMissed, ?_,
      only.groups (by decide), firing.trans ?_⟩
    · rw [only.olp_but_sticky (by decide) (by decide) (by decide), only.sticky (by decide)]
      rfl
    · simp [writeOutcome, test, testOutcomeOf, old]
  case cancelling =>
    have unfired : RecordOutcome.cancelled true ≠ .fired := by decide
    have counted : Only groupBlocks (s.at n) (s.at n).countUnconfirmed :=
      .of (s.at n).countUnconfirmed_only rfl
    have only := finish_unfired_only (s.at n).countUnconfirmed r unfired
    have kept := finish_unfired_kept (s := (s.at n).countUnconfirmed) unfired alone
    have firing := finish_unfired_firing (s := (s.at n).countUnconfirmed) unfired alone
    rw [confirmEvent_of_cancelling _ state] at run
    refine ⟨_, run, apart (counted.trans only) kept.lastFired kept.bypass, kept.fireMissed,
      kept.unconfirmed, firing.trans ?_⟩
    rw [writeOutcome_of_unfired _ regular unfired]
    simp only [missesAfter, ite_self]
    rfl

end Sys2Proof.Machine
end

section
/-! PROOFS. The Phase Reference Unit: what each of its operations makes of the unit's own values, and the
period in its limits, an idle UNLOCKED and a bounded capture history at every step (O12). -/

namespace Sys2Proof.Machine

/-! ## What the operations make of the unit's own values -/

theorem setLock_pru (s : State) (x : LockState) (lost : Bool) :
    (setLock s x lost).pru = { s.pru with lock := x } := by
  unfold setLock
  split
  · next same => rw [← same]
  · exact (bothGroups_only _ _).pru (by decide)

theorem loseLock_pru (s : State) :
    (loseLock s).pru = { clearLock s.pru with lock := .unlocked } := by
  rw [loseLock, setLock_pru, State.setPru_pru]

theorem restartPru_pru (s : State) :
    (restartPru s).pru = { restartedModel s.tbs.converter s.pru with lock := .unlocked } := by
  rw [restartPru, setLock_pru, State.setPru_pru]

/-- The unit's own values after a cycle marker event (R25, R26, R28). -/
def markedPru (ct : ConverterTable) (p : Pru) : Pru :=
  let q := stepOrigin p
  if holdoverSpent ct q then { clearLock q with lock := .unlocked }
  else { q with marker := some (addTb q.origin q.period) }

theorem markerEvent_eq (s : State) : markerEvent s =
    if holdoverSpent s.tbs.converter (stepOrigin s.pru) then loseLock (s.setPru (stepOrigin s.pru))
    else armMarker (armPlannings (s.setPru (stepOrigin s.pru)) (stepOrigin s.pru).origin
      (stepOrigin s.pru).period) := rfl

theorem markerEvent_pru (s : State) : (markerEvent s).pru = markedPru s.tbs.converter s.pru := by
  rw [markerEvent_eq]
  unfold markedPru
  dsimp only
  split
  · rw [loseLock_pru, State.setPru_pru]
  · rw [armMarker, State.setPru_pru, (armPlannings_only _ _ _).pru (by decide), State.setPru_pru]

/-- A marker that is not reached is not taken. -/
theorem runMarkers_of_waiting (fuel : Nat) {s : State} (wait : s.reached s.pru.marker = false) :
    runMarkers fuel s = s := by
  cases fuel with
  | zero => rfl
  | succ fuel => rw [runMarkers, wait, if_neg Bool.false_ne_true]

/-- The lock state after an accepted capture is never UNLOCKED, and of the unit's own values only the lock
state and the two counts have changed (R22, R24, R25). -/
theorem acceptedLock_pru {s : State} (inside : Bool) (live : s.pru.lock ≠ .unlocked) :
    ∃ x a r, x ≠ .unlocked ∧
      (acceptedLock s inside).pru = { s.pru with lock := x, acquisition := a, rejectRun := r } := by
  unfold acceptedLock
  split
  · unfold acceptAcquiring
    dsimp only
    split
    · exact ⟨.locked, _, _, nofun, setLock_pru _ _ _⟩
    · exact ⟨s.pru.lock, _, _, live, rfl⟩
  · exact ⟨s.pru.lock, _, _, live, rfl⟩
  · exact ⟨.locked, _, _, nofun, setLock_pru _ _ _⟩
  · exact ⟨.acquiring, _, _, nofun, setLock_pru _ _ _⟩
  · exact ⟨s.pru.lock, _, _, live, rfl⟩
  · next unlocked => exact absurd unlocked live

/-! ## The laws of the unit's own values -/

theorem ConverterTable.periodMin_le_nominal (ct : ConverterTable) :
    ct.periodMin ≤ ct.periodNominal := by
  unfold periodMin periodNominal
  cases ct.nominal <;> decide

theorem ConverterTable.nominal_le_periodMax (ct : ConverterTable) :
    ct.periodNominal ≤ ct.periodMax := by
  unfold periodMax periodNominal
  cases ct.nominal <;> decide

theorem clampPeriod_held (ct : ConverterTable) (p : Int) :
    ct.periodMin ≤ clampPeriod ct p ∧ clampPeriod ct p ≤ ct.periodMax := by
  have limits := ct.periodMin_le_nominal.trans ct.nominal_le_periodMax
  unfold clampPeriod
  omega

theorem pushLast_length_le {α : Type} (n : Nat) (xs : List α) (x : α) :
    (pushLast n xs x).length ≤ n := by
  simp only [pushLast, List.length_drop]
  omega

/-- From `p` to `q` the unit keeps the period in the limits of `ct` (R19), an UNLOCKED without an armed
marker or watch (R26), and the bound of the capture history (R20). -/
structure PruKept (ct : ConverterTable) (p q : Pru) : Prop where
  period : ct.periodMin ≤ p.period ∧ p.period ≤ ct.periodMax →
    ct.periodMin ≤ q.period ∧ q.period ≤ ct.periodMax
  idle : (p.lock = .unlocked → p.marker = none ∧ p.watch = none) →
    q.lock = .unlocked → q.marker = none ∧ q.watch = none
  history : p.history.length ≤ Config.historyLength → q.history.length ≤ Config.historyLength

theorem PruKept.refl (ct : ConverterTable) (p : Pru) : PruKept ct p p := ⟨id, id, id⟩

theorem PruKept.trans {ct : ConverterTable} {p q r : Pru} (h : PruKept ct p q)
    (k : PruKept ct q r) : PruKept ct p r :=
  ⟨k.period ∘ h.period, k.idle ∘ h.idle, k.history ∘ h.history⟩

/-- Values that stand keep the laws. -/
theorem PruKept.of_same {ct : ConverterTable} {p q : Pru} (period : q.period = p.period)
    (lock : q.lock = p.lock) (marker : q.marker = p.marker) (watch : q.watch = p.watch)
    (history : q.history = p.history) : PruKept ct p q where
  period h := by rwa [period]
  idle h := by rwa [lock, marker, watch]
  history h := by rwa [history]

/-- A unit that is not UNLOCKED afterwards has no idleness to keep. -/
theorem PruKept.of_live {ct : ConverterTable} {p q : Pru} (period : q.period = p.period)
    (history : q.history = p.history) (live : q.lock ≠ .unlocked) : PruKept ct p q where
  period h := by rwa [period]
  idle _ unlocked := absurd unlocked live
  history h := by rwa [history]

/-- Entry to UNLOCKED disarms marker and watch (R26). -/
theorem PruKept.of_idle {ct : ConverterTable} {p q : Pru} (period : q.period = p.period)
    (history : q.history = p.history) (marker : q.marker = none) (watch : q.watch = none) :
    PruKept ct p q where
  period h := by rwa [period]
  idle _ _ := ⟨marker, watch⟩
  history h := by rwa [history]

/-- A new entry in the history keeps its bound (R20). -/
theorem PruKept.addHistory (ct : ConverterTable) (c : Capture) (p : Pru) :
    PruKept ct p (addHistory c p) where
  period := id
  idle := id
  history _ := pushLast_length_le _ _ _

theorem loseLock_kept (ct : ConverterTable) (s : State) : PruKept ct s.pru (loseLock s).pru := by
  rw [loseLock_pru]
  exact .of_idle rfl rfl rfl rfl

/-- A marker can be armed only in a lock state other than UNLOCKED, so arming it again is no breach. -/
theorem markedPru_kept (ct ct' : ConverterTable) {p : Pru} {i : Time} (armed : p.marker = some i) :
    PruKept ct p (markedPru ct' p) := by
  unfold markedPru
  dsimp only
  split
  · exact .of_idle rfl rfl rfl rfl
  · refine ⟨id, fun idle unlocked => ?_, id⟩
    obtain ⟨none, _⟩ := idle unlocked
    exact nomatch armed.symm.trans none

theorem runMarkers_kept (ct : ConverterTable) (fuel : Nat) (s : State) :
    PruKept ct s.pru (runMarkers fuel s).pru := by
  induction fuel generalizing s with
  | zero => exact .refl ct _
  | succ fuel ih =>
    unfold runMarkers
    split
    · next reached =>
      obtain ⟨i, armed, _⟩ := (State.reached_iff s _).mp reached
      exact .trans (markerEvent_pru s ▸ markedPru_kept ct _ armed) (ih _)
    · exact .refl ct _

theorem rearmMarker_kept (ct : ConverterTable) {s : State} (live : s.pru.lock ≠ .unlocked) :
    PruKept ct s.pru (rearmMarker s).pru :=
  .trans (q := (armMarker s).pru) (.of_live rfl rfl live) (runMarkers_kept ct _ _)

/-! ## Captures and edges -/

theorem initialCapture_kept (s : State) (j : Nat) (t : Time) :
    PruKept s.tbs.converter s.pru (initialCapture s j t).pru := by
  unfold initialCapture
  dsimp only
  refine .trans ?_ (rearmMarker_kept _ ?_)
  · rw [setLock_pru]
    exact ⟨fun _ => ⟨s.tbs.converter.periodMin_le_nominal, s.tbs.converter.nominal_le_periodMax⟩,
      fun _ => nofun, fun _ => pushLast_length_le _ _ _⟩
  · rw [setLock_pru]
    exact nofun

theorem rejectAcquiring_kept (ct : ConverterTable) (s : State) :
    PruKept ct s.pru (rejectAcquiring s).pru := by
  unfold rejectAcquiring
  dsimp only
  have counts : PruKept ct s.pru (s.setPru (setCounts 0 (s.pru.rejectRun + 1) s.pru)).pru :=
    .of_same rfl rfl rfl rfl rfl
  split
  · exact counts.trans (loseLock_kept ct _)
  · exact counts

theorem rejectedCapture_kept (ct : ConverterTable) (s : State) (j : Nat) (t : Time) (e : Int) :
    PruKept ct s.pru (rejectedCapture s j t e).pru := by
  unfold rejectedCapture
  dsimp only
  have noted : PruKept ct s.pru
      (s.setPru (addHistory ⟨j, t, e, .rejected⟩ s.pru)).countGlitch.pru :=
    (PruKept.addHistory ct ⟨j, t, e, .rejected⟩ s.pru).trans (.of_same rfl rfl rfl rfl rfl)
  split
  · exact noted.trans (rejectAcquiring_kept ct _)
  · exact noted

/-- The update holds the period to the limits of the active Converter Table (R19). -/
theorem acceptedCapture_kept {s : State} (j : Nat) (t : Time) (e : Int)
    (live : s.pru.lock ≠ .unlocked) :
    PruKept s.tbs.converter s.pru (acceptedCapture s j t e).pru := by
  unfold acceptedCapture
  dsimp only
  set u := s.setPru (armWatch t
    (updateModel s.tbs.converter (addHistory ⟨j, t, e, .accepted⟩ s.pru) e)) with updated
  obtain ⟨x, a, r, alive, pru⟩ := acceptedLock_pru (s := u)
    (decide ((e.natAbs : Int) ≤ windowTb s.pru s.tbs.converter.lockWindow)) live
  refine .trans ?_ (rearmMarker_kept _ (by rw [pru]; exact alive))
  rw [pru]
  exact ⟨fun _ => clampPeriod_held _ _, fun _ unlocked => absurd unlocked alive,
    fun _ => pushLast_length_le _ _ _⟩

theorem capture_kept (s : State) (j : Nat) (t : Time) :
    PruKept s.tbs.converter s.pru (capture s j t).pru := by
  unfold capture
  dsimp only
  split
  · exact initialCapture_kept s j t
  · next live =>
    split
    · exact rejectedCapture_kept _ s _ _ _
    · exact acceptedCapture_kept _ _ _ live

theorem takeEdge_kept (s : State) (line : Line) (rising : Bool) :
    PruKept s.tbs.converter s.pru (takeEdge s line rising).pru := by
  unfold takeEdge
  split
  · exact .of_same rfl rfl rfl rfl rfl
  · let noted := s.setPru { s.pru with lastEdge := setAt s.pru.lastEdge (lineIndex line) (some s.now) }
    exact .trans (q := noted.pru) (.of_same rfl rfl rfl rfl rfl) (capture_kept noted _ _)

theorem watchEvent_kept (ct : ConverterTable) (s : State) :
    PruKept ct s.pru (watchEvent s).pru := by
  have off (live : s.pru.lock ≠ .unlocked) :
      PruKept ct s.pru (s.setPru { s.pru with watch := none }).pru := .of_live rfl rfl live
  unfold watchEvent
  dsimp only
  split
  · rw [setLock_pru]
    exact .of_live rfl rfl nofun
  · next acquiring => exact (off (by rw [show s.pru.lock = _ from acquiring]; nofun)).trans (loseLock_kept ct _)
  · exact ⟨id, fun idle unlocked => ⟨(idle unlocked).1, rfl⟩, id⟩
  · next holdover => exact off (by rw [show s.pru.lock = _ from holdover]; nofun)

/-! ## Commands and steps -/

/-- A request that is dropped counts the drop; one that is taken acts and queues its REPLY (R166, R168). -/
theorem request_ind {P : State → Prop} {s : State} {type seq : Byte} {act : State → State × Answer}
    (drop : P s.countBusyDrop) (taken : ∀ f, P (enqueue (act s).1 f)) :
    P (request s type seq act) := by
  unfold request
  split
  · exact drop
  · exact taken _

/-- From `s` to `t` the unit keeps its laws, under the Converter Table active in each (R19, R20, R26). -/
structure PhaseKept (s t : State) : Prop where
  period : PeriodHeld s → PeriodHeld t
  idle : UnlockedIdle s → UnlockedIdle t
  history : s.pru.history.length ≤ Config.historyLength →
    t.pru.history.length ≤ Config.historyLength

theorem PhaseKept.of_pru {s t : State} (table : t.tbs.converter = s.tbs.converter)
    (kept : PruKept s.tbs.converter s.pru t.pru) : PhaseKept s t where
  period h := by unfold PeriodHeld; rw [table]; exact kept.period h
  idle := kept.idle
  history := kept.history

theorem PhaseKept.of_same {s t : State} (table : t.tbs.converter = s.tbs.converter)
    (pru : t.pru = s.pru) : PhaseKept s t := .of_pru table (pru ▸ .refl _ _)

theorem PhaseKept.of_only {bs : List Block} {s t : State} (only : Only bs s t)
    (pru : Block.pru ∉ bs) (tbs : Block.tbs ∉ bs) : PhaseKept s t :=
  .of_same (by rw [only.tbs tbs]) (only.pru pru)

theorem PhaseKept.trans {a b c : State} (h : PhaseKept a b) (k : PhaseKept b c) : PhaseKept a c :=
  ⟨k.period ∘ h.period, k.idle ∘ h.idle, k.history ∘ h.history⟩

/-- A restarted unit meets every law: the period is nominal, the lock state UNLOCKED with nothing armed
(R33). -/
theorem PhaseKept.of_restarted {s t : State} {p : Pru}
    (pru : t.pru = { restartedModel t.tbs.converter p with lock := .unlocked }) : PhaseKept s t := by
  refine ⟨fun _ => ?_, fun _ => ?_, fun _ => ?_⟩
  · unfold PeriodHeld
    rw [pru]
    exact ⟨t.tbs.converter.periodMin_le_nominal, t.tbs.converter.nominal_le_periodMax⟩
  · unfold UnlockedIdle
    rw [pru]
    exact fun _ => ⟨rfl, rfl⟩
  · rw [pru]
    exact Nat.zero_le _

theorem writeRow_converter (t : Tbs) (id : TableId) (row : Byte) (xs : List Int) :
    (writeRow t id row xs).converter = t.converter := by cases id <;> rfl

theorem dropShadow_converter (t : Tbs) (id : TableId) :
    (dropShadow t id).converter = t.converter := by cases id <;> rfl

theorem activate_converter (t : Tbs) {id : TableId} (other : id ≠ .converter) :
    (activate t id).converter = t.converter := by
  cases id with
  | converter => exact absurd rfl other
  | limits | overlap | station | ring => rfl

theorem writeTable_phaseKept (s : State) (table row : Byte) (bs : List Byte) :
    PhaseKept s (writeTable s table row bs).1 := by
  refine .of_same ?_ ((writeTable_only s table row bs).pru (by decide))
  unfold writeTable writeKnown
  dsimp only
  split
  · rfl
  · split
    · rfl
    · split
      · split
        · rfl
        · exact writeRow_converter _ _ _ _
      · rfl

theorem discardTable_phaseKept (s : State) (table : Byte) :
    PhaseKept s (discardTable s table).1 := by
  refine .of_same ?_ ((discardTable_only s table).pru (by decide))
  unfold discardTable
  split
  · rfl
  · exact dropShadow_converter _ _

/-- A commit of another table than the Converter Table leaves the unit alone (R178). -/
theorem commitEffects_pru (s : State) {id : TableId} (other : id ≠ .converter) :
    (commitEffects s id).pru = s.pru := by
  cases id with
  | converter => exact absurd rfl other
  | limits => exact (clampToLimits_only s).pru (by decide)
  | overlap => rfl
  | station => exact (stationEffects_only s).pru (by decide)
  | ring => exact (ringRestart_only s).pru (by decide)

/-- A Converter Table commit restarts the unit under the new table (R33, R178). -/
theorem takeCommit_phaseKept (s : State) (id : TableId) : PhaseKept s (takeCommit s id) := by
  have told := bothGroups_only (commitEffects (noteCommit s id) id) .tableCommit
  have effects := commitEffects_only (noteCommit s id) id
  have pru : (takeCommit s id).pru = (commitEffects (noteCommit s id) id).pru :=
    told.pru (by decide)
  have tbs : (takeCommit s id).tbs = (noteCommit s id).tbs :=
    (told.tbs (by decide)).trans (effects.tbs (by decide))
  by_cases converter : id = .converter
  · subst converter
    refine .of_restarted (p := s.pru) ?_
    rw [pru, tbs, commitEffects, (disarmPlannings_only _).pru (by decide), restartPru_pru]
    rfl
  · refine .of_same ?_ (pru.trans (commitEffects_pru _ converter))
    rw [tbs]
    exact activate_converter s.tbs converter

theorem commitTable_phaseKept (s : State) (table : Byte) :
    PhaseKept s (commitTable s table).1 := by
  have stands : PhaseKept s s := .of_same rfl rfl
  unfold commitTable
  split
  · exact stands
  · split
    · exact stands
    · split
      · exact stands
      · split
        · exact stands
        · exact takeCommit_phaseKept s _

/-- A warm restart touches the unit by its restart alone (R33, R181). -/
theorem warmRestart_pru (s : State) : (warmRestart s).pru = (restartPru s).pru := by
  have misses (s : State) : Only [.fsc] s (clearMisses s) := s.setFsc_only _ (.refl _)
  unfold warmRestart
  dsimp only
  rw [(restartGroup_only _ 1).pru (by decide), (restartGroup_only _ 0).pru (by decide),
    (misses _).pru (by decide), (ringRestart_only _).pru (by decide),
    (restartExm_only _).pru (by decide), (restartFsc_only _).pru (by decide),
    (restartFac_only _).pru (by decide)]

theorem warmRestartCommand_phaseKept (s : State) : PhaseKept s (warmRestartCommand s).1 := by
  unfold warmRestartCommand
  split
  · refine .of_restarted (p := s.pru) ?_
    rw [(warmRestart_only s).tbs (by decide), warmRestart_pru, restartPru_pru]
  · exact .of_same rfl rfl

/-- A request keeps the laws of the unit when its act does: the output queue and the link counters are
no part of it. -/
theorem request_phaseKept {s : State} {type seq : Byte} {act : State → State × Answer}
    (acted : PhaseKept s (act s).1) : PhaseKept s (request s type seq act) :=
  request_ind (P := PhaseKept s) (.of_same rfl rfl) fun f =>
    acted.trans (.of_only (enqueue_only _ f) (by decide) (by decide))

theorem PhaseKept.of_powerUp (s t : State) (pru : t.pru = Pru.reset)
    (tbs : t.tbs = Tbs.reset) : PhaseKept s t := by
  refine .of_restarted (p := Pru.reset) ?_
  rw [pru, tbs]
  rfl

/-- An event of an armed instant that is not taken moves the timebase only. -/
theorem takeIf_ind {P : State → Prop} {instant : State → Option Time} {event : State → State}
    {n : Time} {s : State} (wait : P (s.at n)) (taken : P (event (s.at n))) :
    P (takeIf instant event n s) := by
  unfold takeIf
  dsimp only
  split
  · exact taken
  · exact wait

theorem exec_phaseKept {c : Instr} {s t : State} (run : exec c s = .next t) : PhaseKept s t := by
  cases time : c.time? with
  | none =>
    cases c with
    | powerUp => cases run; exact .of_powerUp _ _ rfl rfl
    | _ => cases time
  | some n =>
    obtain ⟨u, run', only⟩ := exec_touches c s n time
    cases run.symm.trans run'
    refine .trans (b := s.at n) (.of_same rfl rfl) ?_
    by_cases apart : Block.pru ∉ touches c ∧ Block.tbs ∉ touches c
    · exact .of_only only apart.1 apart.2
    · cases c with
      | comparatorEdge m line rising =>
        cases time
        cases run
        exact .of_pru (by rw [only.tbs (by simp [touches])]) (takeEdge_kept _ line rising)
      | captureWatch m =>
        cases time
        cases run
        exact .of_pru (by rw [only.tbs (by simp [touches])])
          (takeIf_ind (P := fun x => PruKept _ _ x.pru) (.refl _ _) (watchEvent_kept _ _))
      | cycleMarker m =>
        cases time
        cases run
        exact .of_pru (by rw [only.tbs (by simp [touches])]) (runMarkers_kept _ _ _)
      | tableWrite m seq table row bs =>
        cases time
        cases run
        exact request_phaseKept (writeTable_phaseKept _ _ _ _)
      | tableDiscard m seq table =>
        cases time
        cases run
        exact request_phaseKept (discardTable_phaseKept _ _)
      | tableCommit m seq table =>
        cases time
        cases run
        exact request_phaseKept (commitTable_phaseKept _ _)
      | clearCounters m seq =>
        cases time
        cases run
        exact request_phaseKept (.of_pru rfl (.of_same rfl rfl rfl rfl rfl))
      | warmRestart m seq =>
        cases time
        cases run
        exact request_phaseKept (warmRestartCommand_phaseKept _)
      | powerUp => cases time
      | _ => simp [touches] at apart

/-- A predicate that the idle step and every command keep is kept by every step. -/
theorem step_ind {R : State → State → Prop} (idle : ∀ s, R s (tick s))
    (taken : ∀ (c : Instr) (rest : List Instr) (s t : State),
      exec c { s with pending := rest } = .next t → R s t) {s t : State}
    (run : step s = .next t) : R s t := by
  unfold step at run
  split at run
  · cases run; exact idle s
  · next c rest _ => exact taken c rest s t run

theorem step_phaseKept {s t : State} (run : step s = .next t) : PhaseKept s t :=
  step_ind (R := PhaseKept) (fun _ => .of_same rfl rfl)
    (fun _ rest s _ run => .trans (b := { s with pending := rest }) (.of_same rfl rfl)
      (exec_phaseKept run)) run

/-- Settles O12: every step keeps the laws of the Phase Reference Unit. -/
theorem stepKeepsThePeriod : Obligations.StepKeepsThePeriod := fun _ _ run =>
  have kept := step_phaseKept run
  ⟨kept.period, kept.idle⟩

end Sys2Proof.Machine
end

section
/-! PROOFS. The steps that the Extinction Monitor and the Level Monitor take, one at a time; the bounds of the
measurement windows, of the failed-level sets and of the output queue at every step (O14). -/

namespace Sys2Proof.Machine

/-! ## The steps the two monitors are made of -/

/-- What a level record becomes before its state is evaluated: a level change in range is applied, or the set
is emptied and the installed levels may be new (R132 to R135, R138). -/
inductive LevelMove : LevelRecord → LevelRecord → Prop where
  | change (r : LevelRecord) (n : Nat) (c : LevelReport) (low : 1 ≤ n) (high : n ≤ r.installed) :
    LevelMove r (applyChange r n c)
  | emptied (r : LevelRecord) (installed redundancy : Nat) :
    LevelMove r { clearedRecord r with installed := installed, redundancy := redundancy }

/-- One part of what the model does at the two monitors: one value is written there, or the monitors and the
tables stand (R118 to R138). -/
inductive MonitorStep : State → State → Prop where
  | rest {s t : State} (exm : t.exm = s.exm) (lvm : t.lvm = s.lvm) (tbs : t.tbs = s.tbs) :
    MonitorStep s t
  | pending (s : State) (v : Valve) (x : Option PendingExtinction) : MonitorStep s (s.setPending v x)
  | failure (s : State) (g : Group) : MonitorStep s (noteFailure s g)
  | notice (s : State) (g : Group) : MonitorStep s (planningNotice s g)
  | gamma (s : State) (v : Valve) (x : Int) (late : Bool) : MonitorStep s (writeGamma s v x late)
  | measurement (s : State) (g : Group) (x : Int) : MonitorStep s (addMeasurement s g x)
  | raise (s : State) (b : Bridge) (shortfall : Int)
      (rise : s.exm.correction[b] < min s.tbs.limits.cMax (s.exm.correction[b] + shortfall)) :
    MonitorStep s (s.setCorrection b (min s.tbs.limits.cMax (s.exm.correction[b] + shortfall)))
  | decay (s : State) (b : Bridge) : MonitorStep s (decayCorrection s b)
  | discard (s : State) : MonitorStep s s.countDiscard
  | clamp (s : State) : MonitorStep s (clampToLimits s)
  | restart (s : State) : MonitorStep s (restartExm s)
  | level (s : State) (v : Valve) (r : LevelRecord) (move : LevelMove s.lvm.levels[v] r) :
    MonitorStep s (s.setLevel v { r with state := levelStateOf r })
  | rangeError (s : State) : MonitorStep s s.countRangeError

/-- `t` comes from `s` by steps at the two monitors. -/
abbrev MonitorSteps : State → State → Prop := Relation.ReflTransGen MonitorStep

theorem MonitorStep.steps {s t : State} (h : MonitorStep s t) : MonitorSteps s t := .single h

/-- An operation whose frame names neither monitor nor the tables. -/
theorem Only.monitored {bs : List Block} {s t : State} (only : Only bs s t)
    (apart : [Block.exm, .lvm, .tbs].any bs.contains = false) : MonitorSteps s t := by
  simp only [List.any_cons, List.any_nil, Bool.or_false, Bool.or_eq_false_iff,
    List.contains_eq_mem, decide_eq_false_iff_not] at apart
  exact MonitorStep.steps (.rest (only.exm apart.1) (only.lvm apart.2.1) (only.tbs apart.2.2))

/-- Steps for every element are steps for a list. -/
theorem MonitorSteps.foldl {α : Type} (f : State → α → State) (h : ∀ s x, MonitorSteps s (f s x))
    (xs : List α) (s : State) : MonitorSteps s (xs.foldl f s) := by
  induction xs generalizing s with
  | nil => exact .refl
  | cons x xs ih => exact (h s x).trans (ih _)

/-! ## The Extinction Monitor -/

theorem declareFailure_monitored (s : State) (g : Group) : MonitorSteps s (declareFailure s g) := by
  have revised : MonitorSteps s (revise (noteFailure s g) (.group g)) :=
    (MonitorStep.failure s g).steps.trans ((revise_only _ _).monitored rfl)
  unfold declareFailure
  dsimp only
  split
  · exact revised.trans ((groupEvent_only _ g _).monitored rfl)
  · exact revised

theorem deadlineEvent_monitored (s : State) (v : Valve) (p : PendingExtinction) :
    MonitorSteps s (deadlineEvent s v p) := by
  unfold deadlineEvent
  split
  · exact (MonitorStep.pending s v _).steps.trans (declareFailure_monitored _ _)
  · exact (MonitorStep.pending s v none).steps

theorem openExtinction_monitored (s : State) (v : Valve) (seq : Byte) (reversal : Time) :
    MonitorSteps s (openExtinction s v seq reversal) := by
  unfold openExtinction
  dsimp only
  split
  · exact (MonitorStep.pending s v _).steps.trans (deadlineEvent_monitored _ _ _)
  · exact (MonitorStep.pending s v _).steps

theorem raiseCorrection_monitored (s : State) (b : Bridge) (x : Int) :
    MonitorSteps s (raiseCorrection s b x) := by
  unfold raiseCorrection
  dsimp only
  split
  · next rise => exact (MonitorStep.raise s b x rise).steps.trans ((revise_only _ _).monitored rfl)
  · exact .refl

theorem steerByGamma_monitored (s : State) (v : Valve) (gamma : Int) :
    MonitorSteps s (steerByGamma s v gamma) := by
  have measured := (MonitorStep.measurement s (valveGroup v) gamma).steps
  unfold steerByGamma
  dsimp only
  split
  · exact measured.trans (declareFailure_monitored _ _)
  · split
    · exact measured.trans (raiseCorrection_monitored _ _ _)
    · exact measured.trans (MonitorStep.decay _ _).steps

theorem lateMeasurement_monitored (s : State) (v : Valve) (gamma : Int) :
    MonitorSteps s (lateMeasurement s v gamma) :=
  (MonitorStep.pending s v none).steps.trans (MonitorStep.gamma _ v gamma true).steps

theorem onTimeMeasurement_monitored (s : State) (v : Valve) (gamma : Int) :
    MonitorSteps s (onTimeMeasurement s v gamma) := by
  have written : MonitorSteps s (writeGamma (s.setPending v none) v gamma false) :=
    (MonitorStep.pending s v none).steps.trans (MonitorStep.gamma _ v gamma false).steps
  unfold onTimeMeasurement
  dsimp only
  split
  · exact written.trans (steerByGamma_monitored _ _ _)
  · exact written

theorem extinctionReport_monitored (s : State) (v : Valve) (d : Half) (seq : Byte) (t : Time) :
    MonitorSteps s (extinctionReport s v d seq t) := by
  have discarded := (MonitorStep.discard s).steps
  unfold extinctionReport
  split
  · exact discarded
  · split
    · dsimp only
      split
      · exact lateMeasurement_monitored _ _ _
      · exact onTimeMeasurement_monitored _ _ _
    · exact discarded

/-! ## Outcomes and instants of records -/

theorem openIfMeasured_monitored (s : State) (r : FireRecord) (o : RecordOutcome) :
    MonitorSteps s (openIfMeasured s r o) := by
  unfold openIfMeasured
  split
  · split
    · exact openExtinction_monitored _ _ _ _
    · exact .refl
  all_goals exact .refl

theorem finish_monitored (s : State) (r : FireRecord) (o : RecordOutcome) :
    MonitorSteps s (finish s r o) :=
  ((closeRecord_only s r o).monitored rfl).trans ((openIfMeasured_monitored _ r o).trans
    (((giveNotices_only _ _).monitored rfl).trans ((retryWaiting_only _ _).monitored rfl)))

theorem State.putRecord_monitored (s : State) (r r' : FireRecord) :
    MonitorSteps s (s.putRecord r r') := MonitorStep.steps (.rest rfl rfl rfl)

theorem confirmEvent_monitored (s : State) (r : FireRecord) : MonitorSteps s (confirmEvent s r) := by
  have missed : MonitorSteps s
      (finish (if r.isRegular then s.countFireMissed.setFlag .fireMissed else s) r .missed) := by
    refine .trans ?_ (finish_monitored _ r .missed)
    split
    · exact MonitorStep.steps (.rest rfl rfl rfl)
    · exact .refl
  unfold confirmEvent
  split
  · exact missed
  · exact missed
  · exact missed
  · exact (s.countUnconfirmed_only.monitored rfl).trans (finish_monitored _ _ _)
  · exact s.putRecord_monitored _ _
  · exact s.putRecord_monitored _ _

theorem releaseTimeoutEvent_monitored (s : State) (r : FireRecord) :
    MonitorSteps s (releaseTimeoutEvent s r) := by
  unfold releaseTimeoutEvent
  split
  · exact (s.countUnconfirmed_only.monitored rfl).trans (finish_monitored _ _ _)
  · exact s.putRecord_monitored _ _

theorem takeInstant_monitored {s : State} {v : Valve} {instant : FireRecord → Option Time}
    {event : State → FireRecord → State} (h : ∀ s r, MonitorSteps s (event s r)) :
    MonitorSteps s (takeInstant s v instant event) := by
  unfold takeInstant
  split
  · exact .refl
  · exact h _ _

theorem confirmAtArming_monitored (s : State) (r : FireRecord) :
    MonitorSteps s (confirmAtArming s r) := by
  unfold confirmAtArming
  split
  · exact confirmEvent_monitored _ _
  · exact .refl

theorem placeRecord_monitored (s : State) (r : FireRecord) : MonitorSteps s (placeRecord s r) := by
  have added : MonitorSteps s (s.addRecord r) := MonitorStep.steps (.rest rfl rfl rfl)
  unfold placeRecord
  split
  · exact added.trans (((latenessEvent_only _ r).monitored rfl).trans (confirmAtArming_monitored _ _))
  · exact added.trans (confirmAtArming_monitored _ _)

theorem ackEvent_monitored (s : State) (r : FireRecord) (n : BitVec 16) :
    MonitorSteps s (ackEvent s r n) := by
  unfold ackEvent
  split
  · exact s.putRecord_monitored _ _
  any_goals exact .refl
  all_goals
    split
    · exact finish_monitored _ _ _
    · exact .refl

theorem takeAck_monitored (v : Valve) (n : BitVec 16) (s : State) (seq : Byte) :
    MonitorSteps s (takeAck v n s seq) := by
  unfold takeAck
  split
  · exact .refl
  · exact ackEvent_monitored _ _ _

theorem firedEvent_monitored (s : State) (r : FireRecord) (stamp : Time) :
    MonitorSteps s (firedEvent s r stamp) := by
  have stamped : MonitorSteps s ((if deviates s r stamp then s.countTimingDeviation else s).putRecord
      r { r with firedStamp := some stamp }) := by
    refine .trans ?_ (State.putRecord_monitored _ _ _)
    split
    · exact MonitorStep.steps (.rest rfl rfl rfl)
    · exact .refl
  unfold firedEvent
  dsimp only
  split
  · exact stamped
  · exact stamped.trans (finish_monitored _ _ _)

theorem takeFired_monitored (v : Valve) (d : Half) (s : State) (x : Byte × Time) :
    MonitorSteps s (takeFired v d s x) := by
  unfold takeFired
  split
  · exact .refl
  · exact firedEvent_monitored _ _ _

/-! ## Planning, cycle markers and edges -/

theorem placeStart_monitored (s : State) (v : Valve) (due : Time) (hold : Nat) :
    MonitorSteps s (placeStart s v due hold) := by
  unfold placeStart
  split
  · exact placeRecord_monitored _ _
  · exact (refuseRecord_only _).monitored rfl

theorem issueStart_monitored (s : State) (v : Valve) (due : Time) (hold : Nat) :
    MonitorSteps s (issueStart s v due hold) := by
  unfold issueStart
  split
  · exact ((clearStartPending_only _ _).monitored rfl).trans (placeStart_monitored _ _ _ _)
  · exact .refl

theorem offerNormal_monitored (s : State) (v : Valve) (i : PlanInputs) (x : StageResult) :
    MonitorSteps s (offerNormal s v i x) := by
  unfold offerNormal
  split
  · exact (placeRecord_monitored _ _).trans (((notePlanned_only _ _ _ _).monitored rfl).trans
      ((MonitorStep.notice _ _).steps.trans (issueStart_monitored _ _ _ _)))
  · exact (refuseRecord_only _).monitored rfl

theorem planningEvent_monitored (s : State) (v : Valve) (target : Time) :
    MonitorSteps s (planningEvent s v target) := by
  unfold planningEvent
  split
  · exact ((noteFloor_only _ _).monitored rfl).trans (offerNormal_monitored _ _ _ _)
  · exact .refl

theorem takePlanning_monitored (s : State) (v : Valve) : MonitorSteps s (takePlanning s v) := by
  unfold takePlanning
  split
  · exact .refl
  · exact ((s.setPlanning_only v none).monitored rfl).trans (planningEvent_monitored _ _ _)

theorem takePlannings_monitored (s : State) (sel : Planning → Bool) :
    MonitorSteps s (takePlannings s sel) :=
  MonitorSteps.foldl _ takePlanning_monitored _ _

theorem armPlannings_monitored (s : State) (t0 : Time) (p : Nat) :
    MonitorSteps s (armPlannings s t0 p) :=
  (takePlannings_monitored s _).trans (((setPlannings_only _ t0 p).monitored rfl).trans
    (takePlannings_monitored _ _))

theorem markerEvent_monitored (s : State) : MonitorSteps s (markerEvent s) := by
  have stepped := (s.setPru_only (stepOrigin s.pru)).monitored rfl
  rw [markerEvent_eq]
  split
  · exact stepped.trans ((loseLock_only _).monitored rfl)
  · exact stepped.trans ((armPlannings_monitored _ _ _).trans ((State.setPru_only _ _).monitored rfl))

theorem runMarkers_monitored (fuel : Nat) (s : State) : MonitorSteps s (runMarkers fuel s) := by
  induction fuel generalizing s with
  | zero => exact .refl
  | succ fuel ih =>
    unfold runMarkers
    split
    · exact (markerEvent_monitored s).trans (ih _)
    · exact .refl

theorem rearmMarker_monitored (s : State) : MonitorSteps s (rearmMarker s) :=
  ((s.setPru_only _).monitored rfl).trans (runMarkers_monitored _ _)

theorem capture_monitored (s : State) (j : Nat) (t : Time) : MonitorSteps s (capture s j t) := by
  unfold capture
  dsimp only
  split
  · exact ((s.setPru_only _).monitored rfl).trans (((setLock_only _ _ _).monitored rfl).trans
      (rearmMarker_monitored _))
  · split
    · exact (rejectedCapture_only _ _ _ _).monitored rfl
    · exact ((s.setPru_only _).monitored rfl).trans (((acceptedLock_only _ _).monitored rfl).trans
        (rearmMarker_monitored _))

theorem takeEdge_monitored (s : State) (line : Line) (rising : Bool) :
    MonitorSteps s (takeEdge s line rising) := by
  unfold takeEdge
  split
  · exact MonitorStep.steps (.rest rfl rfl rfl)
  · exact ((s.setPru_only _).monitored rfl).trans (capture_monitored _ _ _)

/-! ## The Level Monitor -/

theorem updateLevel_monitored {s : State} {v : Valve} {r : LevelRecord} (restored : Bool)
    (move : LevelMove s.lvm.levels[v] r) : MonitorSteps s (updateLevel s v r restored) := by
  have taken := (MonitorStep.level s v r move).steps
  have flag (s : State) (b : Prop) [Decidable b] (f : StickyFlag) :
      MonitorSteps s (if b then s.setFlag f else s) := by
    split
    · exact (s.setFlag_only f).monitored rfl
    · exact .refl
  have noted := taken.trans (((State.setFlag_only _ .levelChange).monitored rfl).trans
    (flag _ (levelStateOf r = .atLimit ∨ levelStateOf r = .overLimit) .levelLimit))
  unfold updateLevel
  by_cases same : levelStateOf r = s.lvm.levels[v].state
  · rw [if_pos same]; exact taken
  rw [if_neg same]
  dsimp only
  by_cases beyond : levelStateOf r = .overLimit
  · rw [if_pos beyond]; exact noted.trans ((groupEvent_only _ _ _).monitored rfl)
  rw [if_neg beyond]
  by_cases back : s.lvm.levels[v].state = .overLimit ∧ restored
  · rw [if_pos back]; exact noted.trans ((groupEvent_only _ _ _).monitored rfl)
  · rw [if_neg back]; exact noted

theorem levelChange_monitored (v : Valve) (s : State) (x : Nat × LevelReport) :
    MonitorSteps s (levelChange v s x) := by
  unfold levelChange
  dsimp only
  split
  · next range => exact updateLevel_monitored true (.change _ _ _ range.1 range.2)
  · exact (MonitorStep.rangeError s).steps

theorem clearLevel_monitored (s : State) (v : Valve) (restored : Bool) :
    MonitorSteps s (clearLevel s v restored) :=
  updateLevel_monitored restored (.emptied _ _ _)

theorem remakeFromStation_monitored (s : State) : MonitorSteps s (remakeFromStation s) := by
  unfold remakeFromStation
  split
  · exact .refl
  · refine MonitorSteps.foldl _ (fun s v => ?_) _ _
    unfold remakeLevel
    split
    · exact .refl
    · exact updateLevel_monitored false (.emptied _ _ _)

theorem clearFaultsOf_monitored (s : State) (v : Valve) : MonitorSteps s (clearFaultsOf s v) := by
  unfold clearFaultsOf
  dsimp only
  refine .trans (clearLevel_monitored s v true) ?_
  split
  · exact .refl
  · split
    · exact (State.createItem_only _ _ _).monitored rfl
    · exact .refl

theorem clearAllFaults_monitored (s : State) : MonitorSteps s (clearAllFaults s) :=
  MonitorSteps.foldl _ clearFaultsOf_monitored _ _

theorem clearLevelFaults_monitored (s : State) (valve : Byte) :
    MonitorSteps s (clearLevelFaults s valve).1 := by
  unfold clearLevelFaults
  by_cases all : valve = 0#8
  · rw [if_pos all]
    dsimp only
    exact clearAllFaults_monitored s
  · rw [if_neg all]
    split
    · exact .refl
    · exact clearFaultsOf_monitored _ _

/-! ## Frames that come back -/

theorem enrolStation_monitored (s : State) (p : RingPos) (row : StationRow) (i : Ident) :
    MonitorSteps s (enrolStation s p row i) :=
  ((s.setStation_only p _).monitored rfl).trans (((State.createItem_only _ _ _).monitored rfl).trans
    ((clearLevel_monitored _ _ _).trans (((State.createItem_only _ _ _).monitored rfl).trans
      ((groupEvent_only _ _ _).monitored rfl))))

theorem compareIdent_monitored (s : State) (p : RingPos) (row : StationRow) (i : Ident) :
    MonitorSteps s (compareIdent s p row i) := by
  unfold compareIdent
  split
  · exact enrolStation_monitored _ _ _ _
  · exact (failComparison_only _ _ _).monitored rfl

theorem countIdent_monitored (s : State) (p : RingPos) (row : StationRow) (i : Ident) :
    MonitorSteps s (countIdent s p row i) := by
  unfold countIdent
  split
  · exact ((s.setStation_only p _).monitored rfl).trans (compareIdent_monitored _ _ _ _)
  · exact (s.setStation_only p _).monitored rfl

theorem identFromEnrolled_monitored (s : State) (p : RingPos) (n : BitVec 16) (i : Ident) :
    MonitorSteps s (identFromEnrolled s p n i) := by
  have heard : MonitorSteps s (clearMiss s p) := (s.setStation_only p _).monitored rfl
  unfold identFromEnrolled
  split
  · split
    · exact heard
    · exact heard.trans ((State.createItem_only _ _ _).monitored rfl)
  · exact heard.trans (((State.setStation_only _ p _).monitored rfl).trans
      (((removeEnrolItems_only _ p).monitored rfl).trans
        (((State.setFlag_only _ _).monitored rfl).trans ((faultEvent_only _ _).monitored rfl))))

theorem takeIdent_monitored (s : State) (p : RingPos) (row : StationRow) (n : BitVec 16) (i : Ident) :
    MonitorSteps s (takeIdent s p row n i) := by
  unfold takeIdent
  split
  · exact (s.setStation_only p _).monitored rfl
  · exact countIdent_monitored _ _ _ _
  · exact countIdent_monitored _ _ _ _
  · exact identFromEnrolled_monitored _ _ _ _
  · exact .refl

theorem takeReports_monitored (s : State) (v : Valve) (d : Half) (r : RunSlot) :
    MonitorSteps s (takeReports s v d r) := by
  have extinction (s : State) : MonitorSteps s (takeExtinction v d s r.extinction) := by
    unfold takeExtinction
    split
    · exact .refl
    · exact extinctionReport_monitored _ _ _ _ _
  exact (MonitorSteps.foldl _ (takeFired_monitored v d) _ _).trans
    ((MonitorSteps.foldl _ (takeAck_monitored v _) _ _).trans ((extinction _).trans
      (MonitorSteps.foldl _ (levelChange_monitored v) _ _)))

theorem routeSlot_monitored (s : State) (p : RingPos) (row : StationRow) (d : Half) (b : SlotBody) :
    MonitorSteps s (routeSlot s p row d b) := by
  unfold routeSlot
  split
  · exact takeIdent_monitored _ _ _ _ _
  · split
    · exact ((s.setStation_only p _).monitored rfl).trans
        (((State.removeItem_only _ _ _).monitored rfl).trans (takeReports_monitored _ _ _ _))
    · exact (runNotEnrolled_only _ _).monitored rfl

theorem routeGood_monitored (s : State) (p : RingPos) (d : Half) (b : SlotBody) :
    MonitorSteps s (routeGood s p d b) := by
  unfold routeGood
  split
  · exact .refl
  · exact routeSlot_monitored _ _ _ _ _

theorem takeSlot_monitored (m : Marker) (s : State) (x : RingPos × Slot) :
    MonitorSteps s (takeSlot m s x) := by
  unfold takeSlot
  split
  · exact .refl
  · exact s.countReceiveError_only.monitored rfl
  · exact ((noteSlot_only _ _ _ _ _).monitored rfl).trans (routeGood_monitored _ _ _ _)

theorem takeArrival_monitored (s : State) (input : Port) (a : Arrival) :
    MonitorSteps s (takeArrival s input a) := by
  have error := s.countReceiveError_only.monitored rfl
  unfold takeArrival
  split
  · exact error
  · exact error
  · split
    · split
      · split
        · exact ((s.mapCycle_only _).monitored rfl).trans (((noteTurning_only _ _ _ _).monitored rfl).trans
            (MonitorSteps.foldl _ (takeSlot_monitored _) _ _))
        · exact error
      · exact error
    · exact (takeOverrun_only _ _).monitored rfl

/-! ## Requests -/

theorem testFire_monitored (s : State) (valve : Byte) : MonitorSteps s (testFire s valve).1 := by
  unfold testFire
  split
  · exact .refl
  · split
    · exact (placeRecord_monitored _ _).trans ((groupEvent_only _ _ _).monitored rfl)
    · exact .refl

theorem commitEffects_monitored (s : State) (id : TableId) : MonitorSteps s (commitEffects s id) := by
  unfold commitEffects
  split
  · exact (MonitorStep.clamp s).steps
  · exact .refl
  · exact ((restartPru_only s).monitored rfl).trans ((disarmPlannings_only _).monitored rfl)
  · exact (remakeFromStation_monitored s).trans (((clearSequences_only _).monitored rfl).trans
      ((ringRestart_only _).monitored rfl))
  · exact (ringRestart_only s).monitored rfl

theorem clearMisses_only (s : State) : Only [.fsc] s (clearMisses s) := s.setFsc_only _ (.refl _)

theorem warmRestartCommand_monitored (s : State) : MonitorSteps s (warmRestartCommand s).1 := by
  unfold warmRestartCommand
  split
  · exact ((restartPru_only s).monitored rfl).trans (((restartFac_only _).monitored rfl).trans
      (((restartFsc_only _).monitored rfl).trans ((MonitorStep.restart _).steps.trans
        (((ringRestart_only _).monitored rfl).trans (((clearMisses_only _).monitored rfl).trans
          (((restartGroup_only _ 0).monitored rfl).trans ((restartGroup_only _ 1).monitored rfl)))))))
  · exact .refl

/-! ## Failed-level sets (R132, R134, R135) -/

/-- A new element takes its place in an ascending list. -/
theorem insertLevel_pairwise {n : Nat} {c : LevelCause} {xs : List (Nat × LevelCause)}
    (new : ∀ x ∈ xs, x.1 ≠ n) (ascending : xs.Pairwise fun a b => a.1 < b.1) :
    (insertLevel n c xs).Pairwise fun a b => a.1 < b.1 := by
  induction xs with
  | nil => exact List.pairwise_singleton _ _
  | cons y ys ih =>
    obtain ⟨above, rest⟩ := List.pairwise_cons.mp ascending
    have other := new y List.mem_cons_self
    simp only [insertLevel, insertBy]
    split
    · next below =>
      have below : n < y.1 := of_decide_eq_true below
      refine List.pairwise_cons.mpr ⟨fun x mem => ?_, ascending⟩
      rcases List.mem_cons.mp mem with rfl | mem
      · exact below
      · exact below.trans (above x mem)
    · next not_below =>
      have not_below : ¬ n < y.1 := fun h => not_below (decide_eq_true h)
      refine List.pairwise_cons.mpr
        ⟨fun x mem => ?_, ih (fun x mem => new x (List.mem_cons_of_mem _ mem)) rest⟩
      rcases (mem_insertBy _ _ _ _).mp mem with rfl | mem
      · show y.1 < n
        omega
      · exact above x mem

theorem causeOf_eq_none {r : LevelRecord} {n : Nat} (h : causeOf r n = none) :
    ∀ x ∈ r.failed, x.1 ≠ n := by
  simpa [causeOf, List.find?_eq_none] using h

theorem reportFailed_listed {r : LevelRecord} {n : Nat} (c : LevelCause) (low : 1 ≤ n)
    (high : n ≤ r.installed) (listed : LevelsListed r) : LevelsListed (reportFailed r n c) := by
  obtain ⟨bound, ascending, range⟩ := listed
  unfold reportFailed
  split
  · next absent =>
    split
    · next room =>
      refine ⟨(insertBy_length _ _ _).trans_le room,
        insertLevel_pairwise (causeOf_eq_none absent) ascending, fun x mem => ?_⟩
      rcases (mem_insertBy _ _ _ _).mp mem with rfl | mem
      · exact ⟨low, high⟩
      · exact range x mem
    · exact ⟨bound, ascending, range⟩
  · have number (x : Nat × LevelCause) : (if x.1 = n then (n, LevelCause.short) else x).1 = x.1 := by
      split
      · next same => exact same.symm
      · rfl
    refine ⟨List.length_map .. |>.trans_le bound, ?_, fun x mem => ?_⟩
    · exact List.pairwise_map.mpr (ascending.imp fun below => by rw [number, number]; exact below)
    · obtain ⟨y, old, rfl⟩ := List.mem_map.mp mem
      rw [number]
      exact range y old
  · exact ⟨bound, ascending, range⟩
  · exact ⟨bound, ascending, range⟩

theorem reportOk_listed {r : LevelRecord} (n : Nat) (listed : LevelsListed r) :
    LevelsListed (reportOk r n) := by
  obtain ⟨bound, ascending, range⟩ := listed
  unfold reportOk
  split
  · exact ⟨(List.length_filter_le _ _).trans bound, ascending.sublist List.filter_sublist,
      fun x mem => range x (List.mem_of_mem_filter mem)⟩
  · exact ⟨bound, ascending, range⟩
  · exact ⟨bound, ascending, range⟩

theorem LevelMove.listed {r r' : LevelRecord} (move : LevelMove r r') (listed : LevelsListed r) :
    LevelsListed r' := by
  cases move with
  | change n c low high =>
    cases c with
    | short | noResponse => exact reportFailed_listed _ low high listed
    | ok => exact reportOk_listed n listed
    | protFired => exact listed
  | emptied installed redundancy => exact ⟨Nat.zero_le _, .nil, nofun⟩

/-! ## The bounds of the two monitors -/

/-- From `s` to `t` the measurement windows keep their bound (R128) and the failed-level sets their law
(R132, R134). -/
structure MonitorsKept (s t : State) : Prop where
  windows : (∀ g : Group, s.exm.windows[g].length ≤ Config.windowLength) →
    ∀ g : Group, t.exm.windows[g].length ≤ Config.windowLength
  levels : (∀ v : Valve, LevelsListed s.lvm.levels[v]) → ∀ v : Valve, LevelsListed t.lvm.levels[v]

theorem MonitorsKept.trans {a b c : State} (h : MonitorsKept a b) (k : MonitorsKept b c) :
    MonitorsKept a c := ⟨k.windows ∘ h.windows, k.levels ∘ h.levels⟩

theorem MonitorsKept.of_same {s t : State} (windows : t.exm.windows = s.exm.windows)
    (levels : t.lvm.levels = s.lvm.levels) : MonitorsKept s t where
  windows h := by rwa [windows]
  levels h := by rwa [levels]

/-- Every step but a measurement, a restart and a change of a level record leaves the windows and the level
records; a window drops its oldest value when it is full (R128). -/
theorem MonitorStep.kept {s t : State} (step : MonitorStep s t) : MonitorsKept s t := by
  cases step with
  | rest exm lvm _ => exact .of_same (by rw [exm]) (by rw [lvm])
  | notice g =>
    unfold planningNotice
    dsimp only
    split
    · exact .of_same rfl rfl
    · exact .of_same rfl rfl
  | measurement g x =>
    refine ⟨fun bound h => ?_, id⟩
    show (setAt s.exm.windows g _)[h].length ≤ _
    rw [setAt_get_eq]
    split
    · exact pushLast_length_le _ _ _
    · exact bound h
  | restart =>
    refine ⟨fun _ g => ?_, id⟩
    show (fill 2 ([] : List Int))[g].length ≤ _
    rw [fill_get]
    exact Nat.zero_le _
  | level v r move =>
    refine ⟨id, fun listed w => ?_⟩
    rw [State.setLevel_lvm_levels, setAt_get_eq]
    split
    · exact move.listed (listed v)
    · exact listed w
  | pending | failure | gamma | raise | decay | discard | clamp | rangeError =>
    exact .of_same rfl rfl

theorem MonitorSteps.kept {s t : State} (steps : MonitorSteps s t) : MonitorsKept s t := by
  induction steps with
  | refl => exact .of_same rfl rfl
  | tail _ step ih => exact ih.trans step.kept

theorem reset_windows (g : Group) : Exm.reset.windows[g].length ≤ Config.windowLength := by
  rw [show Exm.reset.windows = fill 2 [] from rfl, fill_get]
  exact Nat.zero_le _

theorem reset_levels (v : Valve) : LevelsListed Lvm.reset.levels[v] := by
  rw [show Lvm.reset.levels = fill 24 LevelRecord.reset from rfl, fill_get]
  exact ⟨Nat.zero_le _, .nil, nofun⟩

/-- A commit's own act leaves the monitors; its effects are steps of theirs (R177, R178). -/
theorem commitTable_monitorsKept (s : State) (table : Byte) :
    MonitorsKept s (commitTable s table).1 := by
  have stands : MonitorsKept s s := .of_same rfl rfl
  have noted (id : TableId) : MonitorsKept s (noteCommit s id) := .of_same rfl rfl
  unfold commitTable
  split
  · exact stands
  · split
    · exact stands
    · split
      · exact stands
      · split
        · exact stands
        · exact (noted _).trans ((commitEffects_monitored _ _).kept.trans
            ((bothGroups_only _ _).monitored rfl).kept)

/-- CLEAR_COUNTERS leaves the windows and the failed-level sets (R180). -/
theorem clearCounters_monitorsKept (s : State) : MonitorsKept s (clearCounters s) := by
  have levels : (clearCounters s).lvm.levels =
      mapVec (fun r : LevelRecord => { r with protective := 0#16 }) s.lvm.levels := rfl
  have windows : (clearCounters s).exm.windows = s.exm.windows := rfl
  refine ⟨fun bound => by rwa [windows], fun listed v => ?_⟩
  rw [levels, mapVec_get]
  exact listed v

theorem request_monitorsKept {s : State} {type seq : Byte} {act : State → State × Answer}
    (acted : MonitorsKept s (act s).1) : MonitorsKept s (request s type seq act) :=
  request_ind (P := MonitorsKept s) (.of_same rfl rfl) fun f =>
    acted.trans ((enqueue_only _ f).monitored rfl).kept

theorem exec_monitorsKept {c : Instr} {s t : State} (run : exec c s = .next t) :
    MonitorsKept s t := by
  cases time : c.time? with
  | none =>
    cases c with
    | powerUp =>
      cases run
      exact ⟨fun _ => reset_windows, fun _ => reset_levels⟩
    | _ => cases time
  | some n =>
    obtain ⟨u, run', only⟩ := exec_touches c s n time
    cases run.symm.trans run'
    refine .trans (b := s.at n) (.of_same rfl rfl) ?_
    by_cases apart : Block.exm ∉ touches c ∧ Block.lvm ∉ touches c
    · exact .of_same (by rw [only.exm apart.1]) (by rw [only.lvm apart.2])
    · cases c with
      | powerUp => cases time
      | comparatorEdge => cases time; cases run; exact (takeEdge_monitored _ _ _).kept
      | cycleMarker => cases time; cases run; exact (runMarkers_monitored _ _).kept
      | planningInstant =>
        cases time; cases run
        exact takeIf_ind (P := MonitorsKept _) (.of_same rfl rfl) (takePlanning_monitored _ _).kept
      | ringFrameReturn => cases time; cases run; exact (takeArrival_monitored _ _ _).kept
      | confirmInstant =>
        cases time; cases run; exact (takeInstant_monitored confirmEvent_monitored).kept
      | releaseTimeout =>
        cases time; cases run; exact (takeInstant_monitored releaseTimeoutEvent_monitored).kept
      | deadlineInstant m v =>
        cases time; cases run
        refine takeIf_ind (P := MonitorsKept _) (.of_same rfl rfl) ?_
        unfold takeDeadline
        split
        · exact .of_same rfl rfl
        · exact (deadlineEvent_monitored _ _ _).kept
      | tableCommit => cases time; cases run; exact request_monitorsKept (commitTable_monitorsKept _ _)
      | clearCounters => cases time; cases run; exact request_monitorsKept (clearCounters_monitorsKept _)
      | clearLevelFaults =>
        cases time; cases run; exact request_monitorsKept (clearLevelFaults_monitored _ _).kept
      | testFire => cases time; cases run; exact request_monitorsKept (testFire_monitored _ _).kept
      | warmRestart =>
        cases time; cases run; exact request_monitorsKept (warmRestartCommand_monitored _).kept
      | _ => simp [touches] at apart

/-! ## The output queue (R165, R166) -/

/-- The bounds of a queue: three REPLYs and one STATUS. -/
def CountsBounded (q : List OutFrame) : Prop :=
  replyCount q ≤ Config.replyPlaces ∧ q.count .status ≤ 1

/-- A frame of the kind has a place in the queue (R166). -/
def HasPlace (q : List OutFrame) (f : OutFrame) : Prop :=
  match f with
  | .status => .status ∉ q
  | .reply _ => replyCount q < Config.replyPlaces

theorem CountsBounded.append {q : List OutFrame} {f : OutFrame} (bounded : CountsBounded q)
    (place : HasPlace q f) : CountsBounded (q ++ [f]) := by
  obtain ⟨replies, statuses⟩ := bounded
  cases f with
  | status =>
    refine ⟨?_, ?_⟩
    · simpa [replyCount] using replies
    · rw [List.count_append, List.count_eq_zero.mpr place]
      rfl
  | reply r =>
    refine ⟨?_, ?_⟩
    · have room : replyCount q < Config.replyPlaces := place
      simp only [replyCount, List.filter_append, List.length_append] at room ⊢
      exact room
    · simpa [List.count_append] using statuses

theorem CountsBounded.tail {q : List OutFrame} {f : OutFrame} (bounded : CountsBounded (f :: q)) :
    CountsBounded q :=
  ⟨((List.sublist_cons_self f q).filter _).length_le.trans bounded.1,
    ((List.sublist_cons_self f q).count_le _).trans bounded.2⟩

/-- An idle transmitter takes the oldest frame, so that none waits while it is idle (R165). -/
theorem kickTransmitter_bounded {s : State} (bounded : CountsBounded s.olp.queue) :
    QueueBounded (kickTransmitter s) := by
  unfold kickTransmitter
  split
  · next waiting =>
    rw [waiting] at bounded
    exact ⟨bounded.tail.1, bounded.tail.2, nofun⟩
  · next empty => exact ⟨bounded.1, bounded.2, fun _ => empty⟩
  · next sending => exact ⟨bounded.1, bounded.2, fun idle => nomatch sending.symm.trans idle⟩

theorem QueueBounded.counts {s : State} (bounded : QueueBounded s) : CountsBounded s.olp.queue :=
  ⟨bounded.1, bounded.2.1⟩

theorem enqueue_bounded {s : State} {f : OutFrame} (bounded : QueueBounded s)
    (place : HasPlace s.olp.queue f) : QueueBounded (enqueue s f) :=
  kickTransmitter_bounded (bounded.counts.append place)

/-- An operation that leaves queue and transmitter keeps their bounds. -/
theorem QueueBounded.of_output {s t : State} (bounded : QueueBounded s)
    (output : t.olp.output = s.olp.output) : QueueBounded t := by
  obtain ⟨queue, sending⟩ := Prod.mk.inj output
  unfold QueueBounded
  rw [queue, sending]
  exact bounded

theorem queueStatus_bounded {s : State} (bounded : QueueBounded s) : QueueBounded (queueStatus s) := by
  unfold queueStatus
  split
  · exact bounded
  · next none =>
    refine enqueue_bounded bounded (fun waits => none ?_)
    exact List.any_eq_true.mpr ⟨_, waits, decide_eq_true rfl⟩

/-- A REPLY is queued only while fewer than three wait; the act of the request leaves the queue (R166). -/
theorem request_bounded {s : State} {type seq : Byte} {act : State → State × Answer}
    (output : (act s).1.olp.output = s.olp.output) (bounded : QueueBounded s) :
    QueueBounded (request s type seq act) := by
  unfold request
  split
  · exact bounded.of_output rfl
  · next room =>
    have room : replyCount s.olp.queue < Config.replyPlaces :=
      not_le.mp fun full => room (decide_eq_true full)
    refine enqueue_bounded (bounded.of_output output) ?_
    show replyCount (act s).1.olp.queue < _
    rwa [(Prod.mk.inj output).1]

theorem endSending_bounded {s : State} (bounded : QueueBounded s) : QueueBounded (endSending s) :=
  kickTransmitter_bounded (s := s.setOlp { s.olp with sending := none }) bounded.counts

theorem adoptOrder_bounded {s : State} (seq : Byte) (o : OrderValues) (bounded : QueueBounded s) :
    QueueBounded (adoptOrder s seq o) := by
  refine queueStatus_bounded (bounded.of_output ?_)
  rw [(bothGroups_only _ _).queue (by decide), (detectAc_only _ _).queue (by decide),
    (takeOrderValues_only _ _ _).queue (by decide), (noteClamp_only _ _).queue (by decide)]

theorem takeOrder_bounded {s : State} (seq : Byte) (p : List Byte) (bounded : QueueBounded s) :
    QueueBounded (takeOrder s seq p) := by
  unfold takeOrder
  split
  · exact bounded.of_output rfl
  · split
    · exact bounded.of_output rfl
    · exact adoptOrder_bounded _ _ (bounded.of_output ((noteGap_only _ _).queue (by decide)))

theorem takeUnknown_bounded {s : State} (type seq : Byte) (p : List Byte) (bounded : QueueBounded s) :
    QueueBounded (takeUnknown s type seq p) := by
  unfold takeUnknown
  split
  · exact bounded
  · split
    · exact bounded.of_output rfl
    · exact request_bounded rfl bounded

theorem exec_queueBounded {c : Instr} {s t : State} (run : exec c s = .next t)
    (bounded : QueueBounded s) : QueueBounded t := by
  cases time : c.time? with
  | none =>
    cases c with
    | powerUp => cases run; exact ⟨Nat.zero_le _, Nat.zero_le _, fun _ => rfl⟩
    | _ => cases time
  | some n =>
    obtain ⟨u, run', only⟩ := exec_touches c s n time
    cases run.symm.trans run'
    have bounded : QueueBounded (s.at n) := bounded
    by_cases apart : Block.queue ∉ touches c
    · exact bounded.of_output (only.queue apart)
    · cases c with
      | powerUp => cases time
      | order => cases time; cases run; exact takeOrder_bounded _ _ bounded
      | unknownFrame => cases time; cases run; exact takeUnknown_bounded _ _ _ bounded
      | transmitEnd =>
        cases time; cases run
        exact takeIf_ind (P := QueueBounded) bounded (endSending_bounded bounded)
      | tableWrite =>
        cases time; cases run
        exact request_bounded ((writeTable_only _ _ _ _).queue (by decide)) bounded
      | tableCommit =>
        cases time; cases run
        exact request_bounded ((commitTable_only _ _).queue (by decide)) bounded
      | tableDiscard =>
        cases time; cases run
        exact request_bounded ((discardTable_only _ _).queue (by decide)) bounded
      | clearLevelFaults =>
        cases time; cases run
        exact request_bounded ((clearLevelFaults_only _ _).queue (by decide)) bounded
      | testFire =>
        cases time; cases run
        exact request_bounded ((testFire_only _ _).queue (by decide)) bounded
      | resetTrip =>
        cases time; cases run
        exact request_bounded ((resetTrip_only _ _).queue (by decide)) bounded
      | ringRestart =>
        cases time; cases run
        exact request_bounded ((ringRestartCommand_only _).queue (by decide)) bounded
      | warmRestart =>
        cases time; cases run
        exact request_bounded ((warmRestartCommand_only _).queue (by decide)) bounded
      | tableRow | valveRecord | levelSet | stationRecord | schedule | captureHistory | counters
      | ringStats | clearFlags | clearCounters | clearRingStats =>
        cases time; cases run; exact request_bounded rfl bounded
      | _ => simp [touches] at apart

/-! ## Every step -/

theorem step_monitorsKept {s t : State} (run : step s = .next t) : MonitorsKept s t :=
  step_ind (R := MonitorsKept) (fun _ => .of_same rfl rfl)
    (fun _ rest s _ run => .trans (b := { s with pending := rest }) (.of_same rfl rfl)
      (exec_monitorsKept run)) run

theorem step_queueBounded {s t : State} (run : step s = .next t) : QueueBounded s → QueueBounded t :=
  step_ind (R := fun s t => QueueBounded s → QueueBounded t) (fun _ h => h)
    (fun _ _ _ _ run h => exec_queueBounded run h) run

/-- Settles O14: the history by the laws of the Phase Reference Unit, the windows and the level records by the
steps of the monitors, the queue by the places a frame needs. -/
theorem stepKeepsBuffersBounded : Obligations.StepKeepsBuffersBounded := fun _ _ run =>
  ⟨fun ⟨history, windows, levels⟩ => ⟨(step_phaseKept run).history history,
    (step_monitorsKept run).windows windows, (step_monitorsKept run).levels levels⟩,
    step_queueBounded run⟩

end Sys2Proof.Machine
end

section
/-! PROOFS. Which commands change the order in force, the phase model and the level records (O8), and the
invariants at reset (O9). -/

namespace Sys2Proof.Machine

/-! ## The blocks and their own commands -/

/-- The order in force, the last accepted sequence and the AC state stand: only an ORDER changes them
(R162, R164). -/
def OrderStands (s t : State) : Prop :=
  t.olp.order = s.olp.order ∧ t.olp.lastSeq = s.olp.lastSeq ∧ t.olp.ac = s.olp.ac

theorem OrderStands.trans {a b c : State} (h : OrderStands a b) (k : OrderStands b c) :
    OrderStands a c :=
  ⟨k.1.trans h.1, k.2.1.trans h.2.1, k.2.2.trans h.2.2⟩

/-- What a frame without the orders leaves of them. -/
theorem Only.orders_stand {bs : List Block} {s t : State} (only : Only bs s t)
    (apart : Block.order ∉ bs) : OrderStands s t ∧ t.olp.orderState = s.olp.orderState ∧
      t.olp.watchdog = s.olp.watchdog ∧ t.olp.holdTimer = s.olp.holdTimer := by
  have same := only.order apart
  simp only [Olp.orders, Prod.mk.injEq] at same
  obtain ⟨order, lastSeq, state, watchdog, hold, ac⟩ := same
  exact ⟨⟨order, lastSeq, ac⟩, state, watchdog, hold⟩

theorem holdExpired_orderStands (s : State) : OrderStands s (holdExpired s) :=
  .trans (b := s.setOlp { s.olp with orderState := .lost, holdTimer := none }) ⟨rfl, rfl, rfl⟩
    ((bothGroups_only _ _).orders_stand (by decide)).1

theorem watchdogExpired_orderStands (s : State) : OrderStands s (watchdogExpired s) := by
  have held := OrderStands.trans (a := s) (b := (s.setOlp { s.olp with
      orderState := .hold, watchdog := none
      holdTimer := some (s.after (s.tbs.limits.holdWindow * Config.tbPerMs)) }).setFlag .orderHold)
    ⟨rfl, rfl, rfl⟩ ((bothGroups_only _ (.orderState false)).orders_stand (by decide)).1
  unfold watchdogExpired
  dsimp only
  split
  · exact held.trans (holdExpired_orderStands _)
  · exact held

/-- Settles O8: each block stands outside the frames of the commands named; at the order timers the order
state alone changes. -/
theorem blocksChangeByTheirOwnCommands : Obligations.BlocksChangeByTheirOwnCommands := by
  intro c s t run up
  cases time : c.time? with
  | none =>
    cases c with
    | powerUp => exact absurd rfl up
    | _ => cases time
  | some n =>
    obtain ⟨u, run', only⟩ := exec_touches c s n time
    cases run.symm.trans run'
    refine ⟨fun order => ?orders, fun own => ?pru, fun own => ?levels⟩
    case orders =>
      by_cases apart : Block.order ∉ touches c
      · obtain ⟨⟨values, lastSeq, ac⟩, state⟩ := only.orders_stand apart
        exact ⟨values, lastSeq, ac, fun _ _ => state⟩
      · cases c with
        | powerUp => cases time
        | order m seq payload => exact absurd rfl (order m seq payload)
        | orderWatchdog m =>
          cases run
          obtain ⟨values, lastSeq, ac⟩ := takeIf_ind (P := OrderStands s) (instant := watchdogOf)
            (s := s) (n := m) ⟨rfl, rfl, rfl⟩ (watchdogExpired_orderStands (s.at m))
          exact ⟨values, lastSeq, ac, fun other => absurd rfl (other m)⟩
        | holdTimer m =>
          cases run
          obtain ⟨values, lastSeq, ac⟩ := takeIf_ind (P := OrderStands s) (instant := holdTimerOf)
            (s := s) (n := m) ⟨rfl, rfl, rfl⟩ (holdExpired_orderStands (s.at m))
          exact ⟨values, lastSeq, ac, fun _ other => absurd rfl (other m)⟩
        | _ => simp [touches] at apart
    case pru =>
      refine only.pru ?_
      cases c with
      | powerUp => cases time
      | comparatorEdge | captureWatch | cycleMarker | tableCommit | clearCounters | warmRestart =>
        exact False.elim own
      | _ => simp [touches]
    case levels =>
      refine only.lvm ?_
      cases c with
      | powerUp => cases time
      | ringFrameReturn | tableCommit | clearCounters | clearLevelFaults => exact False.elim own
      | _ => simp [touches]

/-! ## The invariants at reset -/

theorem reset_no_record (r : FireRecord) : r ∉ State.reset.fsc.records :=
  List.not_mem_nil

theorem reset_recordsOf (v : Valve) : State.reset.recordsOf v = [] := rfl

theorem reset_recordsBounded : RecordsBounded State.reset := by
  intro v
  rw [reset_recordsOf]
  exact Nat.zero_le _

theorem reset_sequencesDistinct : SequencesDistinct State.reset := by
  intro v
  rw [reset_recordsOf]
  exact .nil

theorem reset_corrections : CorrectionsHeld State.reset := by
  refine ⟨fun b => ?_, fun g => ?_⟩
  · rw [show State.reset.exm.correction = fill 4 0 from rfl, fill_get]
    decide
  · rw [show State.reset.exm.recovery = fill 2 0 from rfl,
      show State.reset.exm.repeats = fill 2 0 from rfl, fill_get]
    decide

theorem reset_tables : TablesInRange State.reset := by
  refine ⟨⟨by decide, by decide, by decide, by decide, nofun⟩, nofun, nofun, nofun, nofun, nofun⟩

theorem reset_group (g : Group) : State.reset.groups[g] = GroupRecord.reset := by
  rw [show State.reset.groups = fill 2 GroupRecord.reset from rfl, fill_get]

theorem reset_command (g : Group) : commandOf State.reset.olp.order.flags[g] = .none := by
  rw [show State.reset.olp.order.flags = fill 2 ⟨false, false, false⟩ from rfl, fill_get]
  rfl

theorem reset_groupsHeld : GroupsHeld State.reset := by
  intro g
  rw [reset_group]
  exact ⟨fun _ _ => rfl, nofun, ⟨nofun, nofun⟩, ⟨by decide, nofun⟩⟩

theorem reset_groupsFit : GroupsFit State.reset := by
  intro g
  unfold GroupFits
  dsimp only
  rw [reset_group, reset_command]
  refine ⟨fun _ => ⟨nofun, fun r live => absurd live (reset_no_record r)⟩, fun fires => ?_, fun v _ waits => ?_⟩
  · rcases fires with fires | fires <;> cases fires
  · rw [show State.reset.fsc.waiting = fill 24 false from rfl, fill_get] at waits
    cases waits

/-- Settles O9: after reset no record, capture or frame stands, the groups are BLOCKED with no command, and
the tables hold their defaults. -/
theorem resetMeetsTheInvariants : Obligations.ResetMeetsTheInvariants :=
  have none {P : FireRecord → Prop} (r : FireRecord) (live : r ∈ State.reset.fsc.records) : P r :=
    absurd live (reset_no_record r)
  ⟨reset_recordsBounded, reset_sequencesDistinct, none, none,
    ⟨ConverterTable.periodMin_le_nominal _, ConverterTable.nominal_le_periodMax ConverterTable.defaults⟩,
    fun _ => ⟨rfl, rfl⟩,
    reset_corrections, ⟨Nat.zero_le _, reset_windows, reset_levels⟩,
    ⟨Nat.zero_le _, Nat.zero_le _, fun _ => rfl⟩, reset_tables, ⟨⟨nofun, nofun⟩, ⟨nofun, nofun⟩⟩,
    reset_groupsHeld, reset_groupsFit, none⟩

end Sys2Proof.Machine
end

section
/-! PROOFS. A group's event stays at the group: the other group's record stands, and what the Fire Schedule
hands back is for the same group. So a lost lock trips both groups that fire, each by LOCK_LOST alone. -/

namespace Sys2Proof.Machine

/-! ## What an event at a group leaves of the other group -/

/-- From `s` the records of the other groups than `g` stand in `x`, and the notices of `x` are for `g`. -/
structure ActsAt (g : Group) (s : State) (x : State × Notices) : Prop where
  others : ∀ h, h ≠ g → x.1.groups[h] = s.groups[h]
  notices : ∀ e ∈ x.2, e.1 = g

theorem ActsAt.refl (g : Group) (s : State) : ActsAt g s (s, []) := ⟨fun _ _ => rfl, nofun⟩

theorem ActsAt.setGroup (s : State) (g : Group) (r : GroupRecord) :
    ActsAt g s (s.setGroup g r, []) :=
  ⟨fun h other => setAt_get_ne _ g h _ other.symm, nofun⟩

/-- Notices of the second part stand for both. -/
theorem ActsAt.trans {g : Group} {s t : State} {ns : Notices} {x : State × Notices}
    (h : ActsAt g s (t, ns)) (k : ActsAt g t x) : ActsAt g s x :=
  ⟨fun i other => (k.others i other).trans (h.others i other), k.notices⟩

/-- What follows without touching the groups leaves both as they are. -/
theorem ActsAt.then_only {g : Group} {s t : State} {x : State × Notices} {bs : List Block}
    (h : ActsAt g s x) (only : Only bs x.1 t) (apart : Block.groups ∉ bs) : ActsAt g s (t, x.2) :=
  ⟨fun i other => by rw [only.groups apart]; exact h.others i other, h.notices⟩

theorem cancelDecision_actsAt (s : State) (g : Group) : ActsAt g s (cancelDecision s g) :=
  ⟨fun _ _ => by rw [(cancelDecision_only s g).groups (by decide)],
    fun e mem => (cancelDecision_fromRemoval s g e mem).1⟩

theorem releaseDecision_actsAt (s : State) (g : Group) :
    ActsAt g s (releaseDecision s g, []) :=
  (ActsAt.refl g s).then_only (releaseDecision_only s g) (by decide)

/-- Later parts that hand back nothing keep the notices of the first. -/
theorem ActsAt.followed {g : Group} {s t : State} {x : State × Notices} (h : ActsAt g s x)
    (k : ActsAt g x.1 (t, [])) : ActsAt g s (t, x.2) :=
  ⟨fun i other => (k.others i other).trans (h.others i other), h.notices⟩

theorem enterPattern_actsAt (s : State) (g : Group) : ActsAt g s (enterPattern s g) :=
  (ActsAt.trans (.setGroup s g _) (cancelDecision_actsAt (s.choosePairs g) g)).then_only
    (Only.foldl _ bypassRequest_only _ _) (by decide)

theorem enterBypassing_actsAt (s : State) (g : Group) (timed : Bool) :
    ActsAt g s (enterBypassing s g timed) :=
  (ActsAt.setGroup s g _).trans ((ActsAt.setGroup _ g _).trans (enterPattern_actsAt _ g))

theorem checkStopped_actsAt (s : State) (g : Group) : ActsAt g s (checkStopped s g, []) := by
  unfold checkStopped
  split
  · exact .refl g s
  · exact .setGroup s g _

theorem stopDirect_actsAt (s : State) (g : Group) : ActsAt g s (stopDirect s g) :=
  ((ActsAt.setGroup s g _).trans (cancelDecision_actsAt _ g)).followed (checkStopped_actsAt _ g)

theorem stopBypass_actsAt (s : State) (g : Group) : ActsAt g s (stopBypass s g, []) :=
  (ActsAt.setGroup s g _).trans ((ActsAt.setGroup _ g _).trans ((ActsAt.setGroup _ g _).trans
    ((releaseDecision_actsAt _ g).trans (checkStopped_actsAt _ g))))

theorem enterDeblocking_actsAt (s : State) (g : Group) : ActsAt g s (enterDeblocking s g, []) := by
  have left : ActsAt g s (if decide (s.groups[g].state = .bypassing) then
      releaseDecision (((s.setGroupState g .deblocking).setHoldTimer g none).clearPairs g) g
      else s.setGroupState g .deblocking, []) := by
    split
    · exact (ActsAt.setGroup s g _).trans ((ActsAt.setGroup _ g _).trans
        ((ActsAt.setGroup _ g _).trans (releaseDecision_actsAt _ g)))
    · exact .setGroup s g _
  exact left.trans ((ActsAt.setGroup _ g _).then_only (State.setFac_only _ _) (by decide))

theorem trip_actsAt (s : State) (g : Group) (c : TripCause) : ActsAt g s (trip s g c) := by
  have marked : ActsAt g s (markTripped s g c, []) :=
    (ActsAt.setGroup s g _).then_only (State.setFlag_only _ _) (by decide)
  unfold trip
  dsimp only
  split
  · split
    · exact marked
    · exact marked.trans (enterPattern_actsAt _ g)
  · exact (marked.trans ((ActsAt.setGroup _ g _).trans (cancelDecision_actsAt _ g))).followed
      (releaseDecision_actsAt _ g)

theorem tripEvent_actsAt (s : State) (g : Group) (c : TripCause) :
    ActsAt g s (tripEvent s g c) := by
  unfold tripEvent
  dsimp only
  split
  · exact trip_actsAt s g c
  · split
    · exact .setGroup s g _
    · exact .refl g s

theorem outcomeEvent_actsAt (s : State) (g : Group) (v : Valve) (normal : Bool)
    (o : RecordOutcome) : ActsAt g s (outcomeEvent s g v normal o) := by
  unfold outcomeEvent
  split
  · exact .setGroup s g _
  · exact tripEvent_actsAt s g _
  · split
    · exact tripEvent_actsAt s g _
    · exact .refl g s
  · exact .refl g s

theorem resetTripped_actsAt (s : State) (g : Group) : ActsAt g s (resetTripped s g) :=
  ((ActsAt.setGroup s g _).trans (cancelDecision_actsAt _ g)).followed
    ((releaseDecision_actsAt _ g).trans (checkStopped_actsAt _ g))

theorem ownEffect_actsAt (s : State) (g : Group) (e : GroupEvent) :
    ActsAt g s (ownEffect s g e) := by
  unfold ownEffect
  split
  any_goals exact .refl g s
  any_goals exact tripEvent_actsAt s g _
  · exact outcomeEvent_actsAt s g _ _ _
  · split
    · exact .setGroup s g _
    · exact .refl g s
  · split
    · exact stopBypass_actsAt s g
    · exact .refl g s
  · split
    · exact resetTripped_actsAt s g
    · exact .refl g s

theorem applyFlags_actsAt (s : State) (g : Group) : ActsAt g s (applyFlags s g) := by
  unfold applyFlags
  dsimp only
  split
  any_goals exact .refl g s
  any_goals exact enterBypassing_actsAt s g _
  case h_2 | h_9 =>
    split
    · exact enterDeblocking_actsAt s g
    · exact .refl g s
  case h_5 | h_6 =>
    split
    · exact stopDirect_actsAt s g
    · exact enterBypassing_actsAt s g true
  case h_7 => exact .setGroup s g _
  case h_8 =>
    split
    · exact stopBypass_actsAt s g
    · exact .refl g s

theorem handleEvent_actsAt (s : State) (g : Group) (e : GroupEvent) :
    ActsAt g s (handleEvent s g e) := by
  have own := ownEffect_actsAt s g e
  have flags := applyFlags_actsAt (evalInhibits (ownEffect s g e).1 g) g
  have all := (ActsAt.trans (ns := (ownEffect s g e).2) own (.setGroup _ g _)).trans flags
  rw [handleEvent_eq]
  refine ⟨all.others, fun x mem => ?_⟩
  rcases List.mem_append.mp mem with mem | mem
  · exact own.notices x mem
  · exact flags.notices x mem

theorem runEvents_others {g : Group} (fuel : Nat) (ns : Notices) (s : State)
    (own : ∀ e ∈ ns, e.1 = g) (h : Group) (other : h ≠ g) :
    (runEvents fuel ns s).groups[h] = s.groups[h] := by
  induction fuel generalizing ns s with
  | zero => rfl
  | succ fuel ih =>
    cases ns with
    | nil => rfl
    | cons e rest =>
      obtain rfl := own e List.mem_cons_self
      have acts := handleEvent_actsAt s e.1 e.2
      rw [runEvents_cons, ih _ _ (fun x mem => ?_), acts.others h other]
      rcases List.mem_append.mp mem with mem | mem
      · exact own x (List.mem_cons_of_mem _ mem)
      · exact acts.notices x mem

/-- An event at a group, with all that follows from it, leaves the other group. -/
theorem groupEvent_others (s : State) {g h : Group} (e : GroupEvent) (other : h ≠ g) :
    (groupEvent s g e).groups[h] = s.groups[h] :=
  runEvents_others _ _ s (fun x mem => by rw [List.mem_singleton.mp mem]) h other

/-! ## A lost lock (R26, R151, R152) -/

theorem TrippedBy.groupEvent {s : State} {g h : Group} {c : TripCause} (trip : TrippedBy s g c)
    (e : GroupEvent) (other : g ≠ h) : TrippedBy (groupEvent s h e) g c :=
  trip.of_only (groupEvent_only s h e) (groupEvent_others s e other) (by decide)

/-- LOCK_LOST trips a group in DEBLOCKING or RUNNING (Table 9-5). -/
theorem groupEvent_lockLost {s : State} {g : Group}
    (fires : s.groups[g].state = .deblocking ∨ s.groups[g].state = .running) :
    TrippedBy (groupEvent s g (.lockChange true)) g .lockLost := by
  refine groupEvent_trippedBy (tripEvent_of_trips ?_)
  rcases fires with deblocking | running
  · rw [deblocking]; rfl
  · rw [running]; rfl

theorem bothGroups_lockLost {s : State} {g : Group}
    (fires : s.groups[g].state = .deblocking ∨ s.groups[g].state = .running) :
    TrippedBy (bothGroups s (.lockChange true)) g .lockLost := by
  unfold bothGroups
  by_cases first : g = 0
  · subst first
    exact (groupEvent_lockLost fires).groupEvent _ (by decide)
  · have second : g = 1 := Fin.eq_one_of_ne_zero g first
    subst second
    refine groupEvent_lockLost ?_
    rwa [groupEvent_others s _ (by decide)]

end Sys2Proof.Machine
end

section
/-! PROOFS. Edges, the capture watch and the cycle marker at the Phase Reference Unit: what each capture does
to the phase model (O20 to O23), the watch (O24), the marker with its planning instants (O25), and the first
edge after power-up (O17). -/

namespace Sys2Proof.Machine

/-! ## From an edge to a capture (R16 to R18) -/

/-- The state in which a capture at `n` is judged: its line has a new last edge (R16). -/
def edgeNoted (s : State) (n : Time) (line : Line) : State :=
  (s.at n).setPru { s.pru with lastEdge := setAt s.pru.lastEdge (lineIndex line) (some n) }

theorem heldOff_of_early {s : State} {line : Line} {n l : Time}
    (last : s.pru.lastEdge[lineIndex line] = some l)
    (early : ((n - l).toNat : Int) < angleToTb s.tbs.converter.edgeHoldoff s.pru.period) :
    heldOff s line n = true := by
  simp only [heldOff, last, early, decide_true]

theorem heldOff_of_clear {s : State} {line : Line} {n : Time}
    (clear : ∀ l, s.pru.lastEdge[lineIndex line] = some l →
      angleToTb s.tbs.converter.edgeHoldoff s.pru.period ≤ ((n - l).toNat : Int)) :
    heldOff s line n = false := by
  unfold heldOff
  split
  · rfl
  · next l last => exact decide_eq_false (not_lt.mpr (clear l last))

theorem exec_edge_of_held {s : State} {n : Time} {line : Line} (rising : Bool)
    (held : heldOff s line n = true) :
    exec (.comparatorEdge n line rising) s = .next (s.at n).countGlitch := by
  have held : heldOff (s.at n) line (s.at n).now = true := held
  show Host.Outcome.next (takeEdge (s.at n) line rising) = _
  rw [takeEdge, if_pos held]

/-- An edge outside the holdoff of its line is a capture (R16). -/
theorem exec_edge_of_clear {s : State} {n : Time} {line : Line} (rising : Bool)
    (clear : ∀ l, s.pru.lastEdge[lineIndex line] = some l →
      angleToTb s.tbs.converter.edgeHoldoff s.pru.period ≤ ((n - l).toNat : Int)) :
    exec (.comparatorEdge n line rising) s =
      .next (capture (edgeNoted s n line) (edgeIndex line rising) n) := by
  have clear : ¬ heldOff (s.at n) line (s.at n).now = true := by
    rw [show heldOff (s.at n) line (s.at n).now = false from heldOff_of_clear clear]
    exact Bool.false_ne_true
  show Host.Outcome.next (takeEdge (s.at n) line rising) = _
  rw [takeEdge, if_neg clear]
  rfl

theorem capture_of_unlocked {s : State} (j : Nat) (t : Time) (unlocked : s.pru.lock = .unlocked) :
    capture s j t = initialCapture s j t := if_pos unlocked

theorem capture_of_rejected {s : State} {j : Nat} {t : Time} (live : s.pru.lock ≠ .unlocked)
    (outside : angleToTb s.tbs.converter.captureWindow s.pru.period <
      ((phaseError s.pru j t).natAbs : Int)) :
    capture s j t = rejectedCapture s j t (phaseError s.pru j t) := by
  unfold capture
  rw [if_neg live]
  exact if_pos outside

theorem capture_of_accepted {s : State} {j : Nat} {t : Time} (live : s.pru.lock ≠ .unlocked)
    (inside : ((phaseError s.pru j t).natAbs : Int) ≤
      angleToTb s.tbs.converter.captureWindow s.pru.period) :
    capture s j t = acceptedCapture s j t (phaseError s.pru j t) := by
  unfold capture
  rw [if_neg live]
  exact if_neg (not_lt.mpr inside)

/-- Settles O20. -/
theorem edgesThatLeaveTheModel : Obligations.EdgesThatLeaveTheModel := by
  intro s n line rising
  refine ⟨fun l last early => exec_edge_of_held rising (heldOff_of_early last early),
    fun clear lock outside => ?_⟩
  have live : s.pru.lock ≠ .unlocked := by
    rcases lock with lock | lock <;> rw [lock] <;> nofun
  have settled : s.pru.lock ≠ .acquiring := by
    rcases lock with lock | lock <;> rw [lock] <;> nofun
  rw [exec_edge_of_clear rising clear, capture_of_rejected (s := edgeNoted s n line) live outside,
    rejectedCapture]
  exact congrArg _ (if_neg settled)

/-! ## A marker armed ahead (R6, R7) -/

theorem addTb_addTb (t : Time) (a b : Int) : addTb (addTb t a) b = addTb t (a + b) := by
  rw [addTb, addTb, addTb, BitVec.ofInt_add, BitVec.add_assoc]

/-- Whether a time has passed depends on its distance alone. -/
theorem passed_addTb (n : Time) (d : Int) : passed n (addTb n d) = passed 0#32 (addTb 0#32 d) := by
  have distance : n - addTb n d = 0#32 - addTb 0#32 d := by
    simp only [addTb]
    exact (sub_add_cancel_left n _).trans (by simp)
  rw [Bool.eq_iff_iff, passed_iff, passed_iff, distance]

/-- The first marker of an acquisition lies ahead: an edge is less than one period behind the origin made from
it (R17, R21). -/
theorem initialMarker_ahead (ct : ConverterTable) (n : Time) (line : Line) (rising : Bool) :
    passed n (addTb (addTb n (-(angleToTb (edgeIndex line rising * 6000 : Nat) ct.periodNominal)))
      ct.periodNominal) = false := by
  have every : ∀ (x : Bool) (j : Fin 6), let p := if x then 800000 else 666667
      passed 0#32 (addTb 0#32 (-(angleToTb (j.val * 6000 : Nat) p) + p)) = false := by decide
  have edge : edgeIndex line rising < 6 := by cases line <;> cases rising <;> decide
  have nominal : ct.periodNominal = if ct.nominal = .hz50 then 800000 else 666667 := by
    unfold ConverterTable.periodNominal
    cases ct.nominal <;> rfl
  rw [addTb_addTb, passed_addTb, nominal]
  simpa using every (decide (ct.nominal = .hz50)) ⟨_, edge⟩

/-- A marker armed ahead is not taken (R7). -/
theorem rearmMarker_of_ahead {s : State}
    (ahead : passed s.now (addTb s.pru.origin s.pru.period) = false) :
    rearmMarker s = armMarker s :=
  runMarkers_of_waiting _ ahead

/-! ## Changes of the lock state (R26, R27) -/

/-- A changed lock state sets LOCK_CHANGE. -/
theorem setLock_flag {s : State} {x : LockState} (lost : Bool) (change : s.pru.lock ≠ x) :
    (setLock s x lost).hasFlag .lockChange = true := by
  rw [setLock, if_neg change]
  exact (bothGroups_only _ _).clear (by decide) _ (setAt_get _ _ _)

/-- What stands of `s` in `t` beside the Phase Reference Unit and what the groups are handed (R142). -/
def OthersStand (s t : State) : Prop :=
  t.rgm = s.rgm ∧ t.exm = s.exm ∧ t.lvm = s.lvm ∧ t.tbs = s.tbs ∧ t.pending = s.pending ∧
    t.olp = { s.olp with sticky := t.olp.sticky }

theorem Only.othersStand {s t : State} (only : Only lockBlocks s t) : OthersStand s t :=
  ⟨only.rgm (by decide), only.exm (by decide), only.lvm (by decide), only.tbs (by decide),
    only.pending (by decide), only.olp_but_sticky (by decide) (by decide) (by decide)⟩

/-- The phase model is written, the lock state changes and the marker is armed ahead (R21, R22, R25). -/
theorem rearm_setLock {s : State} {p : Pru} {x : LockState} (change : p.lock ≠ x)
    (ahead : passed s.now (addTb p.origin p.period) = false) :
    let t := rearmMarker (setLock (s.setPru p) x false)
    t.pru = { p with lock := x, marker := some (addTb p.origin p.period) } ∧
      t.hasFlag .lockChange = true ∧ Only lockBlocks s t := by
  have only := setLock_only (s.setPru p) x false
  have armed : rearmMarker (setLock (s.setPru p) x false) = armMarker (setLock (s.setPru p) x false) := by
    refine rearmMarker_of_ahead ?_
    rw [setLock_pru, only.now (by decide)]
    exact ahead
  rw [armed]
  refine ⟨?_, setLock_flag (s := s.setPru p) false change,
    Only.trans (.of (s.setPru_only p) rfl) (only.trans (.of (State.setPru_only _ _) rfl))⟩
  rw [armMarker, setLock_pru]
  rfl

/-- Entry to UNLOCKED by the unit's own rules (R26): its values are cleared, LOCK_CHANGE is set, and a group
that fires is tripped by LOCK_LOST. -/
theorem loseLock_spec {s : State} (live : s.pru.lock ≠ .unlocked) :
    (loseLock s).pru = { clearLock s.pru with lock := .unlocked } ∧
      (loseLock s).hasFlag .lockChange = true ∧
      ∀ g : Group, s.groups[g].state = .deblocking ∨ s.groups[g].state = .running →
        TrippedBy (loseLock s) g .lockLost := by
  have live : (s.setPru (clearLock s.pru)).pru.lock ≠ .unlocked := live
  refine ⟨loseLock_pru s, setLock_flag true live, fun g fires => ?_⟩
  rw [loseLock, setLock, if_neg live]
  exact bothGroups_lockLost fires

/-! ## The first capture (R21) -/

/-- Settles O21. -/
theorem firstCaptureStartsAcquisition : Obligations.FirstCaptureStartsAcquisition := by
  intro s n line rising unlocked clear ct j origin
  let p := armWatch n (addHistory ⟨j, n, 0, .initial⟩
    (setCounts 0 0 (initialModel ct j n (edgeNoted s n line).pru)))
  have change : p.lock ≠ .acquiring := ne_of_eq_of_ne unlocked nofun
  obtain ⟨pru, flag, only⟩ := rearm_setLock (s := edgeNoted s n line) change
    (initialMarker_ahead ct n line rising)
  obtain ⟨rgm, exm, lvm, tbs, pending, olp⟩ := only.othersStand
  rw [exec_edge_of_clear rising clear, capture_of_unlocked (s := edgeNoted s n line) _ _ unlocked]
  exact ⟨_, rfl, pru, flag, rgm, exm, lvm, tbs, pending, olp⟩

/-- Settles O17: no line has an edge after power-up, so the first one starts acquisition (O21). -/
theorem powerUpAtThePhaseReference : Obligations.PowerUpAtThePhaseReference := by
  intro s
  refine ⟨_, rfl, rfl, rfl, rfl, rfl, rfl, rfl, fun i => fill_get _ i, rfl, rfl, rfl, rfl, rfl,
    fun n line rising => ?_⟩
  obtain ⟨u, run, pru, _⟩ := firstCaptureStartsAcquisition { State.reset with pending := s.pending }
    n line rising rfl fun l last => nomatch last.symm.trans (fill_get none (lineIndex line))
  refine ⟨u, run, ?_⟩
  have half : angleToTb 18000 800000 = 400000 := by decide
  rw [pru]
  exact ⟨rfl, rfl, rfl, rfl, rfl, rfl, rfl, congrArg (fun d => some (addTb n d)) half, rfl⟩

/-! ## Accepted captures (R18, R19, R22 to R25) -/

/-- The unit's own values once an accepted capture has moved the model by the gains `kp` and `ki` and the watch
is armed, before the lock state and the marker (R19, R20, R23). -/
def movedPru (ct : ConverterTable) (p : Pru) (j : Nat) (n : Time) (e : Int) (kp ki : Nat) : Pru :=
  let period := clampPeriod ct (p.period + roundDiv (e * ki) 4096)
  { p with
    origin := addTb p.origin (roundDiv (e * kp) 256)
    period := period
    watch := some (timeAt n 18000 period)
    history := pushLast 12 p.history ⟨j, n, e, .accepted⟩ }

/-- The state in which an accepted capture meets the lock state. -/
def edgeMoved (s : State) (n : Time) (line : Line) (j : Nat) (e : Int) (kp ki : Nat) : State :=
  (s.at n).setPru (movedPru s.tbs.converter (edgeNoted s n line).pru j n e kp ki)

/-- A capture inside the capture window moves the model by the gains of the lock state; what it does to the
lock state depends on the lock window, and last the marker is armed (log entry 6). -/
theorem exec_edge_of_accepted {s : State} {n : Time} {line : Line} {rising : Bool} {kp ki : Nat}
    {e : Int} (clear : ∀ l, s.pru.lastEdge[lineIndex line] = some l →
      angleToTb s.tbs.converter.edgeHoldoff s.pru.period ≤ ((n - l).toNat : Int))
    (live : s.pru.lock ≠ .unlocked) (proportional : gainP s.tbs.converter s.pru.lock = kp)
    (integral : gainI s.tbs.converter s.pru.lock = ki)
    (error : phaseError s.pru (edgeIndex line rising) n = e)
    (captured : (e.natAbs : Int) ≤ angleToTb s.tbs.converter.captureWindow s.pru.period) :
    exec (.comparatorEdge n line rising) s =
      .next (rearmMarker (acceptedLock (edgeMoved s n line (edgeIndex line rising) e kp ki)
        (decide ((e.natAbs : Int) ≤ angleToTb s.tbs.converter.lockWindow s.pru.period)))) := by
  subst proportional integral error
  rw [exec_edge_of_clear rising clear, capture_of_accepted (s := edgeNoted s n line) live captured]
  rfl

theorem acceptedLock_of_locked {s : State} (inside : Bool) (lock : s.pru.lock = .locked) :
    acceptedLock s inside = s := by
  simp only [acceptedLock, lock]

theorem acceptedLock_of_holdover {s : State} (inside : Bool) (lock : s.pru.lock = .holdover) :
    acceptedLock s inside = if inside then setLock s .locked false
      else setLock (s.setPru (setCounts 0 0 s.pru)) .acquiring false := by
  cases inside <;> simp [acceptedLock, lock]

theorem acceptedLock_of_acquiring {s : State} (inside : Bool) (lock : s.pru.lock = .acquiring) :
    acceptedLock s inside = if inside then acceptAcquiring s
      else s.setPru (setCounts 0 0 s.pru) := by
  cases inside <;> simp [acceptedLock, lock]

/-- Settles O22. -/
theorem acceptedCaptureUpdatesTheModel : Obligations.AcceptedCaptureUpdatesTheModel := by
  intro s n line rising clear ct j e origin period updated captured ahead
  let moved := edgeMoved s n line j e ct.kp ct.ki
  let inside := (e.natAbs : Int) ≤ angleToTb ct.lockWindow s.pru.period
  refine ⟨fun locked => ?locked, fun holdover => ?holdover⟩
  case locked =>
    have run : exec (.comparatorEdge n line rising) s = .next (rearmMarker (acceptedLock moved inside)) :=
      exec_edge_of_accepted clear (ne_of_eq_of_ne locked nofun) (by rw [locked]; rfl) (by rw [locked]; rfl) rfl
        captured
    rw [run, acceptedLock_of_locked (s := moved) _ locked, rearmMarker_of_ahead (s := moved) ahead]
    rfl
  case holdover =>
    have run : exec (.comparatorEdge n line rising) s = .next (rearmMarker (acceptedLock moved inside)) :=
      exec_edge_of_accepted clear (ne_of_eq_of_ne holdover nofun) (by rw [holdover]; rfl)
        (by rw [holdover]; rfl) rfl captured
    rw [acceptedLock_of_holdover (s := moved) _ holdover] at run
    refine ⟨_, run, ?_⟩
    by_cases within : inside
    · obtain ⟨pru, flag, only⟩ := rearm_setLock (s := s.at n) (p := moved.pru) (x := .locked)
        (ne_of_eq_of_ne holdover nofun) ahead
      obtain ⟨rgm, exm, lvm, tbs, pending, olp⟩ := only.othersStand
      rw [if_pos (decide_eq_true within)]
      exact ⟨fun _ => pru, fun outside => absurd within (not_le.mpr outside), flag, rgm, exm, lvm, tbs,
        pending, olp⟩
    · obtain ⟨pru, flag, only⟩ := rearm_setLock (s := s.at n) (p := setCounts 0 0 moved.pru)
        (x := .acquiring) (ne_of_eq_of_ne holdover nofun) ahead
      obtain ⟨rgm, exm, lvm, tbs, pending, olp⟩ := only.othersStand
      rw [decide_eq_false within, if_neg Bool.false_ne_true]
      exact ⟨fun inside => absurd inside within, fun _ => pru, flag, rgm, exm, lvm, tbs, pending, olp⟩

/-! ## Captures in ACQUIRING (R22) -/

theorem acceptAcquiring_below {s : State} (below : s.pru.acquisition < 11) :
    acceptAcquiring s = s.setPru (setCounts (s.pru.acquisition + 1) 0 s.pru) :=
  if_neg (not_le.mpr (Nat.succ_lt_succ below))

theorem acceptAcquiring_twelfth {s : State} (last : s.pru.acquisition = 11) :
    acceptAcquiring s = setLock (s.setPru (setCounts 12 0 s.pru)) .locked false := by
  unfold acceptAcquiring
  rw [last]
  rfl

theorem rejectAcquiring_below {s : State} (below : s.pru.rejectRun < 5) :
    rejectAcquiring s = s.setPru (setCounts 0 (s.pru.rejectRun + 1) s.pru) :=
  if_neg (not_le.mpr (Nat.succ_lt_succ below))

theorem rejectAcquiring_sixth {s : State} (last : s.pru.rejectRun = 5) :
    rejectAcquiring s = loseLock (s.setPru (setCounts 0 6 s.pru)) := by
  unfold rejectAcquiring
  rw [last]
  rfl

/-- A rejected capture in ACQUIRING is recorded and counted, and enters the reject run (R20, R22). -/
theorem rejectedCapture_of_acquiring {s : State} (j : Nat) (t : Time) (e : Int)
    (lock : s.pru.lock = .acquiring) : rejectedCapture s j t e =
      rejectAcquiring (s.setPru (addHistory ⟨j, t, e, .rejected⟩ s.pru)).countGlitch :=
  if_pos lock

/-- Settles O23: the counts decide what an accepted or rejected capture does to the lock state. -/
theorem acquiringCountsCaptures : Obligations.AcquiringCountsCaptures := by
  intro s n line rising acquiring clear ct j e origin period seen updated captured inside
  have live : s.pru.lock ≠ .unlocked := ne_of_eq_of_ne acquiring nofun
  refine ⟨fun close ahead => ?accepted, fun far => ?rejected⟩
  case accepted =>
    let moved := edgeMoved s n line j e (min (4 * ct.kp) 256) (4 * ct.ki)
    have run : exec (.comparatorEdge n line rising) s = .next (rearmMarker (acceptedLock moved inside)) :=
      exec_edge_of_accepted clear live (by rw [acquiring]; rfl) (by rw [acquiring]; rfl) rfl close
    have counted (a : Nat) : rearmMarker (moved.setPru (setCounts a 0 moved.pru)) =
        armMarker (moved.setPru (setCounts a 0 moved.pru)) := rearmMarker_of_ahead ahead
    rw [run, acceptedLock_of_acquiring (s := moved) _ acquiring]
    refine ⟨fun within below => ?_, fun outside => ?_, fun within last => ?_⟩
    · rw [if_pos (decide_eq_true within), acceptAcquiring_below (s := moved) below, counted]
      rfl
    · rw [decide_eq_false outside, if_neg Bool.false_ne_true, counted]
      rfl
    · rw [if_pos (decide_eq_true within), acceptAcquiring_twelfth (s := moved) last]
      obtain ⟨pru, flag, _⟩ := rearm_setLock (s := moved) (p := setCounts 12 0 moved.pru)
        (x := .locked) (ne_of_eq_of_ne acquiring nofun) ahead
      exact ⟨_, rfl, pru, flag⟩
  case rejected =>
    let counted := ((edgeNoted s n line).setPru
      (addHistory ⟨j, n, e, .rejected⟩ (edgeNoted s n line).pru)).countGlitch
    have run : exec (.comparatorEdge n line rising) s = .next (rejectAcquiring counted) := by
      rw [exec_edge_of_clear rising clear,
        capture_of_rejected (s := edgeNoted s n line) live (not_le.mp far),
        rejectedCapture_of_acquiring (s := edgeNoted s n line) _ _ _ acquiring]
      rfl
    refine ⟨fun below => ?_, fun last => ?_⟩
    · rw [run, rejectAcquiring_below (s := counted) below]
      rfl
    · obtain ⟨pru, flag, trips⟩ :=
        loseLock_spec (s := counted.setPru (setCounts 0 6 counted.pru)) live
      rw [run, rejectAcquiring_sixth (s := counted) last]
      exact ⟨_, rfl, pru, flag, trips⟩

/-! ## The capture watch (R23) -/

/-- An armed instant that is reached is taken (R7). -/
theorem takeIf_of_reached {instant : State → Option Time} (event : State → State) {n i : Time}
    {s : State} (armed : instant (s.at n) = some i) (reached : passed n i = true) :
    takeIf instant event n s = event (s.at n) := by
  have due : (s.at n).reached (instant (s.at n)) = true := by
    rw [armed]
    exact reached
  unfold takeIf
  dsimp only
  rw [if_pos due]

theorem watchEvent_of_locked {s : State} (lock : s.pru.lock = .locked) : watchEvent s =
    setLock (s.setPru { s.pru with watch := none, holdover := 0 }) .holdover false := by
  simp only [watchEvent, State.setPru_pru, lock]
  rfl

theorem watchEvent_of_acquiring {s : State} (lock : s.pru.lock = .acquiring) : watchEvent s =
    loseLock (s.setPru { s.pru with watch := none }) := by
  simp only [watchEvent, State.setPru_pru, lock]

/-- Settles O24. -/
theorem captureWatchExpires : Obligations.CaptureWatchExpires := by
  intro s n i armed reached
  have run : exec (.captureWatch n) s = .next (watchEvent (s.at n)) :=
    congrArg Host.Outcome.next (takeIf_of_reached watchEvent armed reached)
  obtain ⟨rgm, exm, lvm, tbs, _, olp⟩ := (watchEvent_only (s.at n)).othersStand
  refine ⟨fun locked => ⟨_, run, ?_, ?_, rgm, exm, lvm, tbs, olp⟩,
    fun acquiring => ⟨_, run, ?_⟩⟩
  · rw [watchEvent_of_locked (s := s.at n) locked, setLock_pru]
    rfl
  · rw [watchEvent_of_locked (s := s.at n) locked]
    exact setLock_flag false (ne_of_eq_of_ne locked nofun)
  · let off := (s.at n).setPru { (s.at n).pru with watch := none }
    have lost : watchEvent (s.at n) = loseLock off := watchEvent_of_acquiring acquiring
    obtain ⟨pru, flag, trips⟩ := loseLock_spec (s := off) (ne_of_eq_of_ne acquiring nofun)
    rw [← lost] at pru flag trips
    exact ⟨pru, flag, trips, rgm, exm, lvm, tbs, olp⟩

/-! ## Cycle markers (R28, R34) -/

/-- Taking the planning instant of a valve leaves the others. -/
theorem takePlanning_others (s : State) {v w : Valve} (other : w ≠ v) :
    (takePlanning s w).fac.plannings[v] = s.fac.plannings[v] := by
  unfold takePlanning
  split
  · rfl
  · rw [(planningEvent_only _ _ _).plan (by decide), State.setPlanning_fac_plannings,
      setAt_get_ne _ _ _ _ other]

theorem foldl_takePlanning_others (ws : List Valve) (s : State) {v : Valve} (out : v ∉ ws) :
    (ws.foldl takePlanning s).fac.plannings[v] = s.fac.plannings[v] := by
  induction ws generalizing s with
  | nil => rfl
  | cons w ws ih =>
    obtain ⟨head, tail⟩ := not_or.mp (mt List.mem_cons.mpr out)
    exact (ih _ tail).trans (takePlanning_others s (Ne.symm head))

/-- A planning instant of the new cycle that lies ahead is not taken at arming (R34). -/
theorem armPlannings_ahead (s : State) (t0 : Time) (p : Nat) {v : Valve}
    (ahead : passed s.now (planningOf s.tbs.converter t0 p v).time = false) :
    (armPlannings s t0 p).fac.plannings[v] = some (planningOf s.tbs.converter t0 p v) := by
  have old := takePlannings_only s fun _ => true
  have armed : (setPlannings (takePlannings s fun _ => true) t0 p).fac.plannings[v] =
      some (planningOf s.tbs.converter t0 p v) := by
    rw [← old.tbs (by decide)]
    exact ofFn_get _ v
  unfold armPlannings takePlannings
  refine (foldl_takePlanning_others _ _ fun taken => ?_).trans armed
  obtain ⟨q, same, due⟩ := (mem_planningOrder _ _ _).mp taken
  obtain rfl := Option.some.inj (same.symm.trans armed)
  exact Bool.false_ne_true (ahead.symm.trans due)

theorem exec_cycleMarker {s : State} {n i : Time} (armed : s.pru.marker = some i)
    (reached : passed n i = true)
    (wait : (markerEvent (s.at n)).reached (markerEvent (s.at n)).pru.marker = false) :
    exec (.cycleMarker n) s = .next (markerEvent (s.at n)) := by
  have due : (s.at n).reached (s.at n).pru.marker = true := by
    rw [State.at_pru, armed]
    exact reached
  show Host.Outcome.next (runMarkers (4095 + 1) (s.at n)) = _
  rw [runMarkers, if_pos due, runMarkers_of_waiting _ wait]

theorem markerEvent_of_kept {s : State}
    (kept : holdoverSpent s.tbs.converter (stepOrigin s.pru) = false) :
    markerEvent s = armMarker (armPlannings (s.setPru (stepOrigin s.pru))
      (addTb s.pru.origin s.pru.period) s.pru.period) := by
  rw [markerEvent_eq, kept, if_neg Bool.false_ne_true]
  rfl

theorem markerEvent_plannings {s : State} {v : Valve}
    (kept : holdoverSpent s.tbs.converter (stepOrigin s.pru) = false)
    (ahead : passed s.now (planningOf s.tbs.converter (addTb s.pru.origin s.pru.period)
      s.pru.period v).time = false) :
    (markerEvent s).fac.plannings[v] =
      some (planningOf s.tbs.converter (addTb s.pru.origin s.pru.period) s.pru.period v) := by
  rw [markerEvent_of_kept kept, armMarker, State.setPru_fac]
  exact armPlannings_ahead (s.setPru (stepOrigin s.pru)) _ _ ahead

/-- A marker short of the holdover limit steps the origin, and is armed again one period later with the
planning instants of the new cycle (R28, R34). -/
theorem cycleMarker_steps {s : State} {n i : Time} (armed : s.pru.marker = some i)
    (reached : passed n i = true)
    (kept : holdoverSpent s.tbs.converter (stepOrigin s.pru) = false)
    (ahead : passed n (addTb (addTb s.pru.origin s.pru.period) s.pru.period) = false) :
    let origin := addTb s.pru.origin s.pru.period
    ∃ t, exec (.cycleMarker n) s = .next t ∧
      t.pru = { stepOrigin s.pru with marker := some (addTb origin s.pru.period) } ∧
      ∀ v : Valve, passed n (planningOf s.tbs.converter origin s.pru.period v).time = false →
        t.fac.plannings[v] = some (planningOf s.tbs.converter origin s.pru.period v) := by
  intro origin
  have pru : (markerEvent (s.at n)).pru =
      { stepOrigin s.pru with marker := some (addTb origin s.pru.period) } := by
    rw [markerEvent_pru, markedPru]
    exact if_neg (ne_of_eq_of_ne kept Bool.false_ne_true)
  have now : (markerEvent (s.at n)).now = n := (markerEvent_only (s.at n)).now (by decide)
  refine ⟨_, exec_cycleMarker armed reached ?_, pru, fun v later => ?_⟩
  · rw [pru, State.reached, now]
    exact ahead
  · exact markerEvent_plannings (s := s.at n) kept later

/-- A marker at the holdover limit ends HOLDOVER in UNLOCKED (R25, R28). -/
theorem cycleMarker_spent {s : State} {n i : Time} (armed : s.pru.marker = some i)
    (reached : passed n i = true)
    (spent : holdoverSpent s.tbs.converter (stepOrigin s.pru) = true) :
    exec (.cycleMarker n) s = .next (loseLock ((s.at n).setPru (stepOrigin s.pru))) := by
  have event : markerEvent (s.at n) = loseLock ((s.at n).setPru (stepOrigin s.pru)) :=
    (markerEvent_eq (s.at n)).trans (if_pos spent)
  rw [exec_cycleMarker armed reached ?_, event]
  rw [event, loseLock_pru]
  rfl

/-- Settles O25: the three markers are the two above, the first of them with and without HOLDOVER. -/
theorem cycleMarkerStepsTheOrigin : Obligations.CycleMarkerStepsTheOrigin := by
  intro s n i armed reached ct origin
  have next (lock : s.pru.lock = .holdover) : (stepOrigin s.pru).holdover = s.pru.holdover + 1 :=
    if_pos lock
  refine ⟨fun lock ahead => ?_, fun lock below ahead => ?_, fun lock limit => ?_⟩
  · have kept : holdoverSpent ct (stepOrigin s.pru) = false := by
      rw [holdoverSpent, decide_eq_false (p := (stepOrigin s.pru).lock = _) lock, Bool.false_and]
    have count : (stepOrigin s.pru).holdover = s.pru.holdover := if_neg lock
    obtain ⟨t, run, pru, plans⟩ := cycleMarker_steps armed reached kept ahead
    refine ⟨t, run, pru.trans ?_, plans⟩
    dsimp only
    rw [count]
    rfl
  · have kept : holdoverSpent ct (stepOrigin s.pru) = false := by
      rw [holdoverSpent, next lock, decide_eq_false (not_le.mpr below), Bool.and_false]
    obtain ⟨t, run, pru, plans⟩ := cycleMarker_steps armed reached kept ahead
    refine ⟨t, run, pru.trans ?_, plans⟩
    dsimp only
    rw [next lock]
    rfl
  · have spent : holdoverSpent ct (stepOrigin s.pru) = true := by
      rw [holdoverSpent, next lock, decide_eq_true limit, Bool.and_true]
      exact decide_eq_true lock
    obtain ⟨pru, flag, trips⟩ := loseLock_spec (s := (s.at n).setPru (stepOrigin s.pru))
      (ne_of_eq_of_ne lock nofun)
    exact ⟨_, cycleMarker_spent armed reached spent, pru, (loseLock_only _).plan (by decide), flag, trips⟩

end Sys2Proof.Machine
end

section
/-! PROOFS. The warm restart (O50): groups that are not ready leave the Firing Angle Calculator, BLOCKED groups
without a BYPASS order leave the Fire Schedule too, and a ring restart ends in the Ring Master's restart values. -/

namespace Sys2Proof.Machine

/-! ## Groups that are not ready to deblock (R144, R145) -/

/-- The deblock conditions speak of no group. -/
theorem inhibitSet_setGroup (s : State) (g h : Group) (r : GroupRecord) :
    inhibitSet (s.setGroup g r) h = inhibitSet s h := rfl

/-- Out of LOCKED the cause PHASE_NOT_LOCKED stands (Table 9-4). -/
theorem inhibitSet_any {s : State} (g : Group) (lock : s.pru.lock ≠ .locked) :
    BoolSet.any (inhibitSet s g) = true := by
  have phase : (inhibitSet s g)[(0 : Fin 6)] = true := by
    rw [inhibitSet, ofFn_get]
    exact decide_eq_true lock
  exact List.any_eq_true.mpr ⟨_, Vector.mem_toList_iff.mpr (Vector.getElem_mem (i := 0) (by decide)), phase⟩

theorem evalInhibits_any {s : State} (g : Group) (lock : s.pru.lock ≠ .locked) :
    BoolSet.any (evalInhibits s g).groups[g].inhibits = true := by
  rw [evalInhibits, State.setGroup_groups, setAt_get]
  exact inhibitSet_any g lock

/-- With an inhibit cause standing no group enters DEBLOCKING, so the calculator is told nothing (R145). -/
theorem applyFlags_inhibited {s : State} {g : Group}
    (inhibited : BoolSet.any s.groups[g].inhibits = true) :
    Only [.fsc, .groups] s (applyFlags s g).1 := by
  unfold applyFlags
  dsimp only
  rw [inhibited]
  split
  any_goals exact .refl _ _
  any_goals exact enterBypassing_only s g _
  case h_5 | h_6 =>
    split
    · exact stopDirect_only s g
    · exact enterBypassing_only s g true
  case h_7 => exact (s.setGroup_only g _).of rfl
  case h_8 =>
    split
    · exact stopBypass_only s g
    · exact .refl _ _

/-- What an event at a group can touch while the lock state is not LOCKED. -/
abbrev unreadyBlocks : List Block := [.fsc, .groups, .sticky]

theorem handleEvent_unready {s : State} (g : Group) (e : GroupEvent) (lock : s.pru.lock ≠ .locked) :
    Only unreadyBlocks s (handleEvent s g e).1 := by
  have own := ownEffect_only s g e
  have lock : (ownEffect s g e).1.pru.lock ≠ .locked := by rwa [own.pru (by decide)]
  exact own.trans (Only.trans (.of (State.setGroup_only _ g _) rfl)
    (.of (applyFlags_inhibited (evalInhibits_any g lock)) rfl))

theorem runEvents_unready (fuel : Nat) (ns : Notices) {s : State} (lock : s.pru.lock ≠ .locked) :
    Only unreadyBlocks s (runEvents fuel ns s) := by
  induction fuel generalizing ns s with
  | zero => exact .refl _ _
  | succ fuel ih =>
    cases ns with
    | nil => exact .refl _ _
    | cons e rest =>
      have first := handleEvent_unready e.1 e.2 lock
      rw [runEvents_cons]
      exact first.trans (ih _ (by rwa [first.pru (by decide)]))

theorem bothGroups_unready {s : State} (e : GroupEvent) (lock : s.pru.lock ≠ .locked) :
    Only unreadyBlocks s (bothGroups s e) := by
  have first : Only unreadyBlocks s (groupEvent s 0 e) := runEvents_unready _ _ lock
  exact first.trans (runEvents_unready _ _ (by rwa [first.pru (by decide)]))

/-! ## BLOCKED groups without a BYPASS order (R143, R150) -/

/-- Both groups are BLOCKED and stay so: no BYPASS is in force, and the lock state is not LOCKED. -/
structure Quiet (s : State) : Prop where
  blocked : ∀ g : Group, s.groups[g].state = .blocked
  unbypassed : ∀ g : Group, commandOf s.olp.order.flags[g] ≠ .bypass
  unlocked : s.pru.lock ≠ .locked

/-- A quiet state is followed by a quiet one with the same Fire Schedule. -/
def StaysQuiet (s t : State) : Prop := Quiet s → Quiet t ∧ t.fsc = s.fsc

theorem StaysQuiet.refl (s : State) : StaysQuiet s s := fun quiet => ⟨quiet, rfl⟩

theorem StaysQuiet.trans {a b c : State} (h : StaysQuiet a b) (k : StaysQuiet b c) :
    StaysQuiet a c := fun quiet =>
  have ⟨mid, fsc⟩ := h quiet
  have ⟨last, fsc'⟩ := k mid
  ⟨last, fsc'.trans fsc⟩

theorem StaysQuiet.foldl {α : Type} (f : State → α → State) (h : ∀ s x, StaysQuiet s (f s x))
    (xs : List α) (s : State) : StaysQuiet s (xs.foldl f s) := by
  induction xs generalizing s with
  | nil => exact .refl s
  | cons x xs ih => exact (h s x).trans (ih _)

theorem applyFlags_of_quiet {s : State} {g : Group} (blocked : s.groups[g].state = .blocked)
    (unbypassed : commandOf s.olp.order.flags[g] ≠ .bypass)
    (inhibited : BoolSet.any s.groups[g].inhibits = true) : applyFlags s g = (s, []) := by
  unfold applyFlags
  dsimp only
  rw [inhibited, blocked]
  cases command : commandOf s.olp.order.flags[g] with
  | bypass => exact absurd command unbypassed
  | none | deblock | block => rfl

/-- The events a restart hands over have no effect of their own on a BLOCKED group (R149, R151). -/
def Passive (e : GroupEvent) : Prop :=
  e = .lockChange false ∨ e = .ringStatus ∨ e = .stationFault

theorem ownEffect_of_passive {s : State} {g : Group} {e : GroupEvent} (passive : Passive e)
    (blocked : s.groups[g].state = .blocked) : ownEffect s g e = (s, []) := by
  rcases passive with rfl | rfl | rfl
  · rfl
  · rfl
  · have untripped : trips .stationFault s.groups[g].state = false := by rw [blocked]; rfl
    rw [ownEffect, tripEvent, untripped, blocked]
    rfl

theorem groupEvent_of_quiet {s : State} (g : Group) {e : GroupEvent} (passive : Passive e)
    (quiet : Quiet s) : groupEvent s g e = evalInhibits s g := by
  have flags : applyFlags (evalInhibits s g) g = (evalInhibits s g, []) :=
    applyFlags_of_quiet ((evalInhibits_state s g).trans (quiet.blocked g)) (quiet.unbypassed g)
      (evalInhibits_any g quiet.unlocked)
  have handled : handleEvent s g e = (evalInhibits s g, []) := by
    rw [handleEvent_eq, ownEffect_of_passive passive (quiet.blocked g), flags, List.append_nil]
  rw [groupEvent, Nat.add_comm, runEvents_cons, handled]
  cases 2 * s.fsc.records.length <;> rfl

theorem groupEvent_staysQuiet (s : State) (g : Group) {e : GroupEvent} (passive : Passive e) :
    StaysQuiet s (groupEvent s g e) := by
  intro quiet
  rw [groupEvent_of_quiet g passive quiet]
  refine ⟨⟨fun h => ?_, quiet.unbypassed, quiet.unlocked⟩, rfl⟩
  rw [evalInhibits, State.setGroup_groups, setAt_get_eq]
  split
  · exact quiet.blocked g
  · exact quiet.blocked h

theorem bothGroups_staysQuiet (s : State) {e : GroupEvent} (passive : Passive e) :
    StaysQuiet s (bothGroups s e) :=
  (groupEvent_staysQuiet s 0 passive).trans (groupEvent_staysQuiet _ 1 passive)

theorem faultEvent_staysQuiet (s : State) (p : RingPos) : StaysQuiet s (faultEvent s p) := by
  unfold faultEvent
  split
  · exact .refl s
  · exact groupEvent_staysQuiet s _ (.inr (.inr rfl))

/-! ## What the steps of the Group Controller leave of the Fire Schedule -/

/-- The parts of the Fire Schedule that no step of the Group Controller changes: the next sequence numbers, the
last fired valves, the counters and the fire counts (R60, R68, R75). -/
structure FscKept (s t : State) : Prop where
  nextSeq : t.fsc.nextSeq = s.fsc.nextSeq
  lastFired : t.fsc.lastFired = s.fsc.lastFired
  fireLate : t.fsc.fireLate = s.fsc.fireLate
  fireMissed : t.fsc.fireMissed = s.fsc.fireMissed
  timingDeviation : t.fsc.timingDeviation = s.fsc.timingDeviation
  unconfirmed : t.fsc.unconfirmed = s.fsc.unconfirmed
  fireCount : ∀ v : Valve, t.fsc.valves[v].fireCount = s.fsc.valves[v].fireCount

theorem FscKept.refl (s : State) : FscKept s s := ⟨rfl, rfl, rfl, rfl, rfl, rfl, fun _ => rfl⟩

theorem FscKept.trans {a b c : State} (h : FscKept a b) (k : FscKept b c) : FscKept a c :=
  ⟨k.nextSeq.trans h.nextSeq, k.lastFired.trans h.lastFired, k.fireLate.trans h.fireLate,
    k.fireMissed.trans h.fireMissed, k.timingDeviation.trans h.timingDeviation,
    k.unconfirmed.trans h.unconfirmed, fun v => (k.fireCount v).trans (h.fireCount v)⟩

theorem FscKept.of_fsc {s t : State} (fsc : t.fsc = s.fsc) : FscKept s t := by
  constructor
  case fireCount => intro v; rw [fsc]
  all_goals rw [fsc]

theorem FscKept.foldl {α : Type} (f : State → α → State) (h : ∀ s x, FscKept s (f s x))
    (xs : List α) (s : State) : FscKept s (xs.foldl f s) := by
  induction xs generalizing s with
  | nil => exact .refl s
  | cons x xs ih => exact (h s x).trans (ih _)

theorem tryBypass_fscKept (s : State) (v : Valve) : FscKept s (tryBypass s v) := by
  unfold tryBypass
  split <;> exact ⟨rfl, rfl, rfl, rfl, rfl, rfl, fun _ => rfl⟩

theorem retryWaiting_fscKept (s : State) (v : Valve) : FscKept s (retryWaiting s v) := by
  refine FscKept.foldl _ (fun s w => ?_) _ s
  unfold retryOne
  split
  · exact tryBypass_fscKept s w
  · exact .refl s

theorem writeOutcome_fireCount (f : ValveFiring) (r : FireRecord) {o : RecordOutcome}
    (unfired : o ≠ .fired) : (writeOutcome f r o).fireCount = f.fireCount := by
  unfold writeOutcome
  split
  · rfl
  · simp [unfired]

theorem closeRecord_fscKept (s : State) (r : FireRecord) {o : RecordOutcome} (unfired : o ≠ .fired) :
    FscKept s (closeRecord s r o) := by
  rw [closeRecord_of_unfired s r unfired]
  refine ⟨rfl, rfl, rfl, rfl, rfl, rfl, fun v => ?_⟩
  rw [State.setValveFiring_fsc_valves, setAt_get_eq]
  split
  · next same => subst same; exact writeOutcome_fireCount _ r unfired
  · rfl

theorem cancelDecision_fscKept (s : State) (g : Group) : FscKept s (cancelDecision s g).1 := by
  have closed (rs : List FireRecord) : ∀ x : State × Notices,
      FscKept x.1 (rs.foldl cancelPlanned x).1 := by
    induction rs with
    | nil => exact fun x => .refl x.1
    | cons r rs ih =>
      intro x
      have one : FscKept x.1 (cancelPlanned x r).1 :=
        (closeRecord_fscKept x.1 r (o := .cancelled false) nofun).trans (retryWaiting_fscKept _ _)
      exact one.trans (ih _)
  exact .trans (b := (takeDecision s).setRecords
      (s.fsc.records.map (markCancelled g (takeDecision s).fsc.decisionCount)))
    ⟨rfl, rfl, rfl, rfl, rfl, rfl, fun _ => rfl⟩ (closed _ (_, []))

theorem GroupSteps.fscKept {s t : State} (steps : GroupSteps s t) : FscKept s t := by
  induction steps with
  | refl => exact .refl s
  | tail _ step ih =>
    refine ih.trans ?_
    cases step with
    | group g r => exact .of_fsc rfl
    | flag f => exact .of_fsc rfl
    | fac x => exact .of_fsc rfl
    | bypass v => exact tryBypass_fscKept _ v
    | cancel g => exact cancelDecision_fscKept _ g
    | release g => exact ⟨rfl, rfl, rfl, rfl, rfl, rfl, fun _ => rfl⟩

theorem bothGroups_fscKept (s : State) (e : GroupEvent) : FscKept s (bothGroups s e) :=
  (groupEvent_steps s 0 e).fscKept.trans (groupEvent_steps _ 1 e).fscKept

theorem faultEvent_fscKept (s : State) (p : RingPos) : FscKept s (faultEvent s p) := by
  unfold faultEvent
  split
  · exact .refl s
  · exact (groupEvent_steps s _ _).fscKept

/-! ## A ring restart (R103, R117) -/

/-- No station is ENROLLED, so no record is eligible (R59, R93). -/
theorem fillEntries_of_reset {s : State} (stations : s.rgm.stations = fill 24 Station.reset) :
    fillEntries s = (s, []) := by
  have none (start : Time) (r : FireRecord) : eligible s start r = false := by
    unfold eligible
    split
    · rfl
    · rw [canTakeEntries, stations, fill_get]
      rfl
  have empty : candidates s s.now = [] := by
    have live : s.fsc.records.filter (eligible s s.now) = [] :=
      List.filter_eq_nil_iff.mpr fun r _ => ne_of_eq_of_ne (none s.now r) Bool.false_ne_true
    rw [candidates, live]
    rfl
  rw [fillEntries, empty]
  rfl

theorem stepStations_of_reset {s : State} (w : Vector Bool 24)
    (stations : s.rgm.stations = fill 24 Station.reset) : stepStations s w = s := by
  have same : (Vector.ofFn fun p : RingPos => stepStation s.tbs.ring w[p] s.rgm.stations[p]) =
      s.rgm.stations := by
    simp only [stations, fill_get]
    rfl
  rw [stepStations, same]
  rfl

theorem finishCycle_eq (s : State) (probe : Bool) : finishCycle s probe =
    sendCycle (cycleEntries s probe).1 probe (buildFrames (cycleEntries s probe).1 probe
      (cycleItems (cycleEntries s probe).1 probe) (cycleEntries s probe).2) := rfl

/-- The first cycle after a ring restart carries nothing and is sent in FORWARD (R80, R81, R103). -/
theorem startCycle_of_cleared {s : State} (cycle : s.rgm.cycle = none)
    (link : s.rgm.link = .forward) (stations : s.rgm.stations = fill 24 Station.reset)
    (items : s.rgm.items = []) :
    startCycle s = s.setRgm { s.rgm with
      cycleNumber := s.rgm.cycleNumber + 1#16
      sendBefore := s.rgm.sendLatest
      sendLatest := some s.now
      cycleAt := some (addTb s.now s.tbs.ring.ringInterval)
      cycle := some {
        probe := false, pattern := .forward
        frames := [⟨.f, s.rgm.cycleNumber + 1#16, s.now, [], []⟩]
        returnedF := false, returnedR := false, overrun := false, lastReturn := none
        heardF := fill 24 false, heardR := fill 24 false } } := by
  have closed : closeCycle s = s := by rw [closeCycle, cycle]
  have probe : stepProbe (stepNumber s) = (stepNumber s, false) := if_pos link
  have entries : fillEntries (stepNumber s) = (stepNumber s, []) := fillEntries_of_reset stations
  have pattern : sendPattern (stepNumber s) = .forward := by
    rw [sendPattern, show (stepNumber s).rgm.link = .forward from link]
  have placed : placedItems (stepNumber s) = [] := by
    rw [placedItems, show (stepNumber s).rgm.items = [] from items]
    rfl
  have frames : buildFrames (stepNumber s) false [] [] =
      [⟨.f, s.rgm.cycleNumber + 1#16, s.now, [], []⟩] := by
    rw [buildFrames, if_neg Bool.false_ne_true, pattern]
    rfl
  have cycleItems : cycleItems (stepNumber s) false = [] := placed
  have cycleEntries : cycleEntries (stepNumber s) false = (stepNumber s, []) := entries
  have run : runCycle s = finishCycle (stepNumber s) false :=
    congrArg (fun x : State × Bool => finishCycle x.1 x.2) probe
  rw [startCycle, closed, stepStations_of_reset _ stations, run, finishCycle_eq, cycleEntries,
    cycleItems, frames, sendCycle, pattern]
  rfl

/-- A ring restart up to its first cycle: the Ring Master is cleared, and the groups are handed the station
faults and the change of status (R103). -/
def restartTold (s : State) : State :=
  announceLink ((enrolledPositions s).foldl faultEvent (clearRing s)) s.rgm.link

theorem restartTold_only (s : State) : Only groupBlocks (clearRing s) (restartTold s) :=
  (Only.foldl _ faultEvent_only _ _).trans (announceLink_only _ _)

/-- Whatever the groups do meanwhile, a ring restart ends in the Ring Master's restart values. -/
theorem ringRestart_eq (s : State) : ringRestart s = (restartTold s).setRgm
    (restartedRing s.rgm s.tbs.station.isSome s.tbs.ring.ringInterval s.now) := by
  have only := restartTold_only s
  have rgm : (restartTold s).rgm = (clearRing s).rgm := only.rgm (by decide)
  have tbs : (restartTold s).tbs = s.tbs := only.tbs (by decide)
  have now : (restartTold s).now = s.now := only.now (by decide)
  show firstCycle (restartTold s) = _
  rw [firstCycle, tbs]
  split
  · next table =>
    have link : (clearRing s).rgm.link = .forward := if_pos table
    rw [startCycle_of_cleared (by rw [rgm]; rfl) (by rw [rgm, link]) (by rw [rgm]; rfl)
      (by rw [rgm]; rfl), rgm, tbs, now, restartedRing, if_pos table]
    simp only [clearRing, table, if_true]
    rfl
  · next absent =>
    have link : (clearRing s).rgm.link = s.rgm.link := if_neg absent
    have cleared : restartedRing s.rgm s.tbs.station.isSome s.tbs.ring.ringInterval s.now =
        { (clearRing s).rgm with link := s.rgm.link } := if_neg absent
    rw [cleared, ← link, ← rgm]
    rfl

/-- A status that differs from the one before sets RING_CHANGE (R89, R103). -/
theorem restartTold_flag {s : State} (table : s.tbs.station.isSome = true)
    (change : s.rgm.link ≠ .forward) : (restartTold s).hasFlag .ringChange = true := by
  have faults := Only.foldl _ faultEvent_only (enrolledPositions s) (clearRing s)
  have link : ((enrolledPositions s).foldl faultEvent (clearRing s)).rgm.link = .forward := by
    rw [faults.rgm (by decide)]
    exact if_pos table
  rw [restartTold, announceLink, if_neg (by rw [link]; exact Ne.symm change)]
  exact (bothGroups_only _ _).clear (by decide) _ (setAt_get _ _ _)

theorem faultEvents_unready (ps : List RingPos) {s : State} (lock : s.pru.lock ≠ .locked) :
    Only unreadyBlocks s (ps.foldl faultEvent s) := by
  induction ps generalizing s with
  | nil => exact .refl _ s
  | cons p ps ih =>
    have first : Only unreadyBlocks s (faultEvent s p) := by
      unfold faultEvent
      split
      · exact .refl _ s
      · exact runEvents_unready _ _ lock
    exact first.trans (ih (by rwa [first.pru (by decide)]))

theorem announceLink_unready {s : State} (old : LinkStatus) (lock : s.pru.lock ≠ .locked) :
    Only unreadyBlocks s (announceLink s old) := by
  unfold announceLink
  split
  · exact .refl _ s
  · exact Only.trans (.of (s.setFlag_only _) rfl) (bothGroups_unready (s := s.setFlag _) _ lock)

theorem restartTold_unready {s : State} (lock : s.pru.lock ≠ .locked) :
    Only unreadyBlocks (clearRing s) (restartTold s) := by
  have faults := faultEvents_unready (s := clearRing s) (enrolledPositions s) lock
  exact faults.trans (announceLink_unready _ (by rwa [faults.pru (by decide)]))

theorem announceLink_fscKept (s : State) (old : LinkStatus) : FscKept s (announceLink s old) := by
  unfold announceLink
  split
  · exact .refl s
  · exact .trans (b := s.setFlag .ringChange) (.of_fsc rfl) (bothGroups_fscKept _ _)

theorem restartTold_fscKept (s : State) : FscKept s (restartTold s) :=
  .trans (b := clearRing s) (.of_fsc rfl)
    ((FscKept.foldl _ faultEvent_fscKept (enrolledPositions s) _).trans (announceLink_fscKept _ _))

theorem announceLink_staysQuiet (s : State) (old : LinkStatus) :
    StaysQuiet s (announceLink s old) := by
  unfold announceLink
  split
  · exact .refl s
  · exact .trans (b := s.setFlag .ringChange) (fun quiet => ⟨⟨quiet.1, quiet.2, quiet.3⟩, rfl⟩)
      (bothGroups_staysQuiet _ (.inr (.inl rfl)))

theorem restartTold_staysQuiet (s : State) : StaysQuiet s (restartTold s) :=
  .trans (b := clearRing s) (fun quiet => ⟨⟨quiet.1, quiet.2, quiet.3⟩, rfl⟩)
    ((StaysQuiet.foldl _ faultEvent_staysQuiet (enrolledPositions s) _).trans
      (announceLink_staysQuiet _ _))

/-! ## The parts of a warm restart (R33, R53, R77, R131, R158, R181) -/

/-- A change to a lock state other than LOCKED is handed to groups that are not ready then. -/
theorem setLock_unready (s : State) {x : LockState} (lost : Bool) (unready : x ≠ .locked) :
    Only (.pru :: unreadyBlocks) s (setLock s x lost) := by
  unfold setLock
  split
  · exact .refl _ s
  · have told := bothGroups_unready (s := (s.setPru { s.pru with lock := x }).setFlag .lockChange)
      (.lockChange lost) unready
    exact Only.trans (.of (s.setPru_only _) rfl) (Only.trans (.of (State.setFlag_only _ _) rfl)
      (told.of rfl))

theorem restartPru_unready (s : State) : Only (.pru :: unreadyBlocks) s (restartPru s) :=
  Only.trans (.of (s.setPru_only _) rfl) (setLock_unready _ false nofun)

theorem setLock_fscKept (s : State) (x : LockState) (lost : Bool) : FscKept s (setLock s x lost) := by
  unfold setLock
  split
  · exact .refl s
  · exact .trans (b := (s.setPru { s.pru with lock := x }).setFlag .lockChange) (.of_fsc rfl)
      (bothGroups_fscKept _ _)

theorem restartPru_fscKept (s : State) : FscKept s (restartPru s) :=
  .trans (b := s.setPru (restartedModel s.tbs.converter s.pru)) (.of_fsc rfl) (setLock_fscKept _ _ _)

/-- Both groups BLOCKED without a BYPASS order are quiet once the unit is restarted. -/
theorem restartPru_quiet {s : State} (blocked : ∀ g : Group, s.groups[g].state = .blocked)
    (unbypassed : ∀ g : Group, commandOf s.olp.order.flags[g] ≠ .bypass) :
    Quiet (restartPru s) ∧ (restartPru s).fsc = s.fsc := by
  unfold restartPru setLock
  split
  · next unlocked => exact ⟨⟨blocked, unbypassed, ne_of_eq_of_ne unlocked nofun⟩, rfl⟩
  · exact bothGroups_staysQuiet _ (.inl rfl) ⟨blocked, unbypassed, nofun⟩

theorem restartGroup_eq (s : State) (g : Group) : restartGroup s g =
    s.setGroup g { GroupRecord.reset with inhibits := inhibitSet s g } := by
  rw [restartGroup, evalInhibits, inhibitSet_setGroup, State.setGroup_groups, setAt_get]
  unfold State.setGroup setAt
  simp only [Vector.set_set]

theorem Fac.eq_of_parts {x y : Fac} (plannings : x.plannings = y.plannings) (rest : x.rest = y.rest) :
    x = y := by
  cases x
  cases y
  simp_all [Fac.rest]

/-- A frame without the calculator's two parts leaves it. -/
theorem Only.fac_eq {bs : List Block} {s t : State} (h : Only bs s t) (plan : Block.plan ∉ bs)
    (rest : Block.fac ∉ bs) : t.fac = s.fac :=
  Fac.eq_of_parts (h.plan plan) (h.fac rest)

/-- The state in which the ring restart of a warm restart begins. -/
def restartedBlocks (s : State) : State := restartExm (restartFsc (restartFac (restartPru s)))

theorem warmRestart_eq (s : State) : warmRestart s =
    restartGroup (restartGroup (clearMisses (ringRestart (restartedBlocks s))) 0) 1 := rfl

/-- What the last steps leave: the groups' records alone are written after the misses are cleared. -/
theorem warmRestart_groups (s : State) (g : Group) : (warmRestart s).groups[g] =
    { GroupRecord.reset with inhibits := inhibitSet (warmRestart s) g } := by
  rw [warmRestart_eq, restartGroup_eq, restartGroup_eq, inhibitSet_setGroup, inhibitSet_setGroup,
    inhibitSet_setGroup, State.setGroup_groups, State.setGroup_groups, setAt_get_eq, setAt_get_eq]
  match g with
  | 0 | 1 => rfl

theorem restartedBlocks_only (s : State) :
    Only [.plan, .fac, .fsc, .exm] (restartPru s) (restartedBlocks s) :=
  Only.trans (.of (restartFac_only _) rfl) (Only.trans (.of (restartFsc_only _) rfl)
    (.of (restartExm_only _) rfl))

theorem warmRestart_after_told (s : State) :
    Only [.fsc, .rgm, .groups] (restartTold (restartedBlocks s)) (warmRestart s) := by
  rw [warmRestart_eq, ringRestart_eq]
  exact Only.trans (.of (State.setRgm_only _ _) rfl) (Only.trans (.of (clearMisses_only _) rfl)
    (Only.trans (.of (restartGroup_only _ 0) rfl) (.of (restartGroup_only _ 1) rfl)))

/-- After the blocks' own restarts the calculator is left alone: the unit is UNLOCKED, so no group deblocks. -/
theorem warmRestart_after_blocks (s : State) :
    Only (.rgm :: unreadyBlocks) (restartedBlocks s) (warmRestart s) := by
  have lock : (restartedBlocks s).pru.lock ≠ .locked := by
    rw [(restartedBlocks_only s).pru (by decide), restartPru_pru]
    exact nofun
  exact Only.trans (.of (State.setRgm_only (restartedBlocks s) _) rfl)
    (Only.trans (.of (restartTold_unready lock) rfl) (.of (warmRestart_after_told s) rfl))

theorem warmRestart_fac (s : State) : (warmRestart s).fac = { s.fac with
    plannings := fill 24 none, firstFiring := fill 2 false
    startPending := fill 4 false, gammaLimiting := fill 2 false } := by
  rw [(warmRestart_after_blocks s).fac_eq (by decide) (by decide)]
  show (restartFac (restartPru s)).fac = _
  rw [restartFac, State.setFac_fac, (restartPru_unready s).fac_eq (by decide) (by decide)]

theorem warmRestart_exm (s : State) : (warmRestart s).exm = { s.exm with
    pendings := fill 24 none, correction := fill 4 0, recovery := fill 2 0
    repeats := fill 2 0, windows := fill 2 [] } := by
  rw [(warmRestart_after_blocks s).exm (by decide), restartedBlocks, restartExm, State.setExm_exm,
    (restartFsc_only _).exm (by decide), (restartFac_only _).exm (by decide),
    (restartPru_only s).exm (by decide)]

theorem restartedBlocks_ring (s : State) : (restartedBlocks s).rgm = s.rgm ∧
    (restartedBlocks s).tbs = s.tbs ∧ (restartedBlocks s).now = s.now :=
  have blocks := restartedBlocks_only s
  have phase := restartPru_only s
  ⟨(blocks.rgm (by decide)).trans (phase.rgm (by decide)),
    (blocks.tbs (by decide)).trans (phase.tbs (by decide)),
    (blocks.now (by decide)).trans (phase.now (by decide))⟩

theorem warmRestart_rgm (s : State) : (warmRestart s).rgm =
    restartedRing s.rgm s.tbs.station.isSome s.tbs.ring.ringInterval s.now := by
  obtain ⟨rgm, tbs, now⟩ := restartedBlocks_ring s
  rw [warmRestart_eq, (restartGroup_only _ 1).rgm (by decide), (restartGroup_only _ 0).rgm (by decide),
    (clearMisses_only _).rgm (by decide), ringRestart_eq, State.setRgm_rgm, rgm, tbs, now]

theorem warmRestart_lockChange {s : State} (change : s.pru.lock ≠ .unlocked) :
    (warmRestart s).hasFlag .lockChange = true := by
  have phase : (restartPru s).hasFlag .lockChange = true :=
    setLock_flag (s := s.setPru (restartedModel s.tbs.converter s.pru)) false change
  exact (warmRestart_after_blocks s).clear (by decide) _
    ((restartedBlocks_only s).clear (by decide) _ phase)

theorem warmRestart_ringChange {s : State} (table : s.tbs.station.isSome = true)
    (change : s.rgm.link ≠ .forward) : (warmRestart s).hasFlag .ringChange = true := by
  obtain ⟨rgm, tbs, -⟩ := restartedBlocks_ring s
  exact (warmRestart_after_told s).clear (by decide) _
    (restartTold_flag (by rwa [tbs]) (by rwa [rgm]))

/-- The Fire Schedule after a warm restart is that of its ring restart with the misses cleared. -/
theorem warmRestart_fsc (s : State) :
    (warmRestart s).fsc = (clearMisses (restartTold (restartedBlocks s))).fsc := by
  rw [warmRestart_eq, (restartGroup_only _ 1).fsc (by decide), (restartGroup_only _ 0).fsc (by decide),
    ringRestart_eq]
  rfl

/-- The sequence numbers and last fired valves are restarted, the counters and fire counts kept, whatever the
groups do meanwhile (R77). -/
theorem restartedBlocks_fscKept (s : State) :
    FscKept (restartFsc s) (restartedBlocks s) := by
  have told := restartPru_fscKept s
  generalize same : restartPru s = t at told
  obtain ⟨-, -, late, missed, deviation, unconfirmed, fired⟩ := told
  have fsc : (restartedBlocks s).fsc = (restartFsc t).fsc := by
    rw [← same]
    rfl
  constructor
  case fireCount => rw [fsc]; exact fired
  case fireLate => rw [fsc]; exact late
  case fireMissed => rw [fsc]; exact missed
  case timingDeviation => rw [fsc]; exact deviation
  case unconfirmed => rw [fsc]; exact unconfirmed
  all_goals rw [fsc]; rfl

theorem clearMisses_fscKept (s : State) : FscKept s (clearMisses s) := by
  constructor
  case fireCount => intro v; rw [clearMisses, State.setFsc_fsc, mapVec_get]
  all_goals rw [clearMisses, State.setFsc_fsc]

theorem warmRestart_fscKept (s : State) : FscKept (restartFsc s) (warmRestart s) := by
  have blocks := restartedBlocks_fscKept s
  have told := restartTold_fscKept (restartedBlocks s)
  have misses := clearMisses_fscKept (restartTold (restartedBlocks s))
  have rest : FscKept (clearMisses (restartTold (restartedBlocks s))) (warmRestart s) :=
    .of_fsc (warmRestart_fsc s)
  exact blocks.trans (told.trans (misses.trans rest))

theorem warmRestart_misses (s : State) (v : Valve) : (warmRestart s).fsc.valves[v].misses = 0#16 := by
  rw [warmRestart_fsc, clearMisses, State.setFsc_fsc, mapVec_get]

/-- BLOCKED groups without a BYPASS order make no record and write no Valve Record during the restart. -/
theorem warmRestart_fsc_of_unbypassed {s : State} (blocked : ∀ g : Group, s.groups[g].state = .blocked)
    (unbypassed : ∀ g : Group, commandOf s.olp.order.flags[g] ≠ .bypass) :
    (warmRestart s).fsc = (clearMisses (restartFsc s)).fsc := by
  obtain ⟨⟨blocked, unbypassed, unlocked⟩, fsc⟩ := restartPru_quiet blocked unbypassed
  have quiet : Quiet (restartedBlocks s) := ⟨blocked, unbypassed, unlocked⟩
  have told : (restartTold (restartedBlocks s)).fsc = (restartedBlocks s).fsc :=
    (restartTold_staysQuiet _ quiet).2
  have own : (restartedBlocks s).fsc = (restartFsc s).fsc := by
    show (restartFsc (restartPru s)).fsc = _
    rw [restartFsc, State.setFsc_fsc, fsc]
    rfl
  rw [warmRestart_fsc, clearMisses, State.setFsc_fsc, told, own]
  rfl

/-! ## The command (R166, R168, R181) -/

theorem request_of_room {s : State} (room : replyCount s.olp.queue < 3) (type seq : Byte)
    (act : State → State × Answer) : request s type seq act = enqueue (act s).1
      (.reply ⟨type, seq, (act s).2.result, (act s).2.subject, (act s).2.detail, (act s).2.contents⟩) := by
  have notFull : queueFull s = false := decide_eq_false (Nat.not_le.mpr room)
  rw [request, notFull, if_neg Bool.false_ne_true]

theorem warmRestartCommand_of_blocked {s : State} (blocked : ∀ g : Group, s.groups[g].state = .blocked) :
    warmRestartCommand s = (warmRestart s, ok kindWarmRestart) := by
  have both : bothBlocked s = true :=
    Bool.and_eq_true_iff.mpr ⟨decide_eq_true (blocked 0), decide_eq_true (blocked 1)⟩
  exact if_pos both

/-- Settles O50: each block's restart value by its own lemma; the groups, told of the changes meanwhile, are
not ready to deblock, and BLOCKED ones without a BYPASS order do nothing. -/
theorem warmRestartTakesRestartValues : Obligations.WarmRestartTakesRestartValues := by
  intro s n seq room blocked
  have only := warmRestart_only (s.at n)
  have kept := warmRestart_fscKept (s.at n)
  refine ⟨warmRestart (s.at n), ?_, (warmRestart_pru _).trans (restartPru_pru _),
    warmRestart_lockChange (s := s.at n), warmRestart_fac _, kept.nextSeq, kept.lastFired, kept.fireLate,
    kept.fireMissed, kept.timingDeviation, kept.unconfirmed,
    fun v => ⟨warmRestart_misses _ v, kept.fireCount v⟩, fun unbypassed => ?_, warmRestart_exm _,
    warmRestart_rgm _, warmRestart_ringChange (s := s.at n), warmRestart_groups _, only.lvm (by decide),
    only.tbs (by decide), only.pending (by decide),
    only.olp_but_sticky (by decide) (by decide) (by decide)⟩
  · show Host.Outcome.next (request (s.at n) 8#8 seq warmRestartCommand) = _
    rw [request_of_room (s := s.at n) room, warmRestartCommand_of_blocked (s := s.at n) blocked]
    rfl
  · rw [warmRestart_fsc_of_unbypassed (s := s.at n) blocked unbypassed]
    refine ⟨rfl, rfl, rfl, fun v => ?_⟩
    rw [clearMisses, State.setFsc_fsc, mapVec_get]
    rfl

end Sys2Proof.Machine
end

section
/-! PROOFS. Planning instants (O26, O27): when a planning instant passes, when its record is refused, and the
records, indications and counters that a planning with room leaves. -/

namespace Sys2Proof.Machine

/-! ## Entries and flags -/

/-- An entry written with the value it has changes nothing. -/
theorem setAt_eq_self {α : Type} {n : Nat} {v : Vector α n} {i : Fin n} {x : α} (same : v[i] = x) :
    setAt v i x = v := by
  subst same
  simp [setAt]

theorem StickyFlag.bit_injective : Function.Injective StickyFlag.bit :=
  Function.LeftInverse.injective (g := fun b => StickyFlag.ofNat b.val) fun f => by cases f <;> rfl

theorem State.setFlag_hasFlag (s : State) (f h : StickyFlag) :
    (s.setFlag f).hasFlag h = (s.hasFlag h || decide (h = f)) := by
  simp only [State.hasFlag, State.setFlag_olp_sticky, setAt_get_eq, StickyFlag.bit_injective.eq_iff,
    eq_comm (a := f)]
  by_cases same : h = f <;> simp [same]

/-- The state with other sticky flags. -/
def State.withFlags (s : State) (flags : BoolSet 16) : State :=
  { s with olp := { s.olp with sticky := flags } }

theorem noteFloor_eq (s : State) (x : StageResult) :
    noteFloor s x = s.withFlags (noteFloor s x).olp.sticky := by
  unfold noteFloor
  split <;> rfl

theorem noteFloor_hasFlag (s : State) (x : StageResult) (f : StickyFlag) :
    (noteFloor s x).hasFlag f = (s.hasFlag f || (decide (f = .gammaFloor) && x.floored)) := by
  cases floored : x.floored
  · simp [noteFloor, floored]
  · simp [noteFloor, floored, State.setFlag_hasFlag]

/-! ## The planning instant (R36) -/

theorem firingState_iff (x : GroupState) : firingState x = true ↔ x = .deblocking ∨ x = .running := by
  simp [firingState]

theorem planningRuns_iff (s : State) (g : Group) : planningRuns s g = true ↔
    (s.groups[g].state = .deblocking ∨ s.groups[g].state = .running) ∧
      (s.pru.lock = .locked ∨ s.pru.lock = .holdover) := by
  simp [planningRuns, firingState_iff]

/-- The state in which the planning of a valve begins: its instant is armed no more. -/
def State.disarmed (s : State) (n : Time) (v : Valve) : State := (s.at n).setPlanning v none

theorem exec_planningInstant_of_reached {s : State} {n : Time} {v : Valve} {p : Planning}
    (armed : s.fac.plannings[v] = some p) (reached : passed n p.time = true) :
    exec (.planningInstant n v) s = .next (planningEvent (s.disarmed n v) v p.target) := by
  have instant : ((s.at n).fac.plannings[v]).map Planning.time = some p.time := by
    rw [State.at_fac, armed]
    rfl
  have taken : takePlanning (s.at n) v = planningEvent (s.disarmed n v) v p.target := by
    unfold takePlanning
    rw [State.at_fac, armed]
    rfl
  rw [← taken]
  exact congrArg Host.Outcome.next (takeIf_of_reached (fun s => takePlanning s v)
    (instant := fun s => s.fac.plannings[v].map Planning.time) instant reached)

theorem exec_planningInstant_of_runs {s : State} {n : Time} {v : Valve} {p : Planning}
    (armed : s.fac.plannings[v] = some p) (reached : passed n p.time = true)
    (runs : planningRuns s (valveGroup v) = true) :
    exec (.planningInstant n v) s = .next (planValve (s.disarmed n v) v p.target) := by
  rw [exec_planningInstant_of_reached armed reached]
  exact congrArg Host.Outcome.next (if_pos (c := planningRuns (s.disarmed n v) (valveGroup v) = true) runs)

/-- R44: a planning whose valve holds two live records refuses its record. -/
theorem planValve_of_full {s : State} {v : Valve} (target : Time) (full : 2 ≤ (s.recordsOf v).length) :
    planValve s v target = refuseRecord (noteFloor s (revisedStages s v (planInputs s v target))) := by
  have noRoom : s.hasRoom v = false := decide_eq_false (Nat.not_lt.mpr full)
  dsimp only [planValve, offerNormal]
  rw [noteFloor_eq]
  exact if_neg (c := s.hasRoom v = true) (by rw [noRoom]; exact Bool.false_ne_true)

/-- Settles O26: the instant is disarmed, and then the planning does not run, or its record is refused. -/
theorem planningWithoutARecord : Obligations.PlanningWithoutARecord := by
  intro s n v p armed reached g runs
  refine ⟨fun idle => ?_, fun going full => ?_⟩
  · have still : ¬ planningRuns (s.disarmed n v) g = true := (planningRuns_iff s g).not.mpr idle
    rw [exec_planningInstant_of_reached armed reached, planningEvent, if_neg still]
    rfl
  · let u := s.disarmed n v
    let x := revisedStages u v (planInputs u v p.target)
    refine ⟨refuseRecord (noteFloor u x), ?_, ?_, ?_, ?_⟩
    · rw [exec_planningInstant_of_runs armed reached ((planningRuns_iff s g).mpr going)]
      exact congrArg Host.Outcome.next (planValve_of_full (s := u) p.target full)
    · rw [noteFloor_eq]
      rfl
    · exact (State.setFlag_hasFlag _ _ _).trans (by rw [decide_eq_true rfl, Bool.or_true])
    · rw [noteFloor_eq]
      rfl

/-! ## A record that is placed (R44, R57) -/

/-- A record whose instants lie ahead is placed and nothing more. -/
theorem placeRecord_of_ahead {s : State} {r : FireRecord} (lateness : s.reached r.latenessAt = false)
    (confirm : s.reached r.confirmAt = false) : placeRecord s r = s.addRecord r := by
  have still : ¬ (s.addRecord r).reached r.confirmAt = true := by
    show ¬ s.reached r.confirmAt = true
    rw [confirm]
    exact Bool.false_ne_true
  rw [placeRecord, lateness, if_neg Bool.false_ne_true, confirmAtArming, if_neg still]

/-- A record of another valve takes no place of the valve. -/
theorem recordsOf_addRecord_length {s : State} {r : FireRecord} {v : Valve} (other : r.valve ≠ v) :
    ((s.addRecord r).recordsOf v).length = (s.recordsOf v).length := by
  have same := ((insertBy_perm schedBefore r s.fsc.records).filter fun x => decide (x.valve = v)).length_eq
  rwa [List.filter_cons_of_neg (by simpa using other)] at same

theorem predecessor_ne (v : Valve) : v ≠ predecessor v := by
  simp only [ne_eq, Fin.ext_iff, predecessor, valveAt, valveBridge, valvePosition]
  omega

/-! ## The notices of a planning (R44, R46, R126) -/

/-- R126: the recovery counter falls by 1, and the repeat count is 0 when it reaches 0. -/
theorem planningNotice_eq (s : State) (g : Group) : planningNotice s g = s.setExm { s.exm with
    recovery := setAt s.exm.recovery g (s.exm.recovery[g] - 1)
    repeats := if s.exm.recovery[g] = 1 then setAt s.exm.repeats g 0 else s.exm.repeats } := by
  unfold planningNotice
  dsimp only
  by_cases ended : s.exm.recovery[g] = 0
  · rw [if_pos ended, if_neg (by omega), setAt_eq_self (by omega)]
    rfl
  · have last : s.exm.recovery[g] - 1 = 0 ↔ s.exm.recovery[g] = 1 := by omega
    simp only [ended, last, if_false]

/-- What is left by the START record that a planning of valve `v` issues: it is placed, or refused, or there
is none to issue (R46). -/
structure StartIssued (s t : State) (v : Valve) (start : FireRecord) (refused : Bool) : Prop where
  fsc : t.fsc = { s.fsc with
    records := if s.fac.startPending[valveBridge v] && !refused then
      insertBy schedBefore start s.fsc.records else s.fsc.records }
  fac : t.fac = { s.fac with
    startPending := setAt s.fac.startPending (valveBridge v) false
    scheduleConflict := if refused then satInc s.fac.scheduleConflict else s.fac.scheduleConflict }
  flags : ∀ f, t.hasFlag f = (s.hasFlag f || (decide (f = .scheduleConflict) && refused))
  rest : t = { s with fsc := t.fsc, fac := t.fac, olp := { s.olp with sticky := t.olp.sticky } }

theorem issueStart_spec {s : State} {v : Valve} {due : Time} {hold : Nat}
    (lateness : passed s.now (latenessOf s.tbs.ring due) = false)
    (confirm : passed s.now (confirmOf s.tbs.ring due) = false) :
    StartIssued s (issueStart s v due hold) v (newStart s.tbs.ring (predecessor v) due hold)
      (s.fac.startPending[valveBridge v] && decide (2 ≤ (s.recordsOf (predecessor v)).length)) := by
  let w := clearStartPending s (valveBridge v)
  let r := newStart s.tbs.ring (predecessor v) due hold
  cases pending : s.fac.startPending[valveBridge v]
  case false =>
    have none : issueStart s v due hold = s := by
      rw [issueStart, pending, if_neg Bool.false_ne_true]
    rw [none]
    exact ⟨by rw [pending]; rfl, by rw [setAt_eq_self pending]; rfl,
      fun f => by rw [Bool.false_and, Bool.and_false, Bool.or_false], rfl⟩
  case true =>
    have issued : issueStart s v due hold = placeStart w (predecessor v) due hold := if_pos pending
    by_cases full : 2 ≤ (s.recordsOf (predecessor v)).length
    · have refused : issueStart s v due hold = refuseRecord w :=
        issued.trans (if_neg fun room => Nat.not_lt.mpr full (of_decide_eq_true room))
      rw [refused, decide_eq_true full]
      exact ⟨by rw [pending]; rfl, rfl, fun f => by
        rw [Bool.true_and, Bool.and_true]
        exact State.setFlag_hasFlag _ _ _, rfl⟩
    · have placed : issueStart s v due hold = w.addRecord r :=
        issued.trans ((if_pos (decide_eq_true (Nat.not_le.mp full))).trans
          (placeRecord_of_ahead lateness confirm))
      rw [placed, decide_eq_false full]
      exact ⟨by rw [pending]; rfl, rfl, fun f => by
        rw [Bool.and_false, Bool.and_false, Bool.or_false]
        rfl, rfl⟩

/-! ## A planning with room (R36 to R46) -/

/-- The state after a planning has placed its NORMAL record and steps 1 to 4 of R44 are done. -/
def normalPlaced (s : State) (v : Valve) (x : StageResult) (r : FireRecord) : State :=
  planningNotice (notePlanned ((noteFloor s x).addRecord r) (valveGroup v) x.alphaEff x.limiting)
    (valveGroup v)

theorem planValve_of_room {s : State} {v : Valve} {target : Time} {i : PlanInputs} {x : StageResult}
    {r : FireRecord} (inputs : planInputs s v target = i) (stages : revisedStages s v i = x)
    (record : plannedRecord s v i x.alphaEff = r) (room : (s.recordsOf v).length < 2)
    (lateness : passed s.now (latenessOf s.tbs.ring r.due) = false)
    (confirm : passed s.now (confirmOf s.tbs.ring r.due) = false) :
    planValve s v target = issueStart (normalPlaced s v x r) v r.due (holdWidth i.period) := by
  subst record
  have placed : placeRecord (noteFloor s x) (plannedRecord s v i x.alphaEff) =
      (noteFloor s x).addRecord (plannedRecord s v i x.alphaEff) := by
    rw [noteFloor_eq]
    exact placeRecord_of_ahead lateness confirm
  rw [planValve, inputs, stages, normalPlaced, ← placed, noteFloor_eq]
  exact if_pos (c := s.hasRoom v = true) (decide_eq_true room)

theorem normalPlaced_eq (s : State) (v : Valve) (x : StageResult) (r : FireRecord) :
    normalPlaced s v x r = { s with
      fac := { s.fac with
        alphaLast := setAt s.fac.alphaLast (valveGroup v) (some x.alphaEff)
        firstFiring := setAt s.fac.firstFiring (valveGroup v) false
        gammaLimiting := setAt s.fac.gammaLimiting (valveGroup v) x.limiting }
      fsc := { s.fsc with records := insertBy schedBefore r s.fsc.records }
      exm := { s.exm with
        recovery := setAt s.exm.recovery (valveGroup v) (s.exm.recovery[valveGroup v] - 1)
        repeats := if s.exm.recovery[valveGroup v] = 1 then setAt s.exm.repeats (valveGroup v) 0
          else s.exm.repeats }
      olp := { s.olp with sticky := (noteFloor s x).olp.sticky } } := by
  rw [normalPlaced, planningNotice_eq, noteFloor_eq]
  rfl

/-- Settles O27: the NORMAL record is placed with the angle of the stages, the notices of R44 follow, and the
START record of the predecessor is placed or refused. -/
theorem planningPlacesTheRecords : Obligations.PlanningPlacesTheRecords := by
  intro s n v p armed reached g b lt band mu gMin advance a1 limit gl reference alpha due hold reversal inputs
    normal placed start started refused firing locked room lateness confirm
  let u := s.disarmed n v
  let x : StageResult := ⟨decide (limit < lt.alphaMin), decide (gl < a1), alpha⟩
  have planned : planValve u v p.target = issueStart (normalPlaced u v x normal) v due hold :=
    planValve_of_room (i := inputs) (x := x) (r := normal) rfl rfl rfl room lateness confirm
  have held : ((normalPlaced u v x normal).recordsOf (predecessor v)).length =
      (s.recordsOf (predecessor v)).length := by
    rw [normalPlaced_eq]
    exact recordsOf_addRecord_length (s := s) (predecessor_ne v)
  have issued : StartIssued (normalPlaced u v x normal) (planValve u v p.target) v start refused := by
    have spec := issueStart_spec (s := normalPlaced u v x normal) (v := v) (due := due) (hold := hold)
      (by rw [normalPlaced_eq]; exact lateness) (by rw [normalPlaced_eq]; exact confirm)
    rw [held, ← planned] at spec
    rw [normalPlaced_eq] at spec ⊢
    exact spec
  have flags (f : StickyFlag) : (normalPlaced u v x normal).hasFlag f =
      (s.hasFlag f || (decide (f = .gammaFloor) && decide (limit < lt.alphaMin))) := by
    rw [normalPlaced_eq]
    exact noteFloor_hasFlag u x f
  obtain ⟨fsc, fac, flag, rest⟩ := issued
  refine ⟨planValve u v p.target, exec_planningInstant_of_runs armed reached
    ((planningRuns_iff s g).mpr ⟨firing, locked⟩), ?_, ?_, ?_, fun f => by rw [flag, flags], ?_⟩
  · rw [fsc, normalPlaced_eq]
    rfl
  · rw [fac, normalPlaced_eq]
    rfl
  · rw [rest, normalPlaced_eq]
    rfl
  · rw [rest, normalPlaced_eq]
    exact ⟨rfl, rfl, rfl, rfl, rfl, rfl, rfl⟩

end Sys2Proof.Machine
end

section
/-! PROOFS. Protective revision (R49 to R51) and the declaration of a commutation failure (R125): what the
recomputation of one record does, then of all records of a scope (`Revises`), then the declaration
(`Declares`). -/

namespace Sys2Proof.Machine

/-! ## What a recomputation reads -/

/-- What the recomputation of a record reads of the state is the same. -/
structure SameInputs (s t : State) : Prop where
  now : t.now = s.now
  exm : t.exm = s.exm
  tbs : t.tbs = s.tbs

/-- The recomputation of a record applied the floor (R40, R49). -/
def revisedFloored (t : State) (r : FireRecord) : Bool :=
  match r.body with
  | .normal n => (recomputed t r.valve n.inputs).2.2
  | _ => false

theorem SameInputs.recomputed {s t : State} (same : SameInputs s t) (v : Valve) (i : PlanInputs) :
    recomputed t v i = recomputed s v i := by
  simp only [Machine.recomputed, same.exm, same.tbs]

theorem SameInputs.revisedTooLate {s t : State} (same : SameInputs s t) (r : FireRecord) :
    revisedTooLate t r = revisedTooLate s r := by
  simp only [Machine.revisedTooLate, same.recomputed, same.now, same.tbs]

theorem SameInputs.revisedTo {s t : State} (same : SameInputs s t) (r : FireRecord) :
    revisedTo t r = revisedTo s r := by
  simp only [Machine.revisedTo, same.recomputed, same.revisedTooLate, same.now, same.tbs]

theorem SameInputs.revisedFloored {s t : State} (same : SameInputs s t) (r : FireRecord) :
    revisedFloored t r = revisedFloored s r := by
  simp only [Machine.revisedFloored, same.recomputed]

/-! ## One record (R49, R50) -/

theorem exists_body_of_isNormal {r : FireRecord} (normal : r.isNormal = true) :
    ∃ n, r.body = .normal n := by
  unfold FireRecord.isNormal at normal
  split at normal
  next n body => exact ⟨n, body⟩
  all_goals cases normal

/-- The angle that the stages give a NORMAL record again. -/
def newAngle (s : State) (r : FireRecord) (n : NormalPart) : Int :=
  (revisedStages s r.valve n.inputs).alphaEff

/-- The due time of a NORMAL record with that angle. -/
def newDue (s : State) (r : FireRecord) (n : NormalPart) : Time :=
  revisedDue s r.valve n.inputs (newAngle s r n)

theorem recomputed_eq (s : State) (r : FireRecord) (n : NormalPart) : recomputed s r.valve n.inputs =
    (newDue s r n, newAngle s r n, (revisedStages s r.valve n.inputs).floored) := rfl

theorem movedInstant_eq (now : Time) (old : Option Time) (new : Time) :
    movedInstant now old new = if passed now new then none else old.map fun _ => new := by
  cases old
  · exact (ite_self none).symm
  · rfl

section
variable {s : State} {r : FireRecord} {n : NormalPart} (body : r.body = .normal n)
include body

theorem revisedFloored_of_normal :
    revisedFloored s r = (revisedStages s r.valve n.inputs).floored := by
  simp only [revisedFloored, body, recomputed_eq]

theorem revisedTooLate_of_normal : revisedTooLate s r =
    (before (newDue s r n) r.due && !atOrBefore s.placingDue (newDue s r n)) := by
  simp only [revisedTooLate, body, recomputed_eq]
  rfl

theorem revisedTo_of_normal : revisedTo s r =
    if before (newDue s r n) r.due = true ∧ revisedTooLate s r = false then
      revisedRecord s r n (newDue s r n) (newAngle s r n)
    else r := by
  rw [revisedRecord, movedInstant_eq]
  generalize late : revisedTooLate s r = tooLate
  simp only [revisedTo, late]
  simp only [body, recomputed_eq]
  rfl

/-- R49, R50: the floor is noted, and an earlier due time is taken if it can still be sent. -/
theorem reviseOne_of_normal : reviseOne s r =
    if before (newDue s r n) r.due then
      if atOrBefore s.placingDue (newDue s r n) then
        (noteFloor s (revisedStages s r.valve n.inputs)).moveRecord r
          (revisedRecord s r n (newDue s r n) (newAngle s r n))
      else (noteFloor s (revisedStages s r.valve n.inputs)).countRevisionLate
    else noteFloor s (revisedStages s r.valve n.inputs) := by
  have offered (flags : BoolSet 16) (due : Time) (alpha : Int) :
      offerRevision (s.withFlags flags) r n due alpha = if before due r.due then
        if atOrBefore s.placingDue due then
          (s.withFlags flags).moveRecord r (revisedRecord s r n due alpha)
        else (s.withFlags flags).countRevisionLate
      else s.withFlags flags := rfl
  simp only [reviseOne, body]
  rw [noteFloor_eq]
  exact offered _ _ _

end

/-- R50: a due time becomes no later. -/
theorem revisedTo_not_later (s : State) (r : FireRecord) : before r.due (revisedTo s r).due = false := by
  cases body : r.body with
  | normal n =>
    rw [revisedTo_of_normal body]
    split
    next earlier => exact before_asymm _ _ earlier.1
    next => exact before_self _
  | start | bypass | test => simp only [revisedTo, body, before_self]

/-- What the recomputation of one record leaves (R49, R50). -/
structure Recomputes (s t : State) (r : FireRecord) : Prop where
  inputs : SameInputs s t
  records : t.fsc.records = insertBy schedBefore (revisedTo s r) (s.fsc.records.erase r) ∨
    revisedTo s r = r ∧ t.fsc.records = s.fsc.records
  fsc : t.fsc = { s.fsc with records := t.fsc.records }
  fac : t.fac = { s.fac with
    revisionLate := if revisedTooLate s r then satInc s.fac.revisionLate else s.fac.revisionLate }
  floor : t.hasFlag .gammaFloor = (s.hasFlag .gammaFloor || revisedFloored s r)

theorem reviseOne_recomputes {s : State} {r : FireRecord} (normal : r.isNormal = true) :
    Recomputes s (reviseOne s r) r := by
  obtain ⟨n, body⟩ := exists_body_of_isNormal normal
  have flag : (noteFloor s (revisedStages s r.valve n.inputs)).hasFlag .gammaFloor =
      (s.hasFlag .gammaFloor || revisedFloored s r) := by
    rw [revisedFloored_of_normal body, noteFloor_hasFlag, decide_eq_true rfl, Bool.true_and]
  have target := revisedTo_of_normal (s := s) body
  have late := revisedTooLate_of_normal (s := s) body
  rw [reviseOne_of_normal body]
  rw [noteFloor_eq] at flag ⊢
  cases earlier : before (newDue s r n) r.due
  case false =>
    rw [earlier, Bool.false_and] at late
    rw [if_neg fun both => Bool.false_ne_true (earlier.symm.trans both.1)] at target
    exact ⟨⟨rfl, rfl, rfl⟩, .inr ⟨target, rfl⟩, rfl, by rw [late]; rfl, flag⟩
  case true =>
    rw [earlier, Bool.true_and] at late
    rw [earlier] at target
    cases sendable : atOrBefore s.placingDue (newDue s r n)
    case false =>
      rw [sendable] at late
      rw [late, if_neg (by decide)] at target
      exact ⟨⟨rfl, rfl, rfl⟩, .inr ⟨target, rfl⟩, rfl, by rw [late]; rfl, flag⟩
    case true =>
      rw [sendable] at late
      rw [late, if_pos (by decide)] at target
      exact ⟨⟨rfl, rfl, rfl⟩, .inl (by rw [target]; rfl), rfl, by rw [late]; rfl, flag⟩

/-! ## All records of a scope (R49) -/

/-- A counter after `k` more counts (00_scope.md, Conventions). -/
def countedUp (c : Count16) (k : Nat) : Count16 := BitVec.ofNat 16 (min 65535 (c.toNat + k))

theorem countedUp_zero (c : Count16) : countedUp c 0 = c := by
  have small := c.isLt
  refine BitVec.eq_of_toNat_eq ?_
  rw [countedUp, BitVec.toNat_ofNat]
  omega

theorem countedUp_satInc (c : Count16) (k : Nat) : countedUp (satInc c) k = countedUp c (k + 1) := by
  refine congrArg (BitVec.ofNat 16) ?_
  rw [satInc_toNat]
  omega

theorem SameInputs.trans {a b c : State} (h : SameInputs a b) (k : SameInputs b c) : SameInputs a c :=
  ⟨k.now.trans h.now, k.exm.trans h.exm, k.tbs.trans h.tbs⟩

/-- What the recomputation of the records `rs` leaves, beside the records `others`. -/
structure RecomputesAll (s t : State) (rs others : List FireRecord) : Prop where
  inputs : SameInputs s t
  records : t.fsc.records.Perm (rs.map (revisedTo s) ++ others)
  fsc : t.fsc = { s.fsc with records := t.fsc.records }
  fac : t.fac = { s.fac with
    revisionLate := countedUp s.fac.revisionLate (rs.filter (revisedTooLate s)).length }
  floor : t.hasFlag .gammaFloor = (s.hasFlag .gammaFloor || rs.any (revisedFloored s))

/-- A recomputed record is replaced by its revised form. -/
theorem Recomputes.records_perm {s t : State} {r : FireRecord} (done : Recomputes s t r)
    {others : List FireRecord} (held : s.fsc.records.Perm (r :: others)) :
    t.fsc.records.Perm (revisedTo s r :: others) := by
  rcases done.records with moved | ⟨kept, same⟩
  · rw [moved]
    have left : (s.fsc.records.erase r).Perm others := by
      have := held.erase r
      rwa [List.erase_cons_head] at this
    exact (insertBy_perm _ _ _).trans (left.cons _)
  · rw [same, kept]
    exact held

theorem foldl_reviseOne_recomputesAll (rs : List FireRecord) (s : State) (others : List FireRecord)
    (held : s.fsc.records.Perm (rs ++ others)) (normal : ∀ r ∈ rs, r.isNormal = true) :
    RecomputesAll s (rs.foldl reviseOne s) rs others := by
  induction rs generalizing s others with
  | nil =>
    have none : countedUp s.fac.revisionLate ([].filter (revisedTooLate s)).length = s.fac.revisionLate :=
      countedUp_zero _
    exact ⟨⟨rfl, rfl, rfl⟩, held, rfl, by rw [none]; rfl, (Bool.or_false _).symm⟩
  | cons r rs ih =>
    have first := reviseOne_recomputes (s := s) (normal r List.mem_cons_self)
    have inputs := first.inputs
    have later := ih (reviseOne s r) (revisedTo s r :: others)
      ((first.records_perm held).trans List.perm_middle.symm)
      fun x mem => normal x (List.mem_cons_of_mem _ mem)
    have form : revisedTo (reviseOne s r) = revisedTo s := funext inputs.revisedTo
    have tooLate : revisedTooLate (reviseOne s r) = revisedTooLate s := funext inputs.revisedTooLate
    have floored : revisedFloored (reviseOne s r) = revisedFloored s := funext inputs.revisedFloored
    refine ⟨inputs.trans later.inputs, ?_, ?_, ?_, ?_⟩
    · have records := later.records
      rw [form] at records
      exact records.trans List.perm_middle
    · rw [List.foldl_cons, later.fsc, first.fsc]
    · rw [List.foldl_cons, later.fac, first.fac, tooLate]
      cases late : revisedTooLate s r
      · rw [List.filter_cons_of_neg (by rw [late]; decide)]
        rfl
      · rw [List.filter_cons_of_pos late, List.length_cons, ← countedUp_satInc]
        rfl
    · rw [List.foldl_cons, later.floor, first.floor, floored, List.any_cons, Bool.or_assoc]

/-- The records that a revision of a scope recomputes (R49). -/
def inScope (c : Scope) (r : FireRecord) : Bool :=
  r.isNormal && decide (r.state = .planned) && c.has r.valve

theorem isNormal_of_inScope {c : Scope} {r : FireRecord} (fit : inScope c r = true) :
    r.isNormal = true :=
  (Bool.and_eq_true_iff.mp (Bool.and_eq_true_iff.mp fit).1).1

/-- A revision recomputes the records of its scope and leaves the others. -/
theorem revise_recomputesAll (s : State) (c : Scope) :
    RecomputesAll s (revise s c) (s.fsc.records.filter (inScope c))
      (s.fsc.records.filter fun r => !inScope c r) :=
  foldl_reviseOne_recomputesAll _ s _ (List.filter_append_perm _ _).symm fun _ mem =>
    isNormal_of_inScope (List.mem_filter.mp mem).2

/-- What a map changes only where `p` holds, in the two parts that `p` makes of a list. -/
theorem map_ite_perm {α : Type} (p : α → Bool) (f : α → α) (xs : List α) :
    ((xs.filter p).map f ++ xs.filter fun x => !p x).Perm (xs.map fun x => if p x then f x else x) := by
  have parts := (List.filter_append_perm p xs).map fun x => if p x then f x else x
  rw [List.map_append] at parts
  refine List.Perm.trans (.of_eq ?_) parts
  congr 1
  · exact List.map_congr_left fun x mem => (if_pos (List.mem_filter.mp mem).2).symm
  · refine (List.map_id _).symm.trans (List.map_congr_left fun x mem => ?_)
    exact (if_neg (by simpa using (List.mem_filter.mp mem).2)).symm

/-- The one record that a revision recomputes, where the others are out of its scope. -/
theorem filter_eq_singleton {l : List FireRecord} {p : FireRecord → Bool} {r : FireRecord}
    (mem : r ∈ l) (fit : p r = true) (alone : (l.erase r).any p = false) : l.filter p = [r] := by
  have parts := (List.perm_cons_erase mem).filter p
  rw [List.filter_cons_of_pos fit, List.filter_eq_nil_iff.mpr (List.any_eq_false.mp alone)] at parts
  exact List.perm_singleton.mp parts

/-- A revision raised in a state `u` that has the Fire Schedule, the calculator and the floor flag of `s`. -/
theorem revise_revises {s u : State} (c : Scope) (fsc : u.fsc = s.fsc) (fac : u.fac = s.fac)
    (flag : u.hasFlag .gammaFloor = s.hasFlag .gammaFloor) : Revises s (revise u c) c.has := by
  have all := revise_recomputesAll u c
  have form : revisedTo (revise u c) = revisedTo u := funext all.inputs.revisedTo
  have tooLate : revisedTooLate (revise u c) = revisedTooLate u := funext all.inputs.revisedTooLate
  have floored : revisedFloored (revise u c) = revisedFloored u := funext all.inputs.revisedFloored
  obtain ⟨-, records, rest, late, floor⟩ := all
  rw [fsc] at records rest
  rw [fsc, fac] at late
  rw [fsc, flag] at floor
  unfold Revises
  rw [form, tooLate]
  refine ⟨?_, fun r _ => revisedTo_not_later u r, ?_, rest, ?_, ?_⟩
  · exact records.trans (map_ite_perm (inScope c) (revisedTo u) _)
  · intro r mem fit revised alone
    have one : u.fsc.records.filter (inScope c) = [r] := by
      rw [fsc]
      exact filter_eq_singleton mem fit alone
    have revision : revise u c = reviseOne u r := by
      show (u.fsc.records.filter (inScope c)).foldl reviseOne u = _
      rw [one]
      rfl
    rw [revision, ← fsc]
    exact (reviseOne_recomputes (isNormal_of_inScope fit)).records.resolve_right
      fun kept => revised kept.1
  · rw [late, List.filter_filter]
    simp only [Bool.and_comm (revisedTooLate u _)]
    rfl
  · rw [floor, List.any_filter, ← floored]
    rfl

/-! ## A commutation failure (R125) -/

/-- The Extinction Monitor after steps 1 to 3 of R125. -/
def failedExm (x : Exm) (g : Group) (nCf : Nat) : Exm := { x with
  repeats := setAt x.repeats g (if 0 < x.recovery[g] then min 255 (x.repeats[g] + 1) else 1)
  recovery := setAt x.recovery g nCf
  cfCount := setAt x.cfCount g (satInc x.cfCount[g]) }

theorem noteFailure_eq (s : State) (g : Group) :
    noteFailure s g = (s.setExm (failedExm s.exm g s.tbs.limits.nCf)).setFlag .cfEvent := rfl

/-- A repeated commutation failure trips a group that fires (R125, R151). -/
theorem groupEvent_repeatedCf {s : State} {g : Group} (firing : firingState s.groups[g].state = true) :
    TrippedBy (groupEvent s g .repeatedCf) g .repeatedCf := by
  refine groupEvent_trippedBy (tripEvent_of_trips (c := .repeatedCf) ?_)
  rcases (firingState_iff _).mp firing with state | state <;> rw [state] <;> rfl

/-- What follows the declaration's own steps at the Extinction Monitor. -/
theorem declareFailure_after (s : State) (g : Group) :
    Only groupBlocks (noteFailure s g) (declareFailure s g) := by
  have revised : Only groupBlocks (noteFailure s g) (revise (noteFailure s g) (.group g)) :=
    (revise_only _ _).of rfl
  unfold declareFailure
  dsimp only
  split
  · exact revised.trans (groupEvent_only _ g _)
  · exact revised

theorem declareFailure_exm (s : State) (g : Group) :
    (declareFailure s g).exm = failedExm s.exm g s.tbs.limits.nCf :=
  (declareFailure_after s g).exm (by decide)

theorem declareFailure_cfEvent (s : State) (g : Group) :
    (declareFailure s g).hasFlag .cfEvent = true := by
  refine (declareFailure_after s g).clear (by decide) _ ?_
  show (noteFailure s g).hasFlag .cfEvent = true
  rw [noteFailure_eq, State.setFlag_hasFlag, decide_eq_true rfl, Bool.or_true]

theorem declareFailure_of_few {s : State} {g : Group}
    (few : (declareFailure s g).exm.repeats[g] < s.tbs.limits.cfTripCount) :
    declareFailure s g = revise (noteFailure s g) (.group g) := by
  have only := revise_only (noteFailure s g) (.group g)
  rw [declareFailure_exm] at few
  unfold declareFailure
  dsimp only
  rw [if_neg]
  rw [only.exm (by decide), only.tbs (by decide)]
  exact Nat.not_le.mpr few

theorem declareFailure_of_many {s : State} {g : Group}
    (many : s.tbs.limits.cfTripCount ≤ (declareFailure s g).exm.repeats[g]) :
    declareFailure s g = groupEvent (revise (noteFailure s g) (.group g)) g .repeatedCf := by
  have only := revise_only (noteFailure s g) (.group g)
  rw [declareFailure_exm] at many
  unfold declareFailure
  dsimp only
  rw [if_pos]
  rw [only.exm (by decide), only.tbs (by decide)]
  exact many

/-- A failure declared, for a group that fires, in a state `u` that has the groups, the tables, the Fire
Schedule, the calculator and the flags of `s`. -/
theorem declareFailure_declares {s u : State} {g : Group} (groups : u.groups = s.groups)
    (tbs : u.tbs = s.tbs) (fsc : u.fsc = s.fsc) (fac : u.fac = s.fac)
    (sticky : u.olp.sticky = s.olp.sticky) (firing : firingState s.groups[g].state = true) :
    Declares s (declareFailure u g) g u.exm := by
  have only := revise_only (noteFailure u g) (.group g)
  have floor : (noteFailure u g).hasFlag .gammaFloor = s.hasFlag .gammaFloor := by
    rw [noteFailure_eq, State.setFlag_hasFlag, decide_eq_false nofun, Bool.or_false]
    exact congrArg (fun flags : BoolSet 16 => flags[StickyFlag.bit .gammaFloor]) sticky
  refine ⟨?_, declareFailure_cfEvent u g, fun few => ?_, fun many => ?_⟩
  · rw [declareFailure_exm, tbs]
    rfl
  · rw [← tbs] at few
    rw [declareFailure_of_few few]
    exact ⟨(only.groups (by decide)).trans groups, revise_revises (.group g) fsc fac floor⟩
  · rw [← tbs] at many
    rw [declareFailure_of_many many]
    refine groupEvent_repeatedCf ?_
    rw [only.groups (by decide)]
    exact groups ▸ firing

end Sys2Proof.Machine
end

section
/-! PROOFS. A returning frame with one good slot, as far as the reports of a RUN slot, and what an extinction
report does with the pending extinction, the correction and the PLANNED records (O32). -/

namespace Sys2Proof.Machine

/-! ## A frame with one good slot (R86, R87) -/

/-- A frame of the ring alone leaves the rest of the part. -/
theorem Only.eq_setRgm {s t : State} (only : Only [.rgm] s t) : t = s.setRgm t.rgm := by
  have now := only.now (by decide)
  have pru := only.pru (by decide)
  have fac := only.fac_eq (by decide) (by decide)
  have fsc := only.fsc (by decide)
  have exm := only.exm (by decide)
  have lvm := only.lvm (by decide)
  have groups := only.groups (by decide)
  have olp := only.olp_but_sticky (by decide) (by decide) (by decide)
  have tbs := only.tbs (by decide)
  have pending := only.pending (by decide)
  rw [only.sticky (by decide)] at olp
  show (⟨t.now, t.pru, t.fac, t.fsc, t.rgm, t.exm, t.lvm, t.groups, t.olp, t.tbs, t.pending⟩ : State) = _
  rw [now, pru, fac, fsc, exm, lvm, groups, olp, tbs, pending]
  rfl

theorem noteTurning_stations (s : State) (m : Marker) (input : Port) (xs : List (RingPos × Slot)) :
    (noteTurning s m input xs).rgm.stations = s.rgm.stations := by
  unfold noteTurning
  split
  · split
    case' h_1 | h_2 => split
    all_goals rfl
  · rfl

theorem noteTurned_stations (s : State) (p : RingPos) (m : Marker) (flag : Bool) :
    (noteTurned s p m flag).rgm.stations = s.rgm.stations := by
  unfold noteTurned State.createItem
  split
  · split
    · split <;> rfl
    · rfl
  · rfl

theorem noteResync_stations (s : State) (p : RingPos) (m : Marker) :
    (noteResync s p m).rgm.stations = s.rgm.stations := by
  unfold noteResync
  split <;> rfl

theorem noteLineError_stations (s : State) (p : RingPos) (d : Half) (flag : Bool) :
    (noteLineError s p d flag).rgm.stations = s.rgm.stations := by
  cases d <;> rfl

theorem noteSlot_stations (s : State) (p : RingPos) (m : Marker) (lineError turned : Bool) :
    (noteSlot s p m lineError turned).rgm.stations = s.rgm.stations := by
  rw [noteSlot, noteResync_stations, noteTurned_stations, noteLineError_stations, markHeard,
    State.mapCycle_rgm_stations]

/-- A frame that fits the latest cycle is taken as its return (R86, Table 5-2). -/
theorem fits_of_fitsCycle {c : RingCycle} {m : Marker} {input : Port} (fit : FitsCycle c m input) :
    fits c m input = true := by
  unfold FitsCycle at fit
  split at fit
  case h_1 probe => simp [fits, probe, fit]
  case h_2 probe pattern | h_3 probe pattern | h_4 probe pattern | h_5 probe pattern =>
    simp [fits, probe, pattern, fit]
  case h_6 => cases fit

/-- A fold over elements that have no effect. -/
theorem foldl_eq_self {α β : Type} {f : β → α → β} (xs : List α)
    (still : ∀ y ∈ xs, ∀ b, f b y = b) (b : β) : xs.foldl f b = b := by
  induction xs with
  | nil => rfl
  | cons y ys ih =>
    rw [List.foldl_cons, still y List.mem_cons_self]
    exact ih fun z mem => still z (List.mem_cons_of_mem _ mem)

/-- A fold in which one element alone has an effect. -/
theorem foldl_eq_of_single {α β : Type} {f : β → α → β} {x : α} {xs : List α} (nodup : xs.Nodup)
    (mem : x ∈ xs) (others : ∀ y, y ≠ x → ∀ b, f b y = b) (b : β) : xs.foldl f b = f b x := by
  induction xs with
  | nil => cases mem
  | cons y ys ih =>
    obtain ⟨out, nodup⟩ := List.nodup_cons.mp nodup
    rw [List.foldl_cons]
    rcases List.mem_cons.mp mem with rfl | later
    · exact foldl_eq_self ys (fun z mem => others z fun same => out (same ▸ mem)) _
    · rw [others y fun same => out (same ▸ later)]
      exact ih nodup later

/-- The slot at `q` of a frame whose one slot that is not empty is that of position `p`. -/
def oneSlot (p : RingPos) (x : Slot) (q : RingPos) : Slot := if q = p then x else .empty

/-- Of such a frame the one good slot is taken. -/
theorem foldl_takeSlot_oneSlot (m : Marker) (s : State) (p : RingPos) (x : Slot) :
    ((List.finRange 24).zip ((List.finRange 24).map (oneSlot p x))).foldl (takeSlot m) s =
      takeSlot m s (p, x) := by
  have paired : (List.finRange 24).zip ((List.finRange 24).map (oneSlot p x)) =
      (List.finRange 24).map fun q => (q, oneSlot p x q) := by
    have both := List.zip_map' (l := List.finRange 24) (f := id) (g := oneSlot p x)
    rwa [List.map_id] at both
  rw [paired, List.foldl_map, foldl_eq_of_single (List.nodup_finRange 24) (List.mem_finRange p)]
  · rw [oneSlot, if_pos rfl]
  · intro q other b
    rw [oneSlot, if_neg other]
    rfl

/-- A timely intact return whose one good slot is that of position `p`: the Ring Master has noted the return,
and takes the slot. -/
theorem exec_ringFrameReturn_of_oneSlot {s : State} (n : Time) {input : Port} {bytes : List Byte}
    {c : RingCycle} {m : Marker} {p : RingPos} {row : StationRow} {lineError turned : Bool}
    {body : SlotBody} (frame : ReturnsOneSlot s input bytes c m p row lineError turned body) :
    ∃ u, Only [.rgm] (s.at n) u ∧ u.rgm.stations = s.rgm.stations ∧
      exec (.ringFrameReturn n input bytes) s =
        .next (takeSlot m u (p, .good lineError turned body)) := by
  obtain ⟨⟨slots, read, judged⟩, latest, -, fit⟩ := frame
  let placed := (List.finRange 24).zip (slots.map judgeSlot)
  let noted := (s.at n).mapCycle (noteReturn m.direction n)
  refine ⟨noteTurning noted m input placed, ?_, ?_, ?_⟩
  · exact ((s.at n).mapCycle_only _).trans (noteTurning_only _ _ _ _)
  · exact noteTurning_stations _ _ _ _
  · have taken : takeArrival (s.at n) input (readFrame bytes) =
        takeReturn (s.at n) m input (slots.map judgeSlot) := by
      rw [read]
      unfold takeArrival
      simp only [State.at_rgm, latest, if_true, fits_of_fitsCycle fit]
    refine congrArg Host.Outcome.next (taken.trans ?_)
    show placed.foldl (takeSlot m) (noteTurning noted m input placed) = _
    generalize noteTurning noted m input placed = u
    show ((List.finRange 24).zip (slots.map judgeSlot)).foldl _ _ = _
    rw [judged]
    exact foldl_takeSlot_oneSlot m u p _

/-- The good RUN slot of an ENROLLED station: the Ring Master has noted it, and its reports are taken. -/
theorem exec_ringFrameReturn_of_run {s : State} (n : Time) {input : Port} {bytes : List Byte}
    {c : RingCycle} {m : Marker} {p : RingPos} {row : StationRow} {lineError turned : Bool} {r : RunSlot}
    (frame : ReturnsOneSlot s input bytes c m p row lineError turned (.run r))
    (enrolled : s.rgm.stations[p].state = .enrolled) :
    ∃ ring, exec (.ringFrameReturn n input bytes) s =
      .next (takeReports ((s.at n).setRgm ring) row.valve m.direction r) := by
  obtain ⟨u, noted, stations, run⟩ := exec_ringFrameReturn_of_oneSlot n frame
  obtain ⟨-, -, table, -⟩ := frame
  have slot := noted.trans (noteSlot_only u p m lineError turned)
  let w := noteSlot u p m lineError turned
  let x := (w.setStation p { w.rgm.stations[p] with
    miss := 0, runStatus := some r.status, conduction := some r.conduction }).removeItem p .enrollAck
  have heard : Only [.rgm] (s.at n) x :=
    slot.trans ((w.setStation_only p _).trans (State.removeItem_only _ p _))
  have routed : takeSlot m u (p, .good lineError turned (.run r)) = takeReports x row.valve m.direction r := by
    have served : rowAt w p = some row := by
      rw [rowAt, slot.tbs (by decide)]
      exact table
    have joined : w.rgm.stations[p].state = .enrolled := by
      rw [noteSlot_stations, stations]
      exact enrolled
    show routeGood w p m.direction (.run r) = _
    simp only [routeGood, served, routeSlot, joined, if_true]
    rfl
  refine ⟨x.rgm, run.trans (congrArg Host.Outcome.next ?_)⟩
  rw [routed, ← heard.eq_setRgm]

/-! ## An on-time measurement (R120 to R122) -/

/-- The Extinction Monitor once γ of a valve is shown and its pending extinction closed (R120, R124). -/
def shownExm (x : Exm) (v : Valve) (gamma : Int) (late : Bool) : Exm := { x with
  pendings := setAt x.pendings v none
  lastGamma := setAt x.lastGamma v (some gamma)
  late := setAt x.late v late }

/-- The Extinction Monitor once an on-time γ has entered the window of the group (R120, R128). -/
def enteredExm (x : Exm) (v : Valve) (gamma : Int) : Exm := { shownExm x v gamma false with
  windows := setAt x.windows (valveGroup v) (pushLast 12 x.windows[valveGroup v] gamma) }

/-- The Extinction Monitor once the correction of the bridge has then taken a value (R121, R122). -/
def steeredExm (x : Exm) (v : Valve) (gamma c : Int) : Exm := { enteredExm x v gamma with
  correction := setAt x.correction (valveBridge v) c }

/-- No record is revised, no group's state moves, and the calculator stands. -/
def NothingRevised (s t : State) : Prop := t.fsc = s.fsc ∧ t.groups = s.groups ∧ t.fac = s.fac

/-- What an on-time measurement of γ at a valve of a group that fires makes of `s` (R120 to R122, R125). -/
structure Measures (s t : State) (v : Valve) (gamma : Int) : Prop where
  negative : gamma < 0 → Declares s t (valveGroup v) (enteredExm s.exm v gamma)
  sufficient : 0 ≤ gamma → gammaMinEff s.tbs.limits s.olp.ac ≤ gamma →
    t.exm = steeredExm s.exm v gamma
      (max 0 (s.exm.correction[valveBridge v] - s.tbs.limits.cDecay)) ∧
    NothingRevised s t ∧ t.olp = s.olp
  short : 0 ≤ gamma → gamma < gammaMinEff s.tbs.limits s.olp.ac →
    s.exm.correction[valveBridge v] ≤ s.tbs.limits.cMax →
    let new := min s.tbs.limits.cMax
      (s.exm.correction[valveBridge v] + (gammaMinEff s.tbs.limits s.olp.ac - gamma))
    t.exm = steeredExm s.exm v gamma new ∧ t.groups = s.groups ∧
      (s.exm.correction[valveBridge v] < new →
        Revises s t fun w => decide (valveBridge w = valveBridge v)) ∧
      (new ≤ s.exm.correction[valveBridge v] → NothingRevised s t)

/-- Steps 4 to 6 of R120, once the clock and the ring of `s` have moved on. -/
theorem onTimeMeasurement_of_firing (s : State) (n : Time) (ring : Rgm) (v : Valve) (gamma : Int)
    (firing : firingState s.groups[valveGroup v].state = true) :
    let entered := ((s.at n).setRgm ring).setExm (enteredExm s.exm v gamma)
    let gMin := gammaMinEff s.tbs.limits s.olp.ac
    onTimeMeasurement ((s.at n).setRgm ring) v gamma =
      if gamma < 0 then declareFailure entered (valveGroup v)
      else if gamma < gMin then raiseCorrection entered (valveBridge v) (gMin - gamma)
      else decayCorrection entered (valveBridge v) :=
  if_pos firing

/-- Outside DEBLOCKING and RUNNING γ is shown alone (R120, step 3). -/
theorem onTimeMeasurement_of_idle {s : State} {v : Valve} (gamma : Int)
    (idle : ¬ firingState s.groups[valveGroup v].state = true) :
    onTimeMeasurement s v gamma = s.setExm (shownExm s.exm v gamma false) :=
  if_neg idle

/-- A rise of the correction raises a revision of the bridge; one at C_max already stays (R121). -/
theorem raiseCorrection_raises {s u : State} {b : Bridge} {shortfall : Int} {new : Int}
    (value : min u.tbs.limits.cMax (u.exm.correction[b] + shortfall) = new)
    (fsc : u.fsc = s.fsc) (fac : u.fac = s.fac) (groups : u.groups = s.groups)
    (flag : u.hasFlag .gammaFloor = s.hasFlag .gammaFloor) (reach : u.exm.correction[b] ≤ new) :
    (raiseCorrection u b shortfall).exm = { u.exm with correction := setAt u.exm.correction b new } ∧
      (raiseCorrection u b shortfall).groups = s.groups ∧
      (u.exm.correction[b] < new →
        Revises s (raiseCorrection u b shortfall) fun w => decide (valveBridge w = b)) ∧
      (new ≤ u.exm.correction[b] → NothingRevised s (raiseCorrection u b shortfall)) := by
  by_cases rises : u.exm.correction[b] < new
  · have raised : raiseCorrection u b shortfall = revise (u.setCorrection b new) (.bridge b) := by
      subst value
      exact if_pos rises
    have only := revise_only (u.setCorrection b new) (.bridge b)
    rw [raised]
    exact ⟨only.exm (by decide), (only.groups (by decide)).trans groups,
      fun _ => revise_revises (.bridge b) fsc fac flag, fun stays => absurd rises (Int.not_lt.mpr stays)⟩
  · have kept : raiseCorrection u b shortfall = u := by
      subst value
      exact if_neg rises
    have same : u.exm.correction[b] = new := Int.le_antisymm reach (Int.not_lt.mp rises)
    rw [kept, setAt_eq_self same]
    exact ⟨rfl, groups, fun higher => absurd higher rises, fun _ => ⟨fsc, groups, fac⟩⟩

/-- A measurement taken once the clock and the ring of `s` have moved on. -/
theorem onTimeMeasurement_measures (s : State) (n : Time) (ring : Rgm) (v : Valve) (gamma : Int)
    (firing : firingState s.groups[valveGroup v].state = true) :
    Measures s (onTimeMeasurement ((s.at n).setRgm ring) v gamma) v gamma := by
  have measured := onTimeMeasurement_of_firing s n ring v gamma firing
  refine ⟨fun negative => ?_, fun positive enough => ?_, fun positive short bound => ?_⟩
  · rw [measured, if_pos negative]
    exact declareFailure_declares rfl rfl rfl rfl rfl firing
  · rw [measured, if_neg (Int.not_lt.mpr positive), if_neg (Int.not_lt.mpr enough)]
    exact ⟨rfl, ⟨rfl, rfl, rfl⟩, rfl⟩
  · have higher : s.exm.correction[valveBridge v] ≤
        s.exm.correction[valveBridge v] + (gammaMinEff s.tbs.limits s.olp.ac - gamma) := by omega
    rw [measured, if_neg (Int.not_lt.mpr positive), if_pos short]
    exact raiseCorrection_raises (s := s) rfl rfl rfl rfl rfl (le_min bound higher)

/-! ## The extinction report (R119, R124) -/

theorem extinctionReport_of_unmatched {s : State} {v : Valve} {d : Half} {q : Byte} {stamp : Time}
    (none : ∀ k, s.exm.pendings[v] = some k → k.seq ≠ q) :
    extinctionReport s v d q stamp = s.countDiscard := by
  unfold extinctionReport
  split
  · rfl
  next k held => exact if_neg (none k held)

theorem extinctionReport_of_matched {s : State} {v : Valve} {d : Half} {q : Byte} {stamp : Time}
    {k : PendingExtinction} (held : s.exm.pendings[v] = some k) (seq : k.seq = q) :
    extinctionReport s v d q stamp =
      if k.expired then lateMeasurement s v (measuredGamma s k.reversal (addTb stamp (valveDelay s v d)))
      else onTimeMeasurement s v (measuredGamma s k.reversal (addTb stamp (valveDelay s v d))) := by
  unfold extinctionReport
  rw [held]
  exact if_pos seq

theorem takeReports_of_extinction (s : State) (v : Valve) (d : Half) {r : RunSlot} {q : Byte} {stamp : Time}
    (fired : r.fired = []) (acks : r.acks = []) (extinction : r.extinction = some (q, stamp))
    (changes : r.changes = []) : takeReports s v d r = extinctionReport s v d q stamp := by
  rw [takeReports, fired, acks, extinction, changes]
  rfl

/-- Settles O32: on time in a group that fires by `onTimeMeasurement_measures`; a frame's report comes to the
Extinction Monitor once the Ring Master has noted the slot (`exec_ringFrameReturn_of_run`), and is discarded,
shown late, shown, or measured. -/
theorem measurementSteersTheCorrection : Obligations.MeasurementSteersTheCorrection := by
  intro s v g b lt gMin shown entered steered stands raised measured firing
  have firing_iff : firingState s.groups[g].state = true ↔ firing := firingState_iff _
  have measures (n : Time) (ring : Rgm) (gamma : Int) (fires : firing) :
      measured (onTimeMeasurement ((s.at n).setRgm ring) v gamma) gamma := by
    obtain ⟨negative, sufficient, short⟩ :=
      onTimeMeasurement_measures s n ring v gamma (firing_iff.mpr fires)
    exact ⟨negative, sufficient, short⟩
  refine ⟨fun fires gamma => measures s.now s.rgm gamma fires, ?_⟩
  intro n input bytes c m p row lineError turned r q stamp frame enrolled served fired acks extinction
    changes
  subst served
  obtain ⟨ring, run⟩ := exec_ringFrameReturn_of_run n frame enrolled
  rw [takeReports_of_extinction _ _ _ fired acks extinction changes] at run
  let u := (s.at n).setRgm ring
  have only := extinctionReport_only u row.valve m.direction q stamp
  refine ⟨_, run, only.now (by decide), only.pru (by decide), only.lvm (by decide), only.tbs (by decide),
    only.pending (by decide), only.olp_but_sticky (by decide) (by decide) (by decide), fun none => ?_,
    fun k held seq => ?_⟩
  · rw [extinctionReport_of_unmatched (s := u) none]
    exact ⟨rfl, rfl, rfl, rfl⟩
  · rw [extinctionReport_of_matched (s := u) held seq]
    refine ⟨fun expired => ?_, fun onTime idle => ?_, fun onTime fires => ?_⟩
    · rw [if_pos expired]
      exact ⟨rfl, rfl, rfl, rfl⟩
    · rw [if_neg (by rw [onTime]; exact Bool.false_ne_true),
        onTimeMeasurement_of_idle (s := u) _ (firing_iff.not.mpr idle)]
      exact ⟨rfl, rfl, rfl, rfl⟩
    · rw [if_neg (by rw [onTime]; exact Bool.false_ne_true)]
      exact measures n ring _ fires

end Sys2Proof.Machine
end

section
/-! PROOFS. The laws of the live records at every step: the bound per valve and the distinct sequence numbers
(O10), the one leg of a bridge and the angles between the α limits (O11). -/

namespace Sys2Proof.Machine

/-- A step changes the live records by the moves of the Fire Schedule; power-up drops them all. -/
theorem step_moves {s t : State} (run : step s = .next t) :
    Moves t.tbs.limits s.fsc.records t.fsc.records := by
  refine step_ind (R := fun s t => Moves t.tbs.limits s.fsc.records t.fsc.records)
    (fun s => .refl _) (fun c rest s t run => ?_) run
  by_cases up : c = .powerUp
  · subst up
    cases run
    exact .clear _
  · exact exec_moves c { s with pending := rest } t run up

/-- Settles O10: the moves keep the bound (`Moves.bounded`) and, within it, the distinct numbers
(`Moves.numbered`). -/
theorem stepKeepsRecordsBoundedAndNumbered : Obligations.StepKeepsRecordsBoundedAndNumbered :=
  fun _ _ run bounded => ⟨(step_moves run).bounded bounded, (step_moves run).numbered bounded⟩

/-! ## The α limits of the records (R38, R44) -/

/-- A list in which the α limits of every NORMAL record's planning are in order. -/
def LimitsOrdered (l : List FireRecord) : Prop :=
  ∀ r ∈ l, ∀ n, r.body = .normal n → n.inputs.alphaMin ≤ n.inputs.alphaMax

theorem LimitsOrdered.of_bodies {l l' : List FireRecord} (h : LimitsOrdered l)
    (e : ∀ x ∈ l', ∃ y ∈ l, x.body = y.body) : LimitsOrdered l' := by
  intro x mx n body
  obtain ⟨y, my, same⟩ := e x mx
  exact h y my n (same ▸ body)

/-- A new body for a record of the list, whether or not its number or its marks change too. -/
theorem LimitsOrdered.replaceFirst {l : List FireRecord} (h : LimitsOrdered l) {r r' : FireRecord}
    (body : r'.body = r.body) : LimitsOrdered (replaceFirst r r' l) := by
  refine h.of_bodies fun x mx => ?_
  rcases mem_replaceFirst_of mx with ⟨rfl, mem⟩ | mem
  · exact ⟨r, mem, body⟩
  · exact ⟨x, mem, rfl⟩

/-- Records planned under limits in order join records whose limits are in order. -/
theorem Moves.limitsOrdered {lt : LimitsTable} (order : lt.alphaMin ≤ lt.alphaMax)
    {l l' : List FireRecord} (m : Moves lt l l') (h : LimitsOrdered l) : LimitsOrdered l' := by
  induction m with
  | refl l => exact h
  | trans _ _ ih ih' => exact ih' (ih h)
  | drop r l => exact h.of_bodies fun x mx => ⟨x, List.mem_of_mem_erase mx, rfl⟩
  | put r r' l same => exact h.replaceFirst same.body
  | number r r' l n valve body => exact h.replaceFirst body
  | move r r' l mem rev =>
    intro x mx n body
    rcases (mem_insertBy _ _ _ _).mp mx with rfl | mx
    · obtain ⟨k, old, a, new, -⟩ := rev.normal
      rw [new] at body
      cases body
      exact h r mem k old
    · exact h x (List.mem_of_mem_erase mx) n body
  | map f l same =>
    refine h.of_bodies fun x mx => ?_
    obtain ⟨y, my, rfl⟩ := List.mem_map.mp mx
    exact ⟨y, my, (same y).body⟩
  | add r l place =>
    intro x mx n body
    rcases (mem_insertBy _ _ _ _).mp mx with rfl | mx
    · obtain ⟨lo, hi, -⟩ := place.angle n body
      rwa [lo, hi]
    · exact h x mx n body
  | clear l => exact fun x mx => nomatch mx

theorem anglesHeld_iff (s : State) :
    AnglesHeld s ↔ LimitsOrdered s.fsc.records ∧ Angled s.fsc.records := by
  constructor
  · intro held
    exact ⟨fun r live n body => (held r live n body).1.trans (held r live n body).2,
      fun r live n body _ => held r live n body⟩
  · rintro ⟨ordered, angled⟩ r live n body
    exact angled r live n body (ordered r live n body)

/-! ## The limits after a command (R173, R175, R177) -/

theorem firstBadField_cons_isNone (id : TableId) (k : Nat) (f : Field) (fs : List Field) (x : Int)
    (xs : List Int) : (firstBadField id k (f :: fs) (x :: xs)).isNone = true ↔
      fieldOk id k f x = true ∧ (firstBadField id (k + 1) fs xs).isNone = true := by
  rw [firstBadField]
  split
  · next good => simp only [good, true_and]
  · next bad => simp only [bad, Option.isNone_some, Bool.false_eq_true, false_and]

theorem fieldOk_range {id : TableId} {k : Nat} {f : Field} {x : Int} (good : fieldOk id k f x = true) :
    f.lo ≤ x ∧ x ≤ f.hi := by
  obtain ⟨low, high⟩ := Bool.and_eq_true_iff.mp (Bool.and_eq_true_iff.mp good).1
  exact ⟨of_decide_eq_true low, of_decide_eq_true high⟩

/-- α_min is at most 4500 cd and α_max at least 12000 cd (Table 11-1). -/
theorem alphaMin_le_alphaMax {lt : LimitsTable} (range : rowInRange .limits lt.toFields = true) :
    lt.alphaMin ≤ lt.alphaMax := by
  obtain ⟨first, rest⟩ := (firstBadField_cons_isNone _ _ _ _ _ _).mp range
  obtain ⟨second, -⟩ := (firstBadField_cons_isNone _ _ _ _ _ _).mp rest
  exact (fieldOk_range first).2.trans (le_trans (by decide) (fieldOk_range second).1)

/-- The Limits Table of `t` is that of `s`, or the shadow `s` held. -/
def LimitsFrom (s t : State) : Prop :=
  t.tbs.limits = s.tbs.limits ∨ s.tbs.limitsShadow = some t.tbs.limits

theorem LimitsFrom.of_tbs {s t : State} (tbs : t.tbs = s.tbs) : LimitsFrom s t := .inl (by rw [tbs])

theorem writeRow_limits (t : Tbs) (id : TableId) (row : Byte) (xs : List Int) :
    (writeRow t id row xs).limits = t.limits := by cases id <;> rfl

theorem dropShadow_limits (t : Tbs) (id : TableId) : (dropShadow t id).limits = t.limits := by
  cases id <;> rfl

theorem writeTable_limits (s : State) (table row : Byte) (bs : List Byte) :
    (writeTable s table row bs).1.tbs.limits = s.tbs.limits := by
  unfold writeTable writeKnown
  dsimp only
  split
  · rfl
  · split
    · rfl
    · split
      · split
        · rfl
        · exact writeRow_limits _ _ _ _
      · rfl

theorem discardTable_limits (s : State) (table : Byte) :
    (discardTable s table).1.tbs.limits = s.tbs.limits := by
  unfold discardTable
  split
  · rfl
  · exact dropShadow_limits _ _

theorem takeCommit_limitsFrom (s : State) (id : TableId) : LimitsFrom s (takeCommit s id) := by
  have tbs : (takeCommit s id).tbs = (noteCommit s id).tbs :=
    ((bothGroups_only _ _).tbs (by decide)).trans ((commitEffects_only _ id).tbs (by decide))
  unfold LimitsFrom
  rw [tbs]
  show (activate s.tbs id).limits = s.tbs.limits ∨ s.tbs.limitsShadow = some (activate s.tbs id).limits
  cases id with
  | limits => cases shadow : s.tbs.limitsShadow <;> simp [activate, shadow]
  | overlap | converter | station | ring => exact .inl rfl

theorem commitTable_limitsFrom (s : State) (table : Byte) : LimitsFrom s (commitTable s table).1 := by
  unfold commitTable
  split
  · exact .of_tbs rfl
  · split
    · exact .of_tbs rfl
    · split
      · exact .of_tbs rfl
      · split
        · exact .of_tbs rfl
        · exact takeCommit_limitsFrom s _

theorem request_limitsFrom {s : State} {type seq : Byte} {act : State → State × Answer}
    (acted : LimitsFrom s (act s).1) : LimitsFrom s (request s type seq act) := by
  refine request_ind (P := LimitsFrom s) (.of_tbs rfl) fun f => ?_
  unfold LimitsFrom
  rw [(enqueue_only _ f).tbs (by decide)]
  exact acted

theorem exec_limitsFrom {c : Instr} {s t : State} (run : exec c s = .next t) (up : c ≠ .powerUp) :
    LimitsFrom s t := by
  cases time : c.time? with
  | none =>
    cases c with
    | powerUp => exact absurd rfl up
    | _ => cases time
  | some n =>
    obtain ⟨u, run', only⟩ := exec_touches c s n time
    cases run.symm.trans run'
    by_cases apart : Block.tbs ∉ touches c
    · exact .of_tbs (only.tbs apart)
    · cases c with
      | tableWrite m seq table row bs =>
        cases time
        cases run
        exact request_limitsFrom (s := s.at n) (.inl (writeTable_limits _ _ _ _))
      | tableDiscard m seq table =>
        cases time
        cases run
        exact request_limitsFrom (s := s.at n) (.inl (discardTable_limits _ _))
      | tableCommit m seq table =>
        cases time
        cases run
        exact request_limitsFrom (s := s.at n) (commitTable_limitsFrom _ _)
      | powerUp => exact absurd rfl up
      | _ => simp [touches] at apart

/-- With the tables in range before a step, the α limits in force after it are in order. -/
theorem step_alphaLimits {s t : State} (run : step s = .next t) (tables : TablesInRange s) :
    t.tbs.limits.alphaMin ≤ t.tbs.limits.alphaMax := by
  refine step_ind (R := fun s t => TablesInRange s → t.tbs.limits.alphaMin ≤ t.tbs.limits.alphaMax)
    (fun s tables => ?idle) (fun c rest s t run tables => ?taken) run tables
  case idle => exact alphaMin_le_alphaMax (Bool.and_eq_true_iff.mp tables.1.1).1
  case taken =>
    obtain ⟨⟨active, -⟩, ⟨shadow, -⟩⟩ := tables
    by_cases up : c = .powerUp
    · subst up
      cases run
      show LimitsTable.defaults.alphaMin ≤ LimitsTable.defaults.alphaMax
      decide
    · rcases exec_limitsFrom run up with same | committed
      · rw [same]
        exact alphaMin_le_alphaMax (Bool.and_eq_true_iff.mp active).1
      · exact alphaMin_le_alphaMax (shadow _ committed)

/-- Settles O11: the moves keep the leg of a bridge (`Moves.oneLeg`), and with the limits in order the order of
every record's limits (`Moves.limitsOrdered`) and its angle between them (`Moves.angled`). -/
theorem stepKeepsLegsAndAngles : Obligations.StepKeepsLegsAndAngles := by
  intro s t run
  have moves := step_moves run
  refine ⟨moves.oneLeg, fun tables held => ?_⟩
  obtain ⟨ordered, angled⟩ := (anglesHeld_iff s).mp held
  exact (anglesHeld_iff t).mpr
    ⟨moves.limitsOrdered (step_alphaLimits run tables) ordered, moves.angled angled⟩

end Sys2Proof.Machine
end

section
/-! PROOFS. What the eight QUERY kinds are answered with (O45). -/

namespace Sys2Proof.Machine

/-- A QUERY that is not dropped queues its answer, built from the state as it stands (R168, R179). -/
theorem query_of_room {s : State} (room : replyCount s.olp.queue < 3) (seq : Byte)
    (answer : State → Answer) {a : Answer} (built : answer s = a) :
    query s seq answer =
      enqueue s (.reply ⟨7#8, seq, a.result, a.subject, a.detail, a.contents⟩) := by
  subst built
  exact request_of_room room 7#8 seq fun s => (s, answer s)

/-! ## TABLE_ROW (R179, log entry 24) -/

theorem tableOfCode_tableCode (id : TableId) : tableOfCode (tableCode id) = some id := by
  cases id <;> rfl

theorem rowOk_iff (id : TableId) (row : Byte) :
    rowOk id row = true ↔ 1 ≤ row.toNat ∧ row.toNat ≤ rowCount id := by
  simp [rowOk]

theorem answerTableRow_of_unknown (s : State) {table : Byte} (row selector : Byte)
    (unknown : tableOfCode table = none) :
    answerTableRow s table row selector = refuse .badTable 1#8 := by
  simp only [answerTableRow, unknown, kindTableRow]

/-- The row of a known table is checked first. -/
theorem answerTableRow_of_badRow (s : State) {id : TableId} {row : Byte} (selector : Byte)
    (outside : row = 0#8 ∨ rowCount id < row.toNat) :
    answerTableRow s (tableCode id) row selector = badIndex 1#8 row := by
  have bad : ¬ rowOk id row = true := by
    rw [rowOk_iff]
    rintro ⟨low, high⟩
    rcases outside with rfl | above
    · exact absurd low (by decide)
    · exact absurd high (Nat.not_le.mpr above)
  simp only [answerTableRow, tableOfCode_tableCode, if_neg bad, kindTableRow]

theorem answerTableRow_of_active (s : State) {id : TableId} {row : Byte} (known : rowOk id row = true) :
    answerTableRow s (tableCode id) row 0#8 =
      okWith 1#8 (rowContents id row false (activeRow s.tbs id row)) := by
  rw [answerTableRow, tableOfCode_tableCode]
  exact if_pos known

theorem answerTableRow_of_shadow (s : State) {id : TableId} {row : Byte} (known : rowOk id row = true) :
    answerTableRow s (tableCode id) row 1#8 =
      if hasShadow s.tbs id then okWith 1#8 (rowContents id row true (shadowRow s.tbs id row))
      else refuse .badTable 1#8 := by
  rw [answerTableRow, tableOfCode_tableCode]
  exact if_pos known

theorem answerTableRow_of_badSelector (s : State) {id : TableId} {row selector : Byte}
    (known : rowOk id row = true) (bad : 1 < selector.toNat) :
    answerTableRow s (tableCode id) row selector = badIndex 1#8 selector := by
  rw [answerTableRow, tableOfCode_tableCode]
  dsimp only
  rw [if_pos known]
  split
  · next zero => omega
  · next one => omega
  · rfl

/-! ## Valves and positions (R1, R79) -/

/-- The index of a valve names the valve. -/
theorem valveOfIndex_of_valve (v : Valve) : valveOfIndex (BitVec.ofNat 8 (v.val + 1)) = some v := by
  revert v
  decide

theorem valveOfIndex_of_outside {k : Byte} (outside : k = 0#8 ∨ 24 < k.toNat) :
    valveOfIndex k = none := by
  refine dif_neg fun ⟨low, high⟩ => ?_
  rcases outside with rfl | above
  · exact absurd low (by decide)
  · exact absurd high (Nat.not_le.mpr above)

/-- Settles O45: each kind is answered as its checks decide, and a QUERY with room queues the answer. -/
theorem queriesAreAnswered : Obligations.QueriesAreAnswered := by
  intro s n seq room answered
  have told {c : Instr} {answer : State → Answer} {a : Answer}
      (run : exec c s = .next (query (s.at n) seq answer)) (built : answer (s.at n) = a) :
      answered c a :=
    run.trans (congrArg Host.Outcome.next (query_of_room (s := s.at n) room seq answer built))
  refine ⟨fun id row low high => ?row,
    fun id row x outside => told rfl (answerTableRow_of_badRow _ x outside),
    fun id row x low high bad =>
      told rfl (answerTableRow_of_badSelector _ ((rowOk_iff id row).mpr ⟨low, high⟩) bad),
    fun k row x unknown => told rfl (answerTableRow_of_unknown _ row x unknown),
    fun v => ?valve, fun k outside => ?outside,
    fun k low => told rfl (if_pos low), fun k high => told rfl (if_neg (Nat.not_le.mpr high)),
    told rfl rfl, told rfl rfl, told rfl rfl⟩
  case row =>
    have known := (rowOk_iff id row).mpr ⟨low, high⟩
    have shadow := answerTableRow_of_shadow (s.at n) known
    refine ⟨told rfl (answerTableRow_of_active (s.at n) known),
      fun opened => told rfl (shadow.trans (if_pos opened)), fun none => told rfl (shadow.trans (if_neg ?_))⟩
    rw [State.at_tbs, none]
    exact Bool.false_ne_true
  case valve =>
    have named := valveOfIndex_of_valve v
    refine ⟨told rfl ?_, told rfl ?_, told rfl ?_⟩
    · rw [answerValve, named]
      rfl
    · rw [answerLevels, named]
      rfl
    · rw [answerStation, posOfNumber, named]
      rfl
  case outside =>
    have none := valveOfIndex_of_outside outside
    refine ⟨told rfl ?_, told rfl ?_, told rfl ?_⟩
    · rw [answerValve, none]
      rfl
    · rw [answerLevels, none]
      rfl
    · rw [answerStation, posOfNumber, none]
      rfl

end Sys2Proof.Machine
end

section
/-! PROOFS. A group without a NORMAL, START or BYPASS record: its decisions mark nothing, and the flags in force
in BLOCKED (R142, R143, R149). So the bypass hold timer leads to STOPPING or, with no record left, to BLOCKED
(O33). -/

namespace Sys2Proof.Machine

/-! ## Writes of one group's record -/

@[simp] theorem setAt_setAt {α : Type} {n : Nat} (v : Vector α n) (i : Fin n) (x y : α) :
    setAt (setAt v i x) i y = setAt v i y := by
  simp [setAt]

@[simp] theorem State.setGroup_setGroup (s : State) (g : Group) (a b : GroupRecord) :
    (s.setGroup g a).setGroup g b = s.setGroup g b := by
  simp only [State.setGroup, setAt_setAt]

/-- An entry read at every index gives the table. -/
theorem eq_ofFn_of_get {α : Type} {n : Nat} {v : Vector α n} {f : Fin n → α} (h : ∀ i, v[i] = f i) :
    v = Vector.ofFn f :=
  Vector.ext fun i lt => by simpa using h ⟨i, lt⟩

/-! ## Decisions of a group without such a record (R69, R73) -/

theorem groupBusy_eq_false_iff (s : State) (g : Group) : s.groupBusy g = false ↔
    ∀ r ∈ s.fsc.records, valveGroup r.valve = g → r.isTest = true := by
  simp [State.groupBusy]

/-- Of a group that is not busy no record is NORMAL, START or BYPASS. -/
theorem kinds_of_idle {s : State} {g : Group} (idle : s.groupBusy g = false) {r : FireRecord}
    (live : r ∈ s.fsc.records) (own : valveGroup r.valve = g) :
    r.isRegular = false ∧ r.isBypass = false := by
  have test := (groupBusy_eq_false_iff s g).mp idle r live own
  refine ⟨isRegular_of_isTest test, ?_⟩
  simp only [FireRecord.isTest, decide_eq_true_eq] at test
  simp [FireRecord.isBypass, test]

theorem map_markCancelled_of_idle {s : State} {g : Group} (idle : s.groupBusy g = false) (n : BitVec 32) :
    s.fsc.records.map (markCancelled g n) = s.fsc.records := by
  refine (List.map_congr_left fun r live => ?_).trans (List.map_id' _)
  refine if_neg fun marked => ?_
  simp only [Bool.and_eq_true, decide_eq_true_eq] at marked
  obtain ⟨⟨own, regular⟩, -⟩ := marked
  rw [(kinds_of_idle idle live own).1] at regular
  cases regular

theorem map_markReleased_of_idle {s : State} {g : Group} (idle : s.groupBusy g = false) (n : BitVec 32)
    (t : Time) : s.fsc.records.map (markReleased g n t) = s.fsc.records := by
  refine (List.map_congr_left fun r live => ?_).trans (List.map_id' _)
  refine if_neg fun marked => ?_
  simp only [Bool.and_eq_true, decide_eq_true_eq] at marked
  obtain ⟨⟨own, bypass⟩, -⟩ := marked
  rw [(kinds_of_idle idle live own).2] at bypass
  cases bypass

/-- A cancel decision of such a group takes a number and does nothing else (R69). -/
theorem cancelDecision_of_idle {s : State} {g : Group} (idle : s.groupBusy g = false) :
    cancelDecision s g = (takeDecision s, []) := by
  have none : (takeDecision s).fsc.records.filter (fun r =>
      decide (valveGroup r.valve = g) && r.isRegular && decide (r.state = .planned)) = [] := by
    refine List.filter_eq_nil_iff.mpr fun r live planned => ?_
    simp only [Bool.and_eq_true, decide_eq_true_eq] at planned
    obtain ⟨⟨own, regular⟩, -⟩ := planned
    rw [(kinds_of_idle idle live own).1] at regular
    cases regular
  have marked := map_markCancelled_of_idle (s := takeDecision s) idle (takeDecision s).fsc.decisionCount
  unfold cancelDecision
  dsimp only
  rw [none, marked]
  rfl

/-- A release decision keeps every record's valve and kind, so the group stays as busy as it was. -/
theorem releaseDecision_groupBusy (s : State) (g h : Group) :
    (releaseDecision s g).groupBusy h = s.groupBusy h := by
  show (s.fsc.records.map (markReleased g _ _)).any _ = s.fsc.records.any _
  rw [List.any_map]
  refine congrArg s.fsc.records.any (funext fun r => ?_)
  have same := markReleased_same g (takeDecision s).fsc.decisionCount
    ((takeDecision s).after (takeDecision s).tbs.ring.confirmTimeout) r
  show (decide (valveGroup (markReleased g _ _ r).valve = h) && !(markReleased g _ _ r).isTest) = _
  rw [same.valve, FireRecord.isTest, same.body]
  rfl

/-! ## Bypass requests for the pairs of a group (R71, R147) -/

/-- A valve of which no BYPASS record is live, in a bridge that holds none of another leg, gets its BYPASS
record, or waits for room (R71). -/
theorem bypassRequest_of_free {s : State} {v : Valve}
    (free : ∀ r ∈ s.fsc.records, r.isBypass = true → r.valve ≠ v)
    (leg : ∀ r ∈ s.fsc.records, r.isBypass = true → valveBridge r.valve = valveBridge v →
      valveLeg r.valve = valveLeg v) :
    bypassRequest s v =
      if s.hasRoom v then (s.addRecord (newBypass v s.placingDue)).setWaiting v false
      else s.setWaiting v true := by
  have unheld : s.otherLegHeld v = false := by
    refine List.any_eq_false.mpr fun r live => ?_
    simp only [Bool.and_eq_true, decide_eq_true_eq, not_and, Decidable.not_not]
    exact fun ⟨bypass, bridge⟩ => leg r live bypass bridge
  have none : ¬ ((s.recordsOf v).any fun r => r.isBypass && (decide (r.state = .dispatched) ||
      decide (r.state = .armed) || decide (r.state = .holding))) = true := by
    simp only [List.any_eq_true, not_exists, not_and, State.recordsOf, List.mem_filter,
      decide_eq_true_eq, Bool.and_eq_true]
    exact fun r live bypass => absurd live.2 (free r live.1 bypass)
  rw [bypassRequest, if_neg none, tryBypass, unheld]
  simp only [Bool.not_false, Bool.and_true]

/-- Every valve of `ws` has a BYPASS record ahead, or waits where it had no room; nothing else changes. -/
structure Requested (s t : State) (ws : List Valve) : Prop where
  rest : t = { s with fsc := { s.fsc with records := t.fsc.records, waiting := t.fsc.waiting } }
  records : t.fsc.records.Perm
    (s.fsc.records ++ (ws.filter s.hasRoom).map fun v => newBypass v s.placingDue)
  waiting : ∀ v, t.fsc.waiting[v] = if v ∈ ws then !s.hasRoom v else s.fsc.waiting[v]

theorem hasRoom_addRecord {s : State} {r : FireRecord} {v : Valve} (other : r.valve ≠ v) :
    (s.addRecord r).hasRoom v = s.hasRoom v := by
  rw [State.hasRoom, State.hasRoom, recordsOf_addRecord_length other]

/-- One request, for a valve that is free, does not touch the room of the others. -/
theorem bypassRequest_requested {s : State} {v : Valve}
    (free : ∀ r ∈ s.fsc.records, r.isBypass = true → r.valve ≠ v)
    (leg : ∀ r ∈ s.fsc.records, r.isBypass = true → valveBridge r.valve = valveBridge v →
      valveLeg r.valve = valveLeg v) :
    Requested s (bypassRequest s v) [v] ∧
      ∀ w, w ≠ v → (bypassRequest s v).hasRoom w = s.hasRoom w := by
  have written (x : Bool) (w : Valve) : (setAt s.fsc.waiting v x)[w] =
      if w ∈ [v] then x else s.fsc.waiting[w] := by
    rw [setAt_get_eq]
    simp only [List.mem_singleton, eq_comm (a := v)]
  rw [bypassRequest_of_free free leg]
  split
  · next room =>
    refine ⟨⟨rfl, ?_, fun w => ?_⟩, fun w other => ?_⟩
    · rw [List.filter_cons_of_pos room]
      exact (insertBy_perm _ _ _).trans (List.perm_append_comm (l₁ := [newBypass v s.placingDue]))
    · refine (written false w).trans ?_
      by_cases same : w ∈ [v]
      · rw [if_pos same, if_pos same, List.mem_singleton.mp same, room]
        rfl
      · rw [if_neg same, if_neg same]
    · exact hasRoom_addRecord other.symm
  · next full =>
    refine ⟨⟨rfl, ?_, fun w => ?_⟩, fun w other => rfl⟩
    · rw [List.filter_cons_of_neg full]
      exact .of_eq (List.append_nil _).symm
    · refine (written true w).trans ?_
      by_cases same : w ∈ [v]
      · rw [if_pos same, if_pos same, List.mem_singleton.mp same, Bool.eq_false_iff.mpr full]
        rfl
      · rw [if_neg same, if_neg same]

/-- The requests of different valves, one leg of each bridge, with no BYPASS record in these bridges. -/
theorem foldl_bypassRequest_requested {ws : List Valve} (nodup : ws.Nodup)
    (legs : ∀ v ∈ ws, ∀ w ∈ ws, valveBridge v = valveBridge w → valveLeg v = valveLeg w) (s : State)
    (free : ∀ w ∈ ws, ∀ r ∈ s.fsc.records, r.isBypass = true → r.valve ≠ w)
    (leg : ∀ w ∈ ws, ∀ r ∈ s.fsc.records, r.isBypass = true → valveBridge r.valve = valveBridge w →
      valveLeg r.valve = valveLeg w) : Requested s (ws.foldl bypassRequest s) ws := by
  induction ws generalizing s with
  | nil => exact ⟨rfl, .of_eq (List.append_nil _).symm, fun v => rfl⟩
  | cons v ws ih =>
    obtain ⟨out, nodup⟩ := List.nodup_cons.mp nodup
    obtain ⟨one, room⟩ := bypassRequest_requested (free v List.mem_cons_self) (leg v List.mem_cons_self)
    have due : (bypassRequest s v).placingDue = s.placingDue := by rw [one.rest]; rfl
    have live {r : FireRecord} (mem : r ∈ (bypassRequest s v).fsc.records) :
        r ∈ s.fsc.records ∨ r.valve = v := by
      rcases List.mem_append.mp (one.records.mem_iff.mp mem) with old | new
      · exact .inl old
      · obtain ⟨w, placed, rfl⟩ := List.mem_map.mp new
        exact .inr (List.mem_singleton.mp (List.mem_of_mem_filter placed))
    have rest := ih nodup (fun x mx y my => legs x (List.mem_cons_of_mem _ mx) y (List.mem_cons_of_mem _ my))
      (bypassRequest s v) ?free ?leg
    case free =>
      intro w later r mem bypass
      rcases live mem with old | rfl
      · exact free w (List.mem_cons_of_mem _ later) r old bypass
      · exact fun same => out (same ▸ later)
    case leg =>
      intro w later r mem bypass bridge
      rcases live mem with old | rfl
      · exact leg w (List.mem_cons_of_mem _ later) r old bypass bridge
      · exact legs _ List.mem_cons_self w (List.mem_cons_of_mem _ later) bridge
    have roomOf {w : Valve} (later : w ∈ ws) : (bypassRequest s v).hasRoom w = s.hasRoom w :=
      room w fun same => out (same ▸ later)
    refine ⟨?_, ?_, fun w => ?_⟩
    · rw [List.foldl_cons, rest.rest, one.rest]
    · have filtered : ws.filter (bypassRequest s v).hasRoom = ws.filter s.hasRoom :=
        List.filter_congr fun w later => roomOf later
      have perm := rest.records.trans (one.records.append_right _)
      rw [filtered, due, List.append_assoc, ← List.map_append, ← List.filter_append] at perm
      exact perm
    · rw [List.foldl_cons, rest.waiting, one.waiting]
      by_cases later : w ∈ ws
      · rw [if_pos later, if_pos (List.mem_cons_of_mem _ later), roomOf later]
      · simp only [later, if_false, List.mem_cons, List.not_mem_nil, or_false]

/-! ## The valves of the pairs (Table 1-2) -/

/-- The valves of a leg in each bridge of a group, in ascending index. -/
theorem flatMap_legValves (g : Group) (legs : Bridge → Leg) :
    ((List.finRange 2).flatMap fun side : Fin 2 =>
        legValves (groupBridge g side) (legs (groupBridge g side))) =
      (List.finRange 24).filter fun v =>
        decide (valveGroup v = g) && decide (valveLeg v = legs (valveBridge v)) := by
  have four : legs = fun b => match b with
      | 0 => legs 0
      | 1 => legs 1
      | 2 => legs 2
      | 3 => legs 3 := by
    funext b
    match b with
    | 0 | 1 | 2 | 3 => rfl
  rw [four]
  generalize legs 0 = a
  generalize legs 1 = b
  generalize legs 2 = c
  generalize legs 3 = d
  match g with
  | 0 => cases a <;> cases b <;> rfl
  | 1 => cases c <;> cases d <;> rfl

/-! ## The flags in force in BLOCKED (R143, R145, R147, R149) -/

/-- The state and the pairs that entry to BYPASSING by flags gives a group (R147, steps 1 to 3). -/
def bypassEntered (s : State) (g : Group) : State :=
  s.setGroup g { s.groups[g] with
    state := .bypassing, holdTimer := none
    pairs := Vector.ofFn fun side => some (pairOf s (groupBridge g side)) }

theorem bypassEntered_pairValves (s : State) (g : Group) :
    pairValves (takeDecision (bypassEntered s g)) g = (List.finRange 24).filter fun v =>
      decide (valveGroup v = g) && decide (valveLeg v = pairOf s (valveBridge v)) := by
  rw [← flatMap_legValves g fun b => pairOf s b]
  refine List.flatMap_congr fun side _ => ?_
  show (match (bypassEntered s g).groups[g].pairs[side] with
    | none => []
    | some leg => legValves (groupBridge g side) leg) = _
  rw [bypassEntered, State.setGroup_groups, setAt_get, ofFn_get]

theorem enterBypassing_of_idle {s : State} {g : Group} (idle : s.groupBusy g = false) :
    enterBypassing s g false = ((pairValves (takeDecision (bypassEntered s g)) g).foldl bypassRequest
      (takeDecision (bypassEntered s g)), []) := by
  have entered : ((s.setGroupState g .bypassing).setHoldTimer g none).choosePairs g =
      bypassEntered s g := by
    unfold State.choosePairs State.setHoldTimer State.setGroupState bypassEntered
    simp only [State.setGroup_setGroup, State.setGroup_groups, setAt_get]
    rfl
  show enterPattern ((s.setGroupState g .bypassing).setHoldTimer g none) g = _
  unfold enterPattern
  dsimp only
  rw [entered, cancelDecision_of_idle (s := bypassEntered s g) idle]

/-- With no NORMAL, START or BYPASS record each valve of the pairs gets its BYPASS record, or waits. -/
theorem enterBypassing_requested {s : State} {g : Group} (idle : s.groupBusy g = false) :
    Requested (takeDecision (bypassEntered s g)) (enterBypassing s g false).1
      ((List.finRange 24).filter fun v =>
        decide (valveGroup v = g) && decide (valveLeg v = pairOf s (valveBridge v))) := by
  rw [enterBypassing_of_idle idle, bypassEntered_pairValves]
  have paired {v : Valve} (mem : v ∈ (List.finRange 24).filter fun v =>
      decide (valveGroup v = g) && decide (valveLeg v = pairOf s (valveBridge v))) :
      valveGroup v = g ∧ valveLeg v = pairOf s (valveBridge v) := by
    simpa using mem
  have noBypass {w : Valve} (own : valveGroup w = g) {r : FireRecord} (live : r ∈ s.fsc.records)
      (bypass : r.isBypass = true) : valveBridge r.valve ≠ valveBridge w := by
    intro bridge
    have same : valveGroup r.valve = g := by
      rw [← own]
      simp only [valveGroup, valveBridge, Fin.mk.injEq] at bridge ⊢
      omega
    rw [(kinds_of_idle idle live same).2] at bypass
    cases bypass
  refine foldl_bypassRequest_requested ((List.nodup_finRange 24).filter _) ?_ _ ?_ ?_
  · intro v mv w mw bridge
    rw [(paired mv).2, (paired mw).2, bridge]
  · exact fun w mw r live bypass same => noBypass (paired mw).1 live bypass (same ▸ rfl)
  · exact fun w mw r live bypass bridge => absurd bridge (noBypass (paired mw).1 live bypass)

/-- Entry to DEBLOCKING out of BLOCKED (R145). -/
theorem enterDeblocking_of_blocked {s : State} {g : Group} (blocked : s.groups[g].state = .blocked) :
    enterDeblocking s g = { s with
      groups := setAt s.groups g { s.groups[g] with state := .deblocking, fired := fill 12 false }
      fac := { s.fac with
        firstFiring := setAt s.fac.firstFiring g true
        startPending := Vector.ofFn fun b => s.fac.startPending[b] ||
          decide (b = groupBridge g 0) || decide (b = groupBridge g 1) } } := by
  have pending : setAt (setAt s.fac.startPending (groupBridge g 0) true) (groupBridge g 1) true =
      Vector.ofFn fun b => s.fac.startPending[b] ||
        decide (b = groupBridge g 0) || decide (b = groupBridge g 1) := by
    refine eq_ofFn_of_get fun b => ?_
    rw [setAt_get_eq, setAt_get_eq]
    simp only [eq_comm (b := b)]
    by_cases first : b = groupBridge g 0 <;> by_cases second : b = groupBridge g 1 <;>
      simp [first, second]
  have apart : decide (s.groups[g].state = .bypassing) = false := by rw [blocked]; rfl
  rw [← pending]
  unfold enterDeblocking
  simp only [apart, Bool.false_eq_true, if_false, State.setGroupState, State.setGroup_groups,
    setAt_get, State.setGroup_setGroup]
  rfl

/-- The flags taken by a group that has become BLOCKED with no record left, whose inhibits have been evaluated;
nothing is handed back. -/
theorem applyFlags_takesFlags {s : State} {g : Group} (blocked : s.groups[g].state = .blocked)
    (idle : s.groupBusy g = false) :
    TakesFlags s (applyFlags s g).1 g ∧ (applyFlags s g).2 = [] := by
  unfold TakesFlags
  dsimp only
  cases command : commandOf s.olp.order.flags[g] with
  | bypass =>
    have flags : applyFlags s g = enterBypassing s g false := by
      simp only [applyFlags, blocked, command]
    have requested := enterBypassing_requested idle
    rw [flags]
    refine ⟨⟨?_, ?_⟩, by rw [enterBypassing_of_idle idle]⟩
    · have perm := requested.records
      rw [List.filter_filter] at perm
      refine perm.trans (.of_eq (congrArg (s.fsc.records ++ ·) (congrArg _ ?_)))
      exact List.filter_congr fun v _ => Bool.and_comm _ _
    · have waiting := eq_ofFn_of_get requested.waiting
      refine requested.rest.trans ?_
      rw [waiting]
      simp only [List.mem_filter, List.mem_finRange, true_and]
      rfl
  | deblock =>
    have flags : applyFlags s g =
        if (!BoolSet.any s.groups[g].inhibits) = true then (enterDeblocking s g, []) else (s, []) := by
      simp only [applyFlags, blocked, command]
    rw [flags]
    cases inhibited : BoolSet.any s.groups[g].inhibits
    · exact ⟨enterDeblocking_of_blocked blocked, rfl⟩
    · exact ⟨rfl, rfl⟩
  | block | none =>
    have flags : applyFlags s g = (s, []) := by
      simp only [applyFlags, blocked, command]
    rw [flags]
    exact ⟨rfl, rfl⟩

/-! ## The bypass hold timer (R148, R149) -/

theorem runEvents_nil (fuel : Nat) (s : State) : runEvents fuel [] s = s := by cases fuel <;> rfl

/-- An event of which nothing is handed back is the whole handling (R142). -/
theorem groupEvent_of_no_notice {s : State} {g : Group} {e : GroupEvent}
    (none : (handleEvent s g e).2 = []) : groupEvent s g e = (handleEvent s g e).1 := by
  rw [groupEvent, Nat.add_comm, runEvents_cons, none]
  exact runEvents_nil _ _

/-- In STOPPING no flags are acted on (Table 9-3). -/
theorem applyFlags_of_stopping {s : State} {g : Group} (h : s.groups[g].state = .stopping) :
    applyFlags s g = (s, []) := by
  simp only [applyFlags, h]

/-- The state a stop out of BYPASSING leaves at `n`, with the group in state `x` and its deblock conditions
evaluated (R73, R144, R148). -/
def bypassStopped (s : State) (n : Time) (g : Group) (x : GroupState) : State := { s with
  now := n
  groups := setAt s.groups g { s.groups[g] with
    state := x, pairs := fill 2 none, holdTimer := none, inhibits := inhibitSet s g }
  fsc := { s.fsc with
    decisionCount := s.fsc.decisionCount + 1#32
    records := s.fsc.records.map fun r =>
      if valveGroup r.valve = g ∧ r.isBypass = true ∧ r.state ≠ .releasing then
        { r with
          state := .releasing, decision := some (s.fsc.decisionCount + 1#32), firstCancel := none
          releaseAt := some (addTb n s.tbs.ring.confirmTimeout) }
      else r
    waiting := Vector.ofFn fun v => s.fsc.waiting[v] && !decide (valveGroup v = g) } }

theorem markReleased_eq (g : Group) (n : BitVec 32) (t : Time) : markReleased g n t = fun r =>
    if valveGroup r.valve = g ∧ r.isBypass = true ∧ r.state ≠ .releasing then
      { r with state := .releasing, decision := some n, firstCancel := none, releaseAt := some t }
    else r := by
  funext r
  unfold markReleased
  simp only [Bool.and_eq_true, decide_eq_true_eq, Bool.not_eq_true', decide_eq_false_iff_not,
    and_assoc]

/-- The event's own effect in BYPASSING, with the deblock conditions evaluated after it. -/
theorem evalInhibits_stopBypass (s : State) (n : Time) (g : Group) :
    evalInhibits (stopBypass ((s.at n).setHoldTimer g none) g) g =
      bypassStopped s n g (if s.groupBusy g then .stopping else .blocked) := by
  let stopping := (s.at n).setGroup g { s.groups[g] with
    state := .stopping, holdTimer := none, pairs := fill 2 none }
  have marked : ((((s.at n).setHoldTimer g none).setGroupState g .stopping).setHoldTimer g
      none).clearPairs g = stopping := by
    unfold State.clearPairs State.setHoldTimer State.setGroupState
    simp only [State.setGroup_setGroup, State.setGroup_groups, setAt_get, State.at_groups]
    rfl
  have busy : (releaseDecision stopping g).groupBusy g = s.groupBusy g :=
    releaseDecision_groupBusy stopping g g
  have released := markReleased_eq g (s.fsc.decisionCount + 1#32) (addTb n s.tbs.ring.confirmTimeout)
  have stop : stopBypass ((s.at n).setHoldTimer g none) g = checkStopped (releaseDecision stopping g) g :=
    congrArg (fun u => checkStopped (releaseDecision u g) g) marked
  rw [stop, checkStopped, busy, bypassStopped, ← released]
  cases s.groupBusy g
  all_goals
    simp only [evalInhibits, State.setGroupState, State.setGroup_setGroup, State.setGroup_groups,
      setAt_get, if_true, if_false, Bool.false_eq_true]
    simp only [releaseDecision, State.setFsc, takeDecision, stopping, State.setGroup, setAt_setAt, setAt_get]
    rfl

theorem exec_bypassHoldTimer {s : State} {n i : Time} {g : Group}
    (armed : s.groups[g].holdTimer = some i) (reached : passed n i = true) :
    exec (.bypassHoldTimer n g) s =
      .next (groupEvent ((s.at n).setHoldTimer g none) g .holdExpiry) :=
  congrArg Host.Outcome.next (takeIf_of_reached (holdTimerEvent g) armed reached)

/-- Settles O33: the group's own effect is a stop out of BYPASSING; while a record is left STOPPING acts on no
flags, and without one the flags in force in BLOCKED are taken (`applyFlags_takesFlags`). -/
theorem bypassHoldTimerExpires : Obligations.BypassHoldTimerExpires := by
  intro s n i g armed reached bypassing number stopped
  let expired := (s.at n).setHoldTimer g none
  have state : expired.groups[g].state = .bypassing := by
    simp only [expired, State.setHoldTimer, State.setGroup_groups, setAt_get]
    exact bypassing
  have own : ownEffect expired g .holdExpiry = (stopBypass expired g, []) := by
    simp only [ownEffect, state, if_true]
  have handled : handleEvent expired g .holdExpiry =
      applyFlags (bypassStopped s n g (if s.groupBusy g then .stopping else .blocked)) g := by
    rw [handleEvent_eq, own, evalInhibits_stopBypass]
    rfl
  have reads (x : GroupState) : (bypassStopped s n g x).groups[g].state = x := by
    rw [bypassStopped, setAt_get]
  refine ⟨fun busy => ?busy, fun idle => ?idle⟩
  case busy =>
    rw [busy, if_pos rfl, applyFlags_of_stopping (reads _)] at handled
    rw [exec_bypassHoldTimer armed reached, groupEvent_of_no_notice (by rw [handled]), handled]
    rfl
  case idle =>
    rw [idle, if_neg Bool.false_ne_true] at handled
    have still : (bypassStopped s n g .blocked).groupBusy g = false := by
      rw [bypassStopped, ← markReleased_eq]
      exact (releaseDecision_groupBusy (s.at n) g g).trans idle
    obtain ⟨taken, none⟩ := applyFlags_takesFlags (reads .blocked) still
    refine ⟨_, exec_bypassHoldTimer armed reached, ?_⟩
    rw [groupEvent_of_no_notice (by rw [handled]; exact none), handled]
    exact taken

end Sys2Proof.Machine
end

section
/-! PROOFS. TEST_FIRE (O47): the TEST record is placed, and what the Group Controller does with the event leaves
TEST records and the last angles alone. -/

namespace Sys2Proof.Machine

/-! ## What an event at a group leaves of a TEST record -/

theorem closeRecord_records (s : State) (r : FireRecord) (o : RecordOutcome) :
    (closeRecord s r o).fsc.records = s.fsc.records.erase r := by
  unfold closeRecord noteFired
  split <;> rfl

theorem mem_tryBypass {s : State} (v : Valve) {r : FireRecord} (live : r ∈ s.fsc.records) :
    r ∈ (tryBypass s v).fsc.records := by
  unfold tryBypass
  split
  · exact (mem_insertBy _ _ _ _).mpr (.inr live)
  · exact live

theorem mem_retryWaiting {s : State} (v : Valve) {r : FireRecord} (live : r ∈ s.fsc.records) :
    r ∈ (retryWaiting s v).fsc.records := by
  refine List.foldlRecOn _ retryOne (motive := fun t => r ∈ t.fsc.records) live fun t live w _ => ?_
  unfold retryOne
  split
  · exact mem_tryBypass w live
  · exact live

/-- The removals of a cancel decision are of NORMAL and START records (R69). -/
theorem mem_foldl_cancelPlanned {r : FireRecord} (test : r.isTest = true) (rs : List FireRecord)
    (x : State × Notices) (regular : ∀ y ∈ rs, y.isRegular = true) (live : r ∈ x.1.fsc.records) :
    r ∈ (rs.foldl cancelPlanned x).1.fsc.records := by
  induction rs generalizing x with
  | nil => exact live
  | cons y rs ih =>
    refine ih (cancelPlanned x y) (fun z later => regular z (List.mem_cons_of_mem _ later)) ?_
    refine mem_retryWaiting y.valve ?_
    rw [closeRecord_records]
    refine (List.mem_erase_of_ne ?_).mpr live
    rintro rfl
    have := regular r List.mem_cons_self
    rw [isRegular_of_isTest test] at this
    cases this

theorem markCancelled_of_test {r : FireRecord} (test : r.isTest = true) (g : Group) (n : BitVec 32) :
    markCancelled g n r = r := by
  simp [markCancelled, isRegular_of_isTest test]

theorem isBypass_of_isTest {r : FireRecord} (test : r.isTest = true) : r.isBypass = false := by
  cases body : r.body <;> simp_all [FireRecord.isTest, FireRecord.isBypass]

theorem markReleased_of_test {r : FireRecord} (test : r.isTest = true) (g : Group) (n : BitVec 32)
    (t : Time) : markReleased g n t r = r := by
  simp [markReleased, isBypass_of_isTest test]

theorem mem_cancelDecision_of_test {s : State} (g : Group) {r : FireRecord} (test : r.isTest = true)
    (live : r ∈ s.fsc.records) : r ∈ (cancelDecision s g).1.fsc.records := by
  refine mem_foldl_cancelPlanned test _ (_, []) (fun y planned => ?_) ?_
  · simp only [List.mem_filter, Bool.and_eq_true] at planned
    obtain ⟨-, ⟨-, regular⟩, -⟩ := planned
    exact regular
  · exact List.mem_map.mpr ⟨r, live, markCancelled_of_test test _ _⟩

theorem GroupSteps.keeps_test {s t : State} (steps : GroupSteps s t) {r : FireRecord}
    (test : r.isTest = true) (live : r ∈ s.fsc.records) : r ∈ t.fsc.records := by
  induction steps with
  | refl => exact live
  | tail _ step live =>
    cases step with
    | group g x => exact live
    | flag f => exact live
    | fac x => exact live
    | bypass w => exact mem_tryBypass w live
    | cancel g => exact mem_cancelDecision_of_test g test live
    | release g => exact List.mem_map.mpr ⟨r, live, markReleased_of_test test _ _ _⟩

/-! ## What an event at a group leaves of the last angles (R42, R44) -/

theorem Only.alphaLast {bs : List Block} {s t : State} (only : Only bs s t) (apart : Block.fac ∉ bs) :
    t.fac.alphaLast = s.fac.alphaLast :=
  congrArg Prod.fst (only.fac apart)

theorem enterDeblocking_alphaLast (s : State) (g : Group) :
    (enterDeblocking s g).fac.alphaLast = s.fac.alphaLast := by
  unfold enterDeblocking
  dsimp only
  split <;> rfl

/-- Entry to DEBLOCKING alone touches the calculator, and not its last angles (R145). -/
theorem applyFlags_alphaLast (s : State) (g : Group) :
    (applyFlags s g).1.fac.alphaLast = s.fac.alphaLast := by
  unfold applyFlags
  dsimp only
  split
  case h_1 | h_3 | h_4 => exact (enterBypassing_only s g false).alphaLast (by decide)
  case h_2 | h_9 =>
    split
    · exact enterDeblocking_alphaLast s g
    · rfl
  case h_5 | h_6 =>
    split
    · exact (stopDirect_only s g).alphaLast (by decide)
    · exact (enterBypassing_only s g true).alphaLast (by decide)
  case h_7 => rfl
  case h_8 =>
    split
    · exact (stopBypass_only s g).alphaLast (by decide)
    · rfl
  case h_10 => rfl

theorem handleEvent_alphaLast (s : State) (g : Group) (e : GroupEvent) :
    (handleEvent s g e).1.fac.alphaLast = s.fac.alphaLast :=
  (applyFlags_alphaLast _ g).trans ((ownEffect_only s g e).alphaLast (by decide))

theorem runEvents_alphaLast (fuel : Nat) (ns : Notices) (s : State) :
    (runEvents fuel ns s).fac.alphaLast = s.fac.alphaLast := by
  induction fuel generalizing ns s with
  | zero => rfl
  | succ fuel ih =>
    cases ns with
    | nil => rfl
    | cons e rest => exact (ih _ _).trans (handleEvent_alphaLast s e.1 e.2)

/-! ## TEST_FIRE (R74, R156) -/

/-- The four conditions of a TEST_FIRE. -/
theorem testAllowed_iff (s : State) (v : Valve) : testAllowed s v = true ↔
    s.groups[valveGroup v].state = .blocked ∧ s.tbs.limits.testEnable = true ∧
      valveEnrolled s v = true ∧ (s.recordsOf v).length < 2 := by
  simp [testAllowed, State.hasRoom, Config.recordsPerValve, and_assoc]

theorem testFire_of_valve (s : State) (v : Valve) : testFire s (BitVec.ofNat 8 (v.val + 1)) =
    if testAllowed s v then
      (groupEvent (placeTest s v) (valveGroup v) .testFire, ok kindTestFire)
    else (s, refuse .state kindTestFire) := by
  rw [testFire, valveOfIndex_of_valve]

/-- Settles O47: the record is placed, its confirm instant lying ahead, and the event that follows keeps it
(`GroupSteps.keeps_test`). -/
theorem testFirePlacesATestRecord : Obligations.TestFirePlacesATestRecord := by
  intro s n seq v room k allowed due
  have run : exec (.testFire n seq k) s = .next (request (s.at n) 8#8 seq fun s => testFire s k) := rfl
  rw [request_of_room (s := s.at n) room, testFire_of_valve] at run
  refine ⟨fun may ahead => ?placed, fun may => ?refused⟩
  case placed =>
    let test := newTest s.tbs.ring v due (angleToTb 12000 s.pru.period).toNat
    let placed := (s.at n).addRecord test
    have place : placeTest (s.at n) v = placed := placeRecord_of_ahead (r := test) rfl ahead
    have live : test ∈ placed.fsc.records := (mem_insertBy _ _ _ _).mpr (.inl rfl)
    have only := groupEvent_only placed (valveGroup v) .testFire
    rw [if_pos ((testAllowed_iff (s.at n) v).mpr may), place] at run
    exact ⟨_, run, (groupEvent_steps _ _ _).keeps_test rfl live, runEvents_alphaLast _ _ _,
      only.pru (by decide), only.rgm (by decide), only.exm (by decide), only.lvm (by decide),
      only.tbs (by decide), only.olp_but_sticky (by decide) (by decide) (by decide)⟩
  case refused =>
    rw [if_neg ((testAllowed_iff (s.at n) v).not.mpr may)] at run
    exact run

end Sys2Proof.Machine
end

section
/-! PROOFS. The lateness and hold instants of a record, and the release timeout (O28): when the last record of a
group leaves, the Group Controller adds DISPATCHED records at most. -/

namespace Sys2Proof.Machine

/-! ## Records that an event at a group without records adds -/

/-- Every live record of `t` is one of `s`, or DISPATCHED. -/
def AddsDispatched (s t : State) : Prop :=
  ∀ x ∈ t.fsc.records, x ∈ s.fsc.records ∨ x.state = .dispatched

theorem AddsDispatched.of_records {s t : State} (same : t.fsc.records = s.fsc.records) :
    AddsDispatched s t := fun _ live => .inl (same ▸ live)

theorem AddsDispatched.trans {a b c : State} (h : AddsDispatched a b) (k : AddsDispatched b c) :
    AddsDispatched a c := by
  intro x live
  rcases k x live with old | new
  · exact h x old
  · exact .inr new

theorem AddsDispatched.foldl {α : Type} (f : State → α → State) (h : ∀ s x, AddsDispatched s (f s x))
    (xs : List α) (s : State) : AddsDispatched s (xs.foldl f s) := by
  induction xs generalizing s with
  | nil => exact .of_records rfl
  | cons x xs ih => exact (h s x).trans (ih _)

theorem tryBypass_addsDispatched (s : State) (v : Valve) : AddsDispatched s (tryBypass s v) := by
  unfold tryBypass
  split
  · intro x live
    rcases (mem_insertBy _ _ _ _).mp live with rfl | old
    · exact .inr rfl
    · exact .inl old
  · exact .of_records rfl

theorem retryWaiting_addsDispatched (s : State) (v : Valve) : AddsDispatched s (retryWaiting s v) := by
  refine .foldl _ (fun s w => ?_) _ s
  unfold retryOne
  split
  · exact tryBypass_addsDispatched s w
  · exact .of_records rfl

theorem bypassRequest_addsDispatched (s : State) (v : Valve) :
    AddsDispatched s (bypassRequest s v) := by
  unfold bypassRequest
  split
  · exact .of_records rfl
  · exact tryBypass_addsDispatched s v

theorem checkStopped_records (s : State) (g : Group) :
    (checkStopped s g).fsc.records = s.fsc.records := by
  unfold checkStopped
  split <;> rfl

/-- The operation adds DISPATCHED records at most, and hands nothing back. -/
def QuietlyAdds (s : State) (x : State × Notices) : Prop := AddsDispatched s x.1 ∧ x.2 = []

section
variable {s : State} {g : Group} (idle : s.groupBusy g = false)
include idle

theorem enterBypassing_of_idle_adds (timed : Bool) : QuietlyAdds s (enterBypassing s g timed) := by
  let entered := (s.setGroupState g .bypassing).setHoldTimer g
    (if timed then some ((s.setGroupState g .bypassing).after
      (s.tbs.limits.bypassHold * Config.tbPerMs)) else none)
  have pattern : enterBypassing s g timed = enterPattern entered g := rfl
  rw [pattern, enterPattern]
  dsimp only
  rw [cancelDecision_of_idle (s := entered.choosePairs g) idle]
  exact ⟨.trans (b := takeDecision (entered.choosePairs g)) (.of_records rfl)
    (.foldl _ bypassRequest_addsDispatched _ _), rfl⟩

theorem releaseDecision_of_idle_records : (releaseDecision s g).fsc.records = s.fsc.records :=
  map_markReleased_of_idle idle _ _

theorem stopDirect_of_idle_adds : QuietlyAdds s (stopDirect s g) := by
  unfold stopDirect
  dsimp only
  rw [cancelDecision_of_idle (s := s.setGroupState g .stopping) idle]
  exact ⟨.of_records (checkStopped_records (takeDecision (s.setGroupState g .stopping)) g), rfl⟩

theorem stopBypass_of_idle_records : (stopBypass s g).fsc.records = s.fsc.records := by
  let stopping := ((s.setGroupState g .stopping).setHoldTimer g none).clearPairs g
  exact (checkStopped_records (releaseDecision stopping g) g).trans
    (releaseDecision_of_idle_records (s := stopping) idle)

theorem enterDeblocking_of_idle_records : (enterDeblocking s g).fsc.records = s.fsc.records := by
  unfold enterDeblocking
  dsimp only
  split
  · exact releaseDecision_of_idle_records
      (s := ((s.setGroupState g .deblocking).setHoldTimer g none).clearPairs g) idle
  · rfl

/-- Whatever the flags ask of a group without a NORMAL, START or BYPASS record. -/
theorem applyFlags_of_idle_adds : QuietlyAdds s (applyFlags s g) := by
  have still {t : State} (records : t.fsc.records = s.fsc.records) : QuietlyAdds s (t, []) :=
    ⟨.of_records records, rfl⟩
  unfold applyFlags
  dsimp only
  split
  case h_1 | h_3 | h_4 => exact enterBypassing_of_idle_adds idle false
  case h_2 | h_9 =>
    split
    · exact still (enterDeblocking_of_idle_records idle)
    · exact still rfl
  case h_5 | h_6 =>
    split
    · exact stopDirect_of_idle_adds idle
    · exact enterBypassing_of_idle_adds idle true
  case h_7 => exact still rfl
  case h_8 =>
    split
    · exact still (stopBypass_of_idle_records idle)
    · exact still rfl
  case h_10 => exact still rfl

/-- The records-ended notice comes when no such record is left, so what follows adds DISPATCHED records at
most (R149). -/
theorem groupEvent_recordsEnded_adds : AddsDispatched s (groupEvent s g .recordsEnded) := by
  have own : (ownEffect s g .recordsEnded).1.fsc = s.fsc ∧ (ownEffect s g .recordsEnded).2 = [] := by
    unfold ownEffect
    dsimp only
    split <;> exact ⟨rfl, rfl⟩
  let told := evalInhibits (ownEffect s g .recordsEnded).1 g
  have records : told.fsc.records = s.fsc.records := congrArg Fsc.records own.1
  have still : told.groupBusy g = false := by
    rw [State.groupBusy, records]
    exact idle
  obtain ⟨added, quiet⟩ := applyFlags_of_idle_adds still
  have none : (handleEvent s g .recordsEnded).2 = [] := by
    rw [handleEvent_eq, own.2, quiet]
    rfl
  rw [groupEvent_of_no_notice none]
  exact .trans (b := told) (.of_records records) added

end

/-! ## A BYPASS record that ends (R68, R73) -/

theorem isRegular_of_isBypass {r : FireRecord} (bypass : r.isBypass = true) : r.isRegular = false := by
  cases regular : r.isRegular
  · rfl
  · rw [isBypass_of_isRegular regular] at bypass
    cases bypass

theorem isTest_of_isBypass {r : FireRecord} (bypass : r.isBypass = true) : r.isTest = false := by
  cases test : r.isTest
  · rfl
  · rw [isBypass_of_isTest test] at bypass
    cases bypass

theorem noticesOf_of_bypass (s : State) {r : FireRecord} (o : RecordOutcome) (bypass : r.isBypass = true) :
    noticesOf s r o =
      if s.groupBusy (valveGroup r.valve) then [] else [(valveGroup r.valve, .recordsEnded)] := by
  cases busy : s.groupBusy (valveGroup r.valve) <;>
    simp [noticesOf, isRegular_of_isBypass bypass, isTest_of_isBypass bypass, busy]

theorem finish_bypass_adds (s : State) {r : FireRecord} {o : RecordOutcome} (unfired : o ≠ .fired)
    (bypass : r.isBypass = true) : AddsDispatched (closeRecord s r o) (finish s r o) := by
  rw [finish_of_unfired s r unfired, noticesOf_of_bypass _ o bypass]
  refine .trans ?_ (retryWaiting_addsDispatched _ _)
  split
  · exact .of_records rfl
  · next idle => exact groupEvent_recordsEnded_adds (Bool.eq_false_iff.mpr idle)

/-- Without the valve's one live record no record of the valve is left. -/
theorem closeRecord_none_left {s : State} {r : FireRecord} (o : RecordOutcome)
    (alone : s.recordsOf r.valve = [r]) : ∀ x ∈ (closeRecord s r o).fsc.records, x.valve ≠ r.valve := by
  intro x live same
  rw [closeRecord_records] at live
  exact List.filter_eq_nil_iff.mp (filter_erase_of_filter_eq alone) x live (decide_eq_true same)

/-- After the end of a valve's one live record, a BYPASS record, none of its records is RELEASING. -/
theorem finish_bypass_none_releasing {s : State} {r : FireRecord} {o : RecordOutcome}
    (unfired : o ≠ .fired) (bypass : r.isBypass = true) (alone : s.recordsOf r.valve = [r]) :
    ∀ x ∈ (finish s r o).fsc.records, x.valve = r.valve → x.state ≠ .releasing := by
  intro x live same releasing
  rcases finish_bypass_adds s unfired bypass x live with old | new
  · exact closeRecord_none_left o alone x old same
  · rw [releasing] at new
    cases new

theorem alpha?_of_isBypass {r : FireRecord} (bypass : r.isBypass = true) : r.alpha? = none := by
  cases body : r.body <;> simp_all [FireRecord.isBypass, FireRecord.alpha?]

theorem isNormal_of_isBypass {r : FireRecord} (bypass : r.isBypass = true) : r.isNormal = false := by
  cases body : r.body <;> simp_all [FireRecord.isBypass, FireRecord.isNormal]

/-! ## The instants (R65, R72, R73) -/

theorem latenessEvent_eq (s : State) (r : FireRecord) : latenessEvent s r = { s with
    fsc := { s.fsc with
      records := replaceFirst r { r with latenessAt := none, late := r.late || marksLate s r }
        s.fsc.records
      fireLate := if marksLate s r then satInc s.fsc.fireLate else s.fsc.fireLate } } := by
  unfold latenessEvent
  dsimp only
  split <;> rfl

/-- Settles O28: the first two instants change the record in its place; the release timeout ends it unfired, so
that of the valve just what R68 writes changes (`finish_unfired_kept`) and no record is RELEASING. -/
theorem latenessHoldAndReleaseInstants : Obligations.LatenessHoldAndReleaseInstants := by
  intro s n v r
  refine ⟨fun due => ?lateness, fun due => ?hold, fun due bypass releasing alone => ?release⟩
  case lateness =>
    cases dueRecord_valve due
    refine congrArg Host.Outcome.next ((takeInstant_of_due latenessEvent due).trans ?_)
    rw [latenessEvent_eq]
    rfl
  case hold => exact congrArg Host.Outcome.next (takeInstant_of_due holdEvent due)
  case release =>
    cases dueRecord_valve due
    let counted := (s.at n).countUnconfirmed
    have unfired : RecordOutcome.released true ≠ .fired := by decide
    have event : releaseTimeoutEvent (s.at n) r = finish counted r (.released true) :=
      if_pos releasing
    have run : exec (.releaseTimeout n r.valve) s = .next (finish counted r (.released true)) :=
      congrArg Host.Outcome.next ((takeInstant_of_due releaseTimeoutEvent due).trans event)
    have only : Only groupBlocks (s.at n) (finish counted r (.released true)) :=
      Only.trans (.of (s.at n).countUnconfirmed_only rfl) (finish_unfired_only counted r unfired)
    have kept := finish_unfired_kept (s := counted) unfired alone
    have unreleased := finish_bypass_none_releasing (s := counted) unfired bypass alone
    have firing : (finish counted r (.released true)).fsc.valves[r.valve] =
        { s.fsc.valves[r.valve] with
          lastDue := some r.due, lastAlpha := none, lastOutcome := .releasedUnconfirmed } := by
      rw [finish_unfired_firing (s := counted) unfired alone]
      simp only [writeOutcome, isTest_of_isBypass bypass, isNormal_of_isBypass bypass,
        isRegular_of_isBypass bypass, alpha?_of_isBypass bypass, lastOutcomeOf, Bool.false_and,
        Bool.false_eq_true, if_false]
      rfl
    refine ⟨_, run, kept.unconfirmed, ?_, ?_, ?_, ?_,
      fun x live same => ⟨kept.bypass x live same, unreleased x live same⟩, only.pru (by decide),
      only.rgm (by decide), only.exm (by decide), only.lvm (by decide), only.tbs (by decide),
      only.pending (by decide), only.olp_but_sticky (by decide) (by decide) (by decide)⟩
    all_goals rw [firing]

end Sys2Proof.Machine
end

section
/-! PROOFS. The reports of a RUN slot (O30): what a returning frame leaves of the ring before they are taken, the
end of a record that fired, and acknowledgements. -/

namespace Sys2Proof.Machine

/-! ## What the Ring Master keeps before it hands the reports on (R87) -/

theorem noteTurning_cycleNumber (s : State) (m : Marker) (input : Port) (xs : List (RingPos × Slot)) :
    (noteTurning s m input xs).rgm.cycleNumber = s.rgm.cycleNumber := by
  unfold noteTurning
  split
  · split
    case' h_1 | h_2 => split
    all_goals rfl
  · rfl

theorem noteSlot_cycleNumber (s : State) (p : RingPos) (m : Marker) (lineError turned : Bool) :
    (noteSlot s p m lineError turned).rgm.cycleNumber = s.rgm.cycleNumber := by
  have line (u : State) (d : Half) : (noteLineError u p d lineError).rgm.cycleNumber =
      u.rgm.cycleNumber := by cases d <;> rfl
  have turn (u : State) : (noteTurned u p m turned).rgm.cycleNumber = u.rgm.cycleNumber := by
    unfold noteTurned State.createItem
    split
    · split
      · split <;> rfl
      · rfl
    · rfl
  have resync (u : State) : (noteResync u p m).rgm.cycleNumber = u.rgm.cycleNumber := by
    unfold noteResync
    split <;> rfl
  rw [noteSlot, resync, turn, line]
  rfl

/-- The state in which the one good slot of a frame is taken. -/
theorem exec_ringFrameReturn_takes_slot {s : State} (n : Time) {input : Port} {bytes : List Byte}
    {c : RingCycle} {m : Marker} {p : RingPos} {row : StationRow} {lineError turned : Bool}
    {body : SlotBody} (frame : ReturnsOneSlot s input bytes c m p row lineError turned body) :
    ∃ placed, exec (.ringFrameReturn n input bytes) s =
      .next (takeSlot m (noteTurning ((s.at n).mapCycle (noteReturn m.direction n)) m input placed)
        (p, .good lineError turned body)) := by
  obtain ⟨⟨slots, read, judged⟩, latest, -, fit⟩ := frame
  have taken : takeArrival (s.at n) input (readFrame bytes) =
      takeReturn (s.at n) m input (slots.map judgeSlot) := by
    rw [read]
    unfold takeArrival
    simp only [State.at_rgm, latest, if_true, fits_of_fitsCycle fit]
  refine ⟨(List.finRange 24).zip (slots.map judgeSlot), congrArg Host.Outcome.next (taken.trans ?_)⟩
  rw [takeReturn, judged]
  exact foldl_takeSlot_oneSlot m _ p _

/-- The state in which the reports of a good RUN slot of an ENROLLED station are taken (R87, R98, R110). -/
def slotNoted (s : State) (p : RingPos) (m : Marker) (lineError turned : Bool) (r : RunSlot) : State :=
  let w := noteSlot s p m lineError turned
  (w.setStation p { w.rgm.stations[p] with
    miss := 0, runStatus := some r.status, conduction := some r.conduction }).removeItem p .enrollAck

theorem slotNoted_only (s : State) (p : RingPos) (m : Marker) (lineError turned : Bool) (r : RunSlot) :
    Only [.rgm] s (slotNoted s p m lineError turned r) :=
  (noteSlot_only s p m lineError turned).trans
    ((State.setStation_only _ p _).trans (State.removeItem_only _ p _))

theorem slotNoted_timing (s : State) (p : RingPos) (m : Marker) (lineError turned : Bool) (r : RunSlot)
    (q : RingPos) : (slotNoted s p m lineError turned r).rgm.stations[q].timing =
      s.rgm.stations[q].timing := by
  let w := noteSlot s p m lineError turned
  have stations : w.rgm.stations = s.rgm.stations := noteSlot_stations s p m lineError turned
  have written : (slotNoted s p m lineError turned r).rgm.stations =
      setAt w.rgm.stations p { w.rgm.stations[p] with
        miss := 0, runStatus := some r.status, conduction := some r.conduction } := rfl
  rw [written, ← stations, setAt_get_eq]
  split
  · next same => rw [same]
  · rfl

theorem takeSlot_of_run {s : State} (m : Marker) {p : RingPos} {row : StationRow}
    (lineError turned : Bool) (r : RunSlot) (served : rowAt s p = some row)
    (enrolled : s.rgm.stations[p].state = .enrolled) :
    takeSlot m s (p, .good lineError turned (.run r)) =
      takeReports (slotNoted s p m lineError turned r) row.valve m.direction r := by
  let w := noteSlot s p m lineError turned
  have table : rowAt w p = some row := by
    rw [rowAt, (noteSlot_only s p m lineError turned).tbs (by decide)]
    exact served
  have joined : w.rgm.stations[p].state = .enrolled := by
    rw [noteSlot_stations]
    exact enrolled
  show routeGood w p m.direction (.run r) = _
  simp only [routeGood, table, routeSlot, joined, if_true]
  rfl

/-- The reports of an ENROLLED station are taken once the Ring Master has noted the slot, with the cycle number
and the timing classes as they were. -/
theorem exec_ringFrameReturn_takes_reports {s : State} (n : Time) {input : Port} {bytes : List Byte}
    {c : RingCycle} {m : Marker} {p : RingPos} {row : StationRow} {lineError turned : Bool} {r : RunSlot}
    (frame : ReturnsOneSlot s input bytes c m p row lineError turned (.run r))
    (enrolled : s.rgm.stations[p].state = .enrolled) :
    ∃ ring : Rgm, ring.cycleNumber = s.rgm.cycleNumber ∧
      (∀ q : RingPos, ring.stations[q].timing = s.rgm.stations[q].timing) ∧
      exec (.ringFrameReturn n input bytes) s =
        .next (takeReports ((s.at n).setRgm ring) row.valve m.direction r) := by
  obtain ⟨placed, run⟩ := exec_ringFrameReturn_takes_slot n frame
  obtain ⟨-, -, table, -⟩ := frame
  let u := noteTurning ((s.at n).mapCycle (noteReturn m.direction n)) m input placed
  have noted : Only [.rgm] (s.at n) u := ((s.at n).mapCycle_only _).trans (noteTurning_only _ _ _ _)
  have stations : u.rgm.stations = s.rgm.stations := noteTurning_stations _ _ _ _
  have served : rowAt u p = some row := by
    rw [rowAt, noted.tbs (by decide)]
    exact table
  let x := slotNoted u p m lineError turned r
  have heard : Only [.rgm] (s.at n) x := noted.trans (slotNoted_only u p m lineError turned r)
  refine ⟨x.rgm, ?_, fun q => ?_, run.trans (congrArg Host.Outcome.next ?_)⟩
  · exact (noteSlot_cycleNumber u p m lineError turned).trans (noteTurning_cycleNumber _ m input placed)
  · rw [slotNoted_timing, stations]
  · rw [takeSlot_of_run m lineError turned r served (by rw [stations]; exact enrolled),
      ← heard.eq_setRgm]

theorem valveStamped_of_timing {s t : State} (tbs : t.tbs = s.tbs)
    (timing : ∀ q : RingPos, t.rgm.stations[q].timing = s.rgm.stations[q].timing) (v : Valve) :
    valveStamped t v = valveStamped s v := by
  have position : positionOf t v = positionOf s v := by rw [positionOf, positionOf, tbs]
  unfold valveStamped stationOf
  rw [position]
  cases positionOf s v with
  | none => rfl
  | some q => simp only [Option.map_some, timing]

theorem takeReports_of_fired (s : State) (v : Valve) (d : Half) {r : RunSlot} {x : Byte × Time}
    (fired : r.fired = [x]) (acks : r.acks = []) (extinction : r.extinction = none)
    (changes : r.changes = []) : takeReports s v d r = takeFired v d s x := by
  rw [takeReports, fired, acks, extinction, changes]
  rfl

theorem takeReports_of_ack (s : State) (v : Valve) (d : Half) {r : RunSlot} {q : Byte}
    (fired : r.fired = []) (acks : r.acks = [q]) (extinction : r.extinction = none)
    (changes : r.changes = []) : takeReports s v d r = takeAck v s.rgm.cycleNumber s q := by
  rw [takeReports, fired, acks, extinction, changes]
  rfl

theorem matchRecord_spec {s : State} {v : Valve} {q : Byte} {x : FireRecord}
    (found : matchRecord s v q = some x) : x.valve = v ∧ x.seq = some q := by
  have := List.find?_some found
  simpa using this

/-! ## What a revision and a commutation failure leave of a valve -/

theorem revisedTo_valve (s : State) (r : FireRecord) : (revisedTo s r).valve = r.valve := by
  unfold revisedTo
  split
  · dsimp only
    split <;> rfl
  · rfl

/-- A revision moves NORMAL records, so none of a valve that has BYPASS records alone (R49). -/
theorem revise_spares (v : Valve) (s : State) (c : Scope) : Spares v s (revise s c) := by
  intro only
  have all := revise_recomputesAll s c
  constructor
  case bypass =>
    intro x live same
    rcases List.mem_append.mp (all.records.mem_iff.mp live) with revised | kept
    · obtain ⟨y, inside, rfl⟩ := List.mem_map.mp revised
      obtain ⟨old, fit⟩ := List.mem_filter.mp inside
      have normal := isNormal_of_inScope fit
      rw [isNormal_of_isBypass (only y old (revisedTo_valve s y ▸ same))] at normal
      cases normal
    · exact only x (List.mem_of_mem_filter kept) same
  all_goals rw [all.fsc]

theorem revise_fscKept (s : State) (c : Scope) : FscKept s (revise s c) := by
  have all := revise_recomputesAll s c
  constructor
  case fireCount => intro v; rw [all.fsc]
  all_goals rw [all.fsc]

/-- A step that writes nothing of the Fire Schedule, then a revision at most, then steps of the groups. -/
def RevisesAtMost (s t : State) : Prop :=
  ∃ a b : State, a.fsc = s.fsc ∧ (b = a ∨ ∃ c, b = revise a c) ∧ GroupSteps b t

theorem RevisesAtMost.of_fsc {s t : State} (same : t.fsc = s.fsc) : RevisesAtMost s t :=
  ⟨t, t, same, .inl rfl, .refl⟩

theorem RevisesAtMost.spares {s t : State} (v : Valve) (h : RevisesAtMost s t) : Spares v s t := by
  obtain ⟨a, b, same, rfl | ⟨c, rfl⟩, steps⟩ := h
  · exact .trans (.of_fsc same) (steps.spares v)
  · exact .trans (.of_fsc same) (.trans (revise_spares v a c) (steps.spares v))

theorem RevisesAtMost.fscKept {s t : State} (h : RevisesAtMost s t) : FscKept s t := by
  obtain ⟨a, b, same, rfl | ⟨c, rfl⟩, steps⟩ := h
  · exact .trans (.of_fsc same) steps.fscKept
  · exact .trans (.of_fsc same) (.trans (revise_fscKept a c) steps.fscKept)

theorem declareFailure_revises (s : State) (g : Group) : RevisesAtMost s (declareFailure s g) := by
  let noted := noteFailure s g
  refine ⟨noted, revise noted (.group g), rfl, .inr ⟨_, rfl⟩, ?_⟩
  unfold declareFailure
  dsimp only
  split
  · exact groupEvent_steps _ g _
  · exact .refl

theorem deadlineEvent_revises (s : State) (v : Valve) (p : PendingExtinction) :
    RevisesAtMost s (deadlineEvent s v p) := by
  let expired := s.setPending v (some { p with expired := true })
  have failed : RevisesAtMost expired (declareFailure expired (valveGroup v)) :=
    declareFailure_revises expired _
  unfold deadlineEvent
  split
  · exact failed
  · exact .of_fsc rfl

theorem openExtinction_revises (s : State) (v : Valve) (seq : Byte) (reversal : Time) :
    RevisesAtMost s (openExtinction s v seq reversal) := by
  let p : PendingExtinction :=
    ⟨false, seq, reversal, addTb reversal s.tbs.ring.extinctionAllowance⟩
  have late : RevisesAtMost (s.setPending v (some p)) (deadlineEvent (s.setPending v (some p)) v p) :=
    deadlineEvent_revises _ v p
  rw [openExtinction]
  split
  · exact late
  · exact .of_fsc rfl

theorem openIfMeasured_revises (s : State) (r : FireRecord) (o : RecordOutcome) :
    RevisesAtMost s (openIfMeasured s r o) := by
  unfold openIfMeasured
  split
  · split
    · exact openExtinction_revises s _ _ _
    · exact .of_fsc rfl
  all_goals exact .of_fsc rfl

/-! ## The end of a record (R68) -/

/-- After a record is closed, its end writes nothing of the Fire Schedule but what a revision and the groups
do. -/
theorem finish_fscKept (s : State) (r : FireRecord) (o : RecordOutcome) :
    FscKept (closeRecord s r o) (finish s r o) :=
  (openIfMeasured_revises _ r o).fscKept.trans ((giveNotices_steps _ _).fscKept.trans
    (retryWaiting_fscKept _ _))

/-- Of the valve whose one live record ends, the end changes what steps 1 and 2 of R68 write, and nothing
after. -/
theorem finish_kept {s : State} {r : FireRecord} (o : RecordOutcome) (alone : s.recordsOf r.valve = [r]) :
    ValveKept r.valve (closeRecord s r o) (finish s r o) := by
  have rest : Spares r.valve (closeRecord s r o) (finish s r o) :=
    ((openIfMeasured_revises _ r o).spares r.valve).trans (((giveNotices_steps _ _).spares r.valve).trans
      (retryWaiting_spares r.valve _ _))
  exact rest fun x live same => absurd same (closeRecord_none_left o alone x live)

theorem closeRecord_firing (s : State) (r : FireRecord) (o : RecordOutcome) :
    (closeRecord s r o).fsc.valves[r.valve] = writeOutcome s.fsc.valves[r.valve] r o := by
  have valves : (closeRecord s r o).fsc.valves =
      setAt s.fsc.valves r.valve (writeOutcome s.fsc.valves[r.valve] r o) := by
    unfold closeRecord noteFired
    split <;> rfl
  rw [valves, setAt_get]

theorem closeRecord_timingDeviation (s : State) (r : FireRecord) (o : RecordOutcome) :
    (closeRecord s r o).fsc.timingDeviation = s.fsc.timingDeviation := by
  unfold closeRecord noteFired
  split <;> rfl

theorem closeRecord_lastFired {s : State} {r : FireRecord} (regular : r.isRegular = true) :
    (closeRecord s r .fired).fsc.lastFired[valveBridge r.valve] = some r.valve := by
  have lastFired : (closeRecord s r .fired).fsc.lastFired =
      setAt s.fsc.lastFired (valveBridge r.valve) (some r.valve) := by
    simp only [closeRecord, noteFired, regular, decide_true, Bool.and_self, if_true]
    rfl
  rw [lastFired, setAt_get]

theorem writeOutcome_of_fired (f : ValveFiring) {r : FireRecord} (regular : r.isRegular = true) :
    writeOutcome f r .fired = { f with
      lastDue := some r.due, lastAlpha := r.alpha?, lastOutcome := .fired
      misses := if r.isNormal then 0#16 else f.misses
      fireCount := f.fireCount + 1#16 } := by
  simp [writeOutcome, isTest_of_isRegular regular, regular, lastOutcomeOf, missesAfter]

/-- A cancel or a release writes no miss and no fire count (R13). -/
theorem writeOutcome_of_ended (f : ValveFiring) {r : FireRecord} {o : RecordOutcome}
    (ended : o = .cancelled false ∨ o = .released false) (kind : r.isTest = false) :
    writeOutcome f r o = { f with
      lastDue := some r.due, lastAlpha := r.alpha?, lastOutcome := lastOutcomeOf o } := by
  rcases ended with rfl | rfl <;> simp [writeOutcome, kind, missesAfter]

/-! ## A fired record at the Extinction Monitor (R68, R118) -/

/-- A record without a pending extinction to open. -/
theorem openIfMeasured_of_other (s : State) {r : FireRecord} (o : RecordOutcome)
    (other : r.isNormal = false) : openIfMeasured s r o = s := by
  unfold openIfMeasured
  split
  · next n body => simp [FireRecord.isNormal, body] at other
  all_goals rfl

/-- The pending extinction of a NORMAL record, its deadline lying ahead. -/
theorem openIfMeasured_of_normal {s : State} {r : FireRecord} {k : NormalPart}
    (body : r.body = .normal k)
    (ahead : passed s.now (addTb k.reversal s.tbs.ring.extinctionAllowance) = false) :
    openIfMeasured s r .fired = s.setPending r.valve (some ⟨false, r.seq.getD 0#8, k.reversal,
      addTb k.reversal s.tbs.ring.extinctionAllowance⟩) := by
  simp only [openIfMeasured, body, if_true, openExtinction, State.setPending_now, ahead,
    Bool.false_eq_true, if_false]

theorem openIfMeasured_of_ahead {s : State} {r : FireRecord}
    (ahead : ∀ k, r.body = .normal k →
      passed s.now (addTb k.reversal s.tbs.ring.extinctionAllowance) = false) :
    Only [.exm] s (openIfMeasured s r .fired) := by
  cases body : r.body with
  | normal k =>
    rw [openIfMeasured_of_normal body (ahead k body)]
    exact s.setPending_only _ _
  | start | bypass | test =>
    rw [openIfMeasured_of_other s _ (by simp [FireRecord.isNormal, body])]
    exact .refl _ s

/-- What follows the opening leaves the Extinction Monitor. -/
theorem finish_exm (s : State) (r : FireRecord) (o : RecordOutcome) :
    (finish s r o).exm = (openIfMeasured (closeRecord s r o) r o).exm :=
  ((retryWaiting_only _ _).exm (by decide)).trans ((giveNotices_only _ _).exm (by decide))

/-! ## The twelfth valve fired (R146) -/

/-- A group is RUNNING, and neither BLOCK nor BYPASS is its command in force. -/
structure RunsOn (s : State) (g : Group) : Prop where
  running : s.groups[g].state = .running
  noBlock : commandOf s.olp.order.flags[g] ≠ .block
  noBypass : commandOf s.olp.order.flags[g] ≠ .bypass

theorem applyFlags_of_runsOn {s : State} {g : Group} (on : RunsOn s g) : applyFlags s g = (s, []) := by
  obtain ⟨running, noBlock, noBypass⟩ := on
  unfold applyFlags
  dsimp only
  rw [running]
  cases command : commandOf s.olp.order.flags[g] with
  | block => exact absurd command noBlock
  | bypass => exact absurd command noBypass
  | deblock | none => rfl

theorem RunsOn.of_same {s t : State} {g : Group} (on : RunsOn s g)
    (groups : t.groups[g].state = s.groups[g].state) (order : t.olp.order = s.olp.order) :
    RunsOn t g :=
  ⟨groups.trans on.running, order ▸ on.noBlock, order ▸ on.noBypass⟩

/-- An event whose own effect leaves the group running on. -/
theorem groupEvent_runsOn {s u : State} {g : Group} {e : GroupEvent}
    (effect : ownEffect s g e = (u, [])) (on : RunsOn u g) : RunsOn (groupEvent s g e) g := by
  have told : RunsOn (evalInhibits u g) g := on.of_same (evalInhibits_state u g) rfl
  have handled : handleEvent s g e = (evalInhibits u g, []) := by
    rw [handleEvent_eq, effect, applyFlags_of_runsOn told]
    rfl
  rw [groupEvent_of_no_notice (by rw [handled]), handled]
  exact told

theorem addFired_runsOn {s : State} {g : Group} (v : Valve)
    (noBlock : commandOf s.olp.order.flags[g] ≠ .block)
    (noBypass : commandOf s.olp.order.flags[g] ≠ .bypass)
    (full : BoolSet.full (setAt s.groups[g].fired (placeInGroup v) true) = true) :
    RunsOn (addFired s g v) g := by
  refine ⟨?_, noBlock, noBypass⟩
  rw [addFired, State.setGroup_groups, setAt_get]
  exact if_pos full

theorem noticesOf_eq_of_regular (s : State) {r : FireRecord} (o : RecordOutcome)
    (regular : r.isRegular = true) : noticesOf s r o =
      (valveGroup r.valve, .outcome r.valve r.isNormal o) ::
        if s.groupBusy (valveGroup r.valve) then [] else [(valveGroup r.valve, .recordsEnded)] := by
  cases busy : s.groupBusy (valveGroup r.valve) <;>
    simp [noticesOf, regular, isTest_of_isRegular regular, busy]

/-- The group's twelfth valve has fired: RUNNING stands through the notices of the record. -/
theorem finish_fired_running {s : State} {r : FireRecord} (regular : r.isRegular = true)
    (ahead : ∀ k, r.body = .normal k →
      passed s.now (addTb k.reversal s.tbs.ring.extinctionAllowance) = false)
    (deblocking : s.groups[valveGroup r.valve].state = .deblocking)
    (noBlock : commandOf s.olp.order.flags[valveGroup r.valve] ≠ .block)
    (noBypass : commandOf s.olp.order.flags[valveGroup r.valve] ≠ .bypass)
    (full : BoolSet.full (setAt s.groups[valveGroup r.valve].fired (placeInGroup r.valve) true) = true) :
    (finish s r .fired).groups[valveGroup r.valve].state = .running := by
  let g := valveGroup r.valve
  let closed := closeRecord s r .fired
  let opened := openIfMeasured closed r .fired
  have only : Only [.fsc, .exm] s opened := by
    have close := closeRecord_only s r .fired
    refine Only.trans (.of close rfl) (.of (openIfMeasured_of_ahead fun k body => ?_) rfl)
    rw [close.now (by decide), close.tbs (by decide)]
    exact ahead k body
  have groups : opened.groups = s.groups := only.groups (by decide)
  have order : opened.olp.order = s.olp.order := (only.orders_stand (by decide)).1.1
  have effect : ownEffect opened g (.outcome r.valve r.isNormal .fired) =
      (addFired opened g r.valve, []) := by
    simp only [ownEffect, outcomeEvent, groups, g, deblocking]
  have first : RunsOn (groupEvent opened g (.outcome r.valve r.isNormal .fired)) g :=
    groupEvent_runsOn effect (addFired_runsOn r.valve (by rw [order]; exact noBlock)
      (by rw [order]; exact noBypass) (by rw [groups]; exact full))
  have given : RunsOn (giveNotices opened (noticesOf closed r .fired)) g := by
    rw [noticesOf_eq_of_regular closed .fired regular, giveNotices_cons]
    split
    · exact first
    · refine groupEvent_runsOn (u := groupEvent opened g (.outcome r.valve r.isNormal .fired)) ?_ first
      have stays := first.running
      simp only [ownEffect, g, stays, reduceCtorEq, if_false]
  have retry := retryWaiting_only (giveNotices opened (noticesOf closed r .fired)) r.valve
  exact (congrArg (fun x => x[g].state) (retry.groups (by decide))).trans given.running

end Sys2Proof.Machine
end

section
/-! PROOFS. Fired reports and acknowledgements at a live record (O30): the report notes its stamp, and the end of
a NORMAL, START or TEST record follows; an acknowledgement moves the record, or ends it unfired. -/

namespace Sys2Proof.Machine

/-! ## A fired report at its record (R66) -/

/-- The one element that `p` selects is replaced by one that `p` selects. -/
theorem filter_replaceFirst_of_alone {α : Type} [DecidableEq α] {p : α → Bool} {x y : α} {xs : List α}
    (alone : xs.filter p = [x]) (holds : p y = true) : (replaceFirst x y xs).filter p = [y] := by
  induction xs with
  | nil => cases alone
  | cons z zs ih =>
    rw [replaceFirst]
    by_cases selected : p z = true
    · rw [List.filter_cons_of_pos selected] at alone
      obtain ⟨rfl, rest⟩ := List.cons.inj alone
      rw [if_pos rfl, List.filter_cons_of_pos holds, rest]
    · rw [List.filter_cons_of_neg selected] at alone
      have other : z ≠ x := by
        rintro rfl
        exact selected (List.mem_filter.mp (alone ▸ List.mem_singleton_self z)).2
      rw [if_neg other, List.filter_cons_of_neg selected]
      exact ih alone

/-- The record with the stamp of its fired report. -/
def withStamp (x : FireRecord) (stamp : Time) : FireRecord := { x with firedStamp := some stamp }

/-- The report noted, and the record not yet ended. -/
def fireReported (s : State) (x : FireRecord) (stamp : Time) : State :=
  { s with fsc := { s.fsc with
      records := replaceFirst x (withStamp x stamp) s.fsc.records
      timingDeviation := if deviates s x stamp then satInc s.fsc.timingDeviation
        else s.fsc.timingDeviation } }

theorem firedEvent_eq (s : State) (x : FireRecord) (stamp : Time) : firedEvent s x stamp =
    if x.isBypass then fireReported s x stamp
    else finish (fireReported s x stamp) (withStamp x stamp) .fired := by
  have noted : (if deviates s x stamp then s.countTimingDeviation else s).putRecord x
      (withStamp x stamp) = fireReported s x stamp := by
    unfold fireReported
    split <;> rfl
  rw [← noted]
  rfl

theorem fireReported_recordsOf {s : State} {x : FireRecord} (stamp : Time)
    (alone : s.recordsOf x.valve = [x]) :
    (fireReported s x stamp).recordsOf (withStamp x stamp).valve = [withStamp x stamp] :=
  filter_replaceFirst_of_alone alone (decide_eq_true rfl)

/-- The deviation is counted as the report is taken, and nothing that follows changes the count. -/
theorem firedEvent_timingDeviation (s : State) (x : FireRecord) (stamp : Time) :
    (firedEvent s x stamp).fsc.timingDeviation =
      if deviates s x stamp then satInc s.fsc.timingDeviation else s.fsc.timingDeviation := by
  rw [firedEvent_eq]
  split
  · rfl
  · rw [(finish_fscKept _ _ _).timingDeviation, closeRecord_timingDeviation]
    rfl

theorem takeFired_of_none {s : State} {v : Valve} {q : Byte} (d : Half) (stamp : Time)
    (none : matchRecord s v q = none) : takeFired v d s (q, stamp) = s := by
  rw [takeFired, none]

theorem takeFired_of_some {s : State} {v : Valve} {q : Byte} {x : FireRecord} (d : Half) (stamp : Time)
    (found : matchRecord s v q = some x) :
    takeFired v d s (q, stamp) = firedEvent s x (addTb stamp (valveDelay s v d)) := by
  rw [takeFired, found]

/-! ## The end of a record that fired (R68) -/

section
variable {s : State} {r : FireRecord}

theorem finish_fired_firing (regular : r.isRegular = true) (alone : s.recordsOf r.valve = [r]) :
    (finish s r .fired).fsc.valves[r.valve] = { s.fsc.valves[r.valve] with
      lastDue := some r.due, lastAlpha := r.alpha?, lastOutcome := .fired
      misses := if r.isNormal then 0#16 else s.fsc.valves[r.valve].misses
      fireCount := s.fsc.valves[r.valve].fireCount + 1#16 } := by
  rw [(finish_kept .fired alone).firing, closeRecord_firing, writeOutcome_of_fired _ regular]

theorem finish_fired_lastFired (regular : r.isRegular = true) :
    (finish s r .fired).fsc.lastFired[valveBridge r.valve] = some r.valve := by
  rw [(finish_fscKept s r .fired).lastFired, closeRecord_lastFired regular]

theorem finish_fired_exm_of_other (other : r.isNormal = false) :
    (finish s r .fired).exm = s.exm := by
  rw [finish_exm, openIfMeasured_of_other _ _ other]
  exact (closeRecord_only s r .fired).exm (by decide)

theorem finish_fired_exm_of_normal {k : NormalPart} (body : r.body = .normal k)
    (ahead : passed s.now (addTb k.reversal s.tbs.ring.extinctionAllowance) = false) :
    (finish s r .fired).exm = { s.exm with pendings := setAt s.exm.pendings r.valve (some
      ⟨false, r.seq.getD 0#8, k.reversal, addTb k.reversal s.tbs.ring.extinctionAllowance⟩) } := by
  have close := closeRecord_only s r .fired
  have now := close.now (by decide)
  have tbs := close.tbs (by decide)
  rw [finish_exm, openIfMeasured_of_normal body (by rw [now, tbs]; exact ahead), tbs,
    ← close.exm (by decide)]
  rfl

theorem isNormal_of_isTest (test : r.isTest = true) : r.isNormal = false := by
  cases body : r.body <;> simp_all [FireRecord.isNormal, FireRecord.isTest]

/-- A fired TEST record has no extinction to open, and nothing for the Group Controller (R68, R74). -/
theorem finish_fired_test_only (test : r.isTest = true) : Only [.fsc] s (finish s r .fired) := by
  have quiet : noticesOf (closeRecord s r .fired) r .fired = [] := by
    simp [noticesOf, isRegular_of_isTest test, test]
  rw [finish, openIfMeasured_of_other _ _ (isNormal_of_isTest test), quiet]
  exact (closeRecord_only s r .fired).trans (retryWaiting_only _ _)

theorem finish_test_firing (test : r.isTest = true) (alone : s.recordsOf r.valve = [r]) :
    (finish s r .fired).fsc.valves[r.valve] =
      { s.fsc.valves[r.valve] with testOutcome := .fired } := by
  rw [(finish_kept .fired alone).firing, closeRecord_firing]
  simp [writeOutcome, test, testOutcomeOf]

/-! ## The end that an acknowledgement confirms (R70, R73) -/

/-- The outcome with which an acknowledgement ends a record. -/
def endingOf : RecordState → Option RecordOutcome
  | .cancelling => some (.cancelled false)
  | .releasing => some (.released false)
  | _ => none

theorem endingOf_spec {x : RecordState} {o : RecordOutcome} (ending : endingOf x = some o) :
    o = .cancelled false ∨ o = .released false := by
  cases x <;> cases ending
  · exact .inl rfl
  · exact .inr rfl

theorem endingOf_unfired {x : RecordState} {o : RecordOutcome} (ending : endingOf x = some o) :
    o ≠ .fired := by
  rcases endingOf_spec ending with rfl | rfl <;> exact nofun

theorem exists_endingOf {x : RecordState} (ends : x = .cancelling ∨ x = .releasing) :
    ∃ o, endingOf x = some o := by
  rcases ends with rfl | rfl <;> exact ⟨_, rfl⟩

theorem finish_ending_firing {o : RecordOutcome} (ending : endingOf r.state = some o)
    (alone : s.recordsOf r.valve = [r]) (kind : r.isTest = false) :
    (finish s r o).fsc.valves[r.valve] = { s.fsc.valves[r.valve] with
      lastDue := some r.due, lastAlpha := r.alpha?, lastOutcome := lastOutcomeOf o } := by
  rw [finish_unfired_firing (endingOf_unfired ending) alone,
    writeOutcome_of_ended _ (endingOf_spec ending) kind]

theorem ackEvent_of_ending {n : BitVec 16} {o : RecordOutcome} (ending : endingOf r.state = some o) :
    ackEvent s r n = if afterFirstCancel r n then finish s r o else s := by
  unfold ackEvent
  cases state : r.state <;> rw [state] at ending <;> cases ending <;> rfl

theorem ackEvent_of_dispatched (n : BitVec 16) (state : r.state = .dispatched) :
    ackEvent s r n = s.putRecord r { r with
      state := if r.isBypass && passed s.now r.due then .holding else .armed } := by
  rw [ackEvent, state]

theorem ackEvent_of_armed (n : BitVec 16) (state : r.state = .armed ∨ r.state = .holding) :
    ackEvent s r n = s := by
  rcases state with state | state <;> rw [ackEvent, state]

theorem ackEvent_exm (s : State) (r : FireRecord) (n : BitVec 16) : (ackEvent s r n).exm = s.exm := by
  have finished {o : RecordOutcome} (unfired : o ≠ .fired) : (finish s r o).exm = s.exm :=
    (finish_unfired_only s r unfired).exm (by decide)
  unfold ackEvent
  split
  case h_2 | h_3 =>
    split
    · exact finished nofun
    · rfl
  all_goals rfl

end

theorem afterFirstCancel_iff (r : FireRecord) (n : BitVec 16) :
    afterFirstCancel r n = true ↔ ∃ k, r.firstCancel = some k ∧ (n - k).toNat ≤ 32767 := by
  unfold afterFirstCancel
  cases r.firstCancel <;> simp

theorem takeAck_of_none {s : State} {v : Valve} {q : Byte} (n : BitVec 16)
    (none : matchRecord s v q = none) : takeAck v n s q = s := by
  rw [takeAck, none]

theorem takeAck_of_some {s : State} {v : Valve} {q : Byte} {x : FireRecord} (n : BitVec 16)
    (found : matchRecord s v q = some x) : takeAck v n s q = ackEvent s x n := by
  rw [takeAck, found]

/-- An acknowledgement ends no record FIRED, so it opens no pending extinction. -/
theorem takeAck_exm (v : Valve) (n : BitVec 16) (s : State) (q : Byte) : (takeAck v n s q).exm = s.exm := by
  unfold takeAck
  split
  · rfl
  · exact ackEvent_exm s _ n

/-- Settles O30: the reports are taken in a state that differs from `s` in the Ring Master and the time alone,
and there a report is one event of the record it matches. -/
theorem stationReportsActOnRecords : Obligations.StationReportsActOnRecords := by
  intro s n input bytes c m p row lineError turned r q stamp frame enrolled noExtinction noChanges
  obtain ⟨ring, cycle, timing, run⟩ := exec_ringFrameReturn_takes_reports n frame enrolled
  obtain ⟨valve⟩ := row
  intro v g old fired others
  let u := (s.at n).setRgm ring
  have others_of {t : State} (only : Only firingBlocks u t) : others t :=
    ⟨only.pru (by decide), only.lvm (by decide), only.tbs (by decide), only.pending (by decide),
      only.olp_but_sticky (by decide) (by decide) (by decide)⟩
  refine ⟨fun one noAck => ⟨_, run.trans (congrArg Host.Outcome.next
      (takeReports_of_fired u v m.direction one noAck noExtinction noChanges)),
      others_of (takeFired_only v _ u _), fun unmatched => ?discarded, fun x found => ?fired⟩,
    fun noFired one => ⟨_, run.trans (congrArg Host.Outcome.next
      (takeReports_of_ack u v m.direction noFired one noExtinction noChanges)),
      others_of (takeAck_only v _ u q), ?exm, fun unmatched => ?unacknowledged, fun x found => ?acked⟩⟩
  case discarded =>
    rw [takeFired_of_none _ _ (s := u) unmatched]
    exact ⟨rfl, rfl, rfl⟩
  case unacknowledged =>
    rw [takeAck_of_none _ (s := u) unmatched]
    exact ⟨rfl, rfl⟩
  case exm => exact takeAck_exm v _ u q
  case fired =>
    obtain ⟨own, seq⟩ := matchRecord_spec found
    have own : x.valve = valve := own
    subst own
    let w := fireReported u x fired
    let y := withStamp x fired
    have ends (kind : x.isBypass = false) : firedEvent u x fired = finish w y .fired := by
      rw [firedEvent_eq, kind]
      rfl
    have event : takeFired x.valve m.direction u (q, stamp) = firedEvent u x fired :=
      takeFired_of_some m.direction stamp found
    rw [event]
    refine ⟨?deviation, fun bypass => ?bypass, fun test alone => ?test, fun regular alone => ?regular⟩
    case deviation =>
      have stamped : valveStamped u x.valve = valveStamped s x.valve :=
        valveStamped_of_timing (s := s) (t := u) rfl timing x.valve
      rw [firedEvent_timingDeviation]
      simp only [deviates, stamped, Bool.and_eq_true, decide_eq_true_eq]
      rfl
    case bypass =>
      have noted : firedEvent u x fired = w := by rw [firedEvent_eq, if_pos bypass]
      rw [noted]
      exact ⟨rfl, rfl, rfl, rfl⟩
    case test =>
      have alone := fireReported_recordsOf (s := u) fired alone
      have only : Only [.fsc] w (finish w y .fired) := finish_fired_test_only test
      rw [ends (isBypass_of_isTest test)]
      exact ⟨only.exm (by decide), only.groups (by decide), finish_test_firing test alone,
        (finish_kept .fired alone).bypass⟩
    case regular =>
      have alone := fireReported_recordsOf (s := u) fired alone
      rw [ends (isBypass_of_isRegular regular)]
      refine ⟨finish_fired_firing regular alone, finish_fired_lastFired regular,
        (finish_kept .fired alone).bypass, fun start => ?_, fun k body ahead => ?_,
        finish_fired_running (s := w) (r := y) regular⟩
      · exact finish_fired_exm_of_other (s := w) (r := y) (by simp [FireRecord.isNormal, y, withStamp, start])
      · have opened := finish_fired_exm_of_normal (s := w) (r := y) body ahead
        have number : y.seq.getD 0#8 = q := congrArg (Option.getD · 0#8) seq
        rw [number] at opened
        exact opened
  case acked =>
    obtain ⟨own, seq⟩ := matchRecord_spec found
    have own : x.valve = valve := own
    subst own
    have number : u.rgm.cycleNumber = s.rgm.cycleNumber := cycle
    rw [takeAck_of_some (s := u) _ found, number]
    refine ⟨fun state => ?dispatched, fun state => ?standing, fun state early => ?early,
      fun k first reached alone kind => ?ends⟩
    case dispatched =>
      rw [ackEvent_of_dispatched _ state]
      refine ⟨rfl, ?_⟩
      simp only [← Bool.and_eq_true]
      rfl
    case standing =>
      rw [ackEvent_of_armed _ state]
      exact ⟨rfl, rfl⟩
    case early =>
      have before : afterFirstCancel x s.rgm.cycleNumber = false := by
        rw [← Bool.not_eq_true, afterFirstCancel_iff]
        rintro ⟨k, first, reached⟩
        exact absurd (early k first) (Nat.not_lt.mpr reached)
      obtain ⟨o, ending⟩ := exists_endingOf state
      rw [ackEvent_of_ending ending, before]
      exact ⟨rfl, rfl⟩
    case ends =>
      have after : afterFirstCancel x s.rgm.cycleNumber = true :=
        (afterFirstCancel_iff _ _).mpr ⟨k, first, reached⟩
      have ended {o : RecordOutcome} (ending : endingOf x.state = some o) :
          ackEvent u x s.rgm.cycleNumber = finish u x o := by
        rw [ackEvent_of_ending ending, if_pos after]
      have firing {o : RecordOutcome} (ending : endingOf x.state = some o) :
          (ackEvent u x s.rgm.cycleNumber).fsc.valves[x.valve] = { old with
            lastDue := some x.due, lastAlpha := x.alpha?, lastOutcome := lastOutcomeOf o } := by
        rw [ended ending]
        exact finish_ending_firing (s := u) ending alone kind
      refine ⟨fun state => firing (o := .cancelled false) (by rw [state]; rfl),
        fun state => firing (o := .released false) (by rw [state]; rfl), fun state => ?_,
        fun bypass state => ?_⟩
      · obtain ⟨o, ending⟩ := exists_endingOf state
        have kept := finish_unfired_kept (s := u) (endingOf_unfired ending) alone
        rw [ended ending]
        exact ⟨kept.lastFired, kept.unconfirmed, kept.bypass⟩
      · rw [ended (o := .released false) (by rw [state]; rfl)]
        exact finish_bypass_none_releasing (s := u) nofun bypass alone

end Sys2Proof.Machine
end

section
/-! PROOFS. The Ring Master at power-up (O18), and frames that are discarded (O54). -/

namespace Sys2Proof.Machine

/-- Settles O18, part by part of the tables that hold one entry per position. -/
theorem powerUpAtTheRingMaster : Obligations.PowerUpAtTheRingMaster := by
  intro s
  refine ⟨_, rfl, rfl, rfl, rfl, rfl, rfl, rfl, rfl, rfl, rfl, rfl, rfl, fun p => ?stations,
    rfl, rfl, rfl, fun p => ?lineErrors, rfl, rfl, rfl, rfl, rfl, rfl⟩
  case stations => simp only [State.reset, Rgm.reset, Station.reset, fill_get, and_self]
  case lineErrors => simp only [State.reset, Rgm.reset, fill_get, and_self]

/-! ## Frames that are discarded (R86) -/

theorem exec_ringFrameReturn (n : Time) (input : Port) (bytes : List Byte) (s : State) :
    exec (.ringFrameReturn n input bytes) s = .next (takeArrival (s.at n) input (readFrame bytes)) := rfl

theorem fitsCycle_of_fits {c : RingCycle} {m : Marker} {input : Port} (fit : fits c m input = true) :
    FitsCycle c m input := by
  unfold fits at fit
  split at fit
  case isTrue probe =>
    simp only [Bool.and_eq_true, decide_eq_true_eq, Bool.not_eq_true'] at fit
    obtain ⟨⟨rfl, here⟩, first⟩ := fit
    simp [FitsCycle, probe, here, first]
  case isFalse probe =>
    split at fit
    case h_5 => cases fit
    all_goals
      next pattern =>
        simp only [Bool.and_eq_true, decide_eq_true_eq, Bool.not_eq_true'] at fit
        simp [FitsCycle, probe, pattern, fit]

/-- A complete frame of the latest cycle is counted and discarded unless marker and input fit it (R86). -/
theorem takeArrival_of_stray {s : State} {input : Port} {marker : Option Marker}
    (slots : List (List Byte))
    (stray : ∀ c m, s.rgm.cycle = some c → marker = some m → ¬ FitsCycle c m input) :
    takeArrival s input (.complete s.rgm.cycleNumber marker slots) = s.countReceiveError := by
  unfold takeArrival
  simp only [if_true]
  split
  · next c m latest =>
    exact if_neg fun fit => stray c m latest rfl (fitsCycle_of_fits fit)
  · rfl

/-- A complete frame of an older cycle is an OVERRUN (R86, R88, R96). -/
theorem takeArrival_of_older {s : State} (input : Port) {number : BitVec 16} (marker : Option Marker)
    (slots : List (List Byte)) (older : number ≠ s.rgm.cycleNumber) :
    takeArrival s input (.complete number marker slots) = takeOverrun s number := if_neg older

/-- Settles O54: each class of frame is counted alone, and an OVERRUN also marks the latest cycle. -/
theorem discardedFramesAreCounted : Obligations.DiscardedFramesAreCounted := by
  intro s n input bytes discarded
  refine ⟨fun cut => ?cut, fun marker slots read stray => ?stray, fun number marker slots read older => ?older⟩
  case cut =>
    rw [exec_ringFrameReturn]
    rcases cut with read | read <;> rw [read] <;> rfl
  case stray =>
    rw [exec_ringFrameReturn, read]
    exact congrArg Host.Outcome.next (takeArrival_of_stray (s := s.at n) slots stray)
  case older =>
    intro counted
    have noted : (s.at n).countReceiveError.mapCycle noteOverrun =
      { s with now := n, rgm := counted } := rfl
    rw [exec_ringFrameReturn, read, takeArrival_of_older (s := s.at n) input marker slots older, takeOverrun,
      noted]
    refine congrArg Host.Outcome.next ?_
    simp only [sampleLate]
    cases sent : s.rgm.sendBefore with
    | none => exact ite_self _
    | some before =>
      dsimp only
      rw [← sent]
      split <;> rfl

end Sys2Proof.Machine
end

section
/-! PROOFS. A CYCLE frame as sent reads back, and its untouched return marks the half returned (O55). -/

namespace Sys2Proof.Machine

/-! ## The parts of a frame as sent (Table 12-7) -/

/-- The nine bytes before the items and entries of a frame. -/
def CycleFrame.head (f : CycleFrame) : List Byte :=
  beBytes 2 f.number.toNat ++ beBytes 4 f.stamp.toNat ++ beBytes 1 f.marker.code ++
    beBytes 1 f.items.length ++ beBytes 1 f.entries.length

/-- The items and entries of a frame. -/
def CycleFrame.body (f : CycleFrame) : List Byte :=
  f.items.flatMap itemBytes ++ f.entries.flatMap entryBytes

theorem CycleFrame.header_eq (f : CycleFrame) : f.header = f.head ++ f.body :=
  List.append_assoc f.head _ _

theorem CycleFrame.bytes_eq (f : CycleFrame) : f.bytes =
    f.header ++ (crcBytes f.header ++ (List.replicate 24 emptySlotBytes).flatten) :=
  List.append_assoc _ _ _

theorem CycleFrame.header_length (f : CycleFrame) :
    f.header.length = 9 + 2 * f.items.length + 9 * f.entries.length := by
  have items : (f.items.flatMap itemBytes).length = 2 * f.items.length := by
    simp [List.length_flatMap, itemBytes, Nat.mul_comm]
  have entries : (f.entries.flatMap entryBytes).length = 9 * f.entries.length := by
    simp [List.length_flatMap, entryBytes, Nat.mul_comm]
  have head : f.head.length = 9 := by simp [head]
  rw [header_eq, List.length_append, head, body, List.length_append, items, entries, Nat.add_assoc]

theorem emptySlots_length (n : Nat) : (List.replicate n emptySlotBytes).flatten.length = 30 * n := by
  simp [emptySlotBytes, Config.slotBytes, Nat.mul_comm]

theorem CycleFrame.bytes_length (f : CycleFrame) : f.bytes.length = f.header.length + 2 + 720 := by
  rw [bytes_eq, List.length_append, List.length_append, crcBytes_length, emptySlots_length]

/-! ## What the reader finds (R185) -/

theorem CycleFrame.slotNat_number (f : CycleFrame) :
    BitVec.ofNat 16 (slotNat f.bytes 0 2) = f.number := Laws.beBytes_two f.number

theorem CycleFrame.markerOf_byte (f : CycleFrame) : markerOf (slotByte f.bytes 6) = some f.marker := by
  have byte : slotByte f.bytes 6 = BitVec.ofNat 8 f.marker.code := rfl
  rw [byte]
  cases f.marker <;> rfl

theorem toNat_ofNat_of_small {k : Nat} (small : k < 256) : (BitVec.ofNat 8 k).toNat = k := by
  rw [BitVec.toNat_ofNat, Nat.mod_eq_of_lt small]

theorem CycleFrame.items_byte (f : CycleFrame) (fit : f.items.length ≤ 4) :
    (slotByte f.bytes 7).toNat = f.items.length :=
  toNat_ofNat_of_small (by omega)

theorem CycleFrame.entries_byte (f : CycleFrame) (fit : f.entries.length ≤ 8) :
    (slotByte f.bytes 8).toNat = f.entries.length :=
  toNat_ofNat_of_small (by omega)

theorem slotsOf_emptySlots (n : Nat) :
    slotsOf n (List.replicate n emptySlotBytes).flatten = List.replicate n emptySlotBytes := by
  have length : emptySlotBytes.length = Config.slotBytes := List.length_replicate
  induction n with
  | zero => rfl
  | succ n ih =>
    rw [List.replicate_succ, List.flatten_cons, slotsOf, List.take_left' length, List.drop_left' length, ih]

theorem readFrame_bytes (f : CycleFrame) (items : f.items.length ≤ 4) (entries : f.entries.length ≤ 8) :
    readFrame f.bytes = .complete f.number (some f.marker) (List.replicate 24 emptySlotBytes) := by
  have length := f.bytes_length
  have counts : 9 + 2 * f.items.length + 9 * f.entries.length = f.header.length := f.header_length.symm
  have header : f.bytes.take f.header.length = f.header := by rw [f.bytes_eq, List.take_left' rfl]
  have rest : f.bytes.drop f.header.length =
      crcBytes f.header ++ (List.replicate 24 emptySlotBytes).flatten := by
    rw [f.bytes_eq, List.drop_left' rfl]
  have crc : (f.bytes.drop f.header.length).take 2 = crcBytes f.header := by
    rw [rest, List.take_left' (crcBytes_length _)]
  have slots : f.bytes.drop (f.header.length + 2) = (List.replicate 24 emptySlotBytes).flatten := by
    rw [← List.drop_drop, rest, List.drop_left' (crcBytes_length _)]
  unfold readFrame
  simp only [f.items_byte items, f.entries_byte entries, counts, header, crc, slots, slotsOf_emptySlots,
    f.slotNat_number, f.markerOf_byte, Config.slotBytes]
  rw [if_neg (by omega), if_neg (by omega), if_neg (by omega), if_neg (fun differ => differ rfl)]

/-! ## A frame that comes back untouched (R87) -/

theorem noteTurning_of_unturned {s : State} (m : Marker) (input : Port) {xs : List (RingPos × Slot)}
    (none : turnedPositions xs = []) : noteTurning s m input xs = s := by
  unfold noteTurning
  rw [none]
  split
  · split <;> rfl
  · rfl

theorem takeReturn_of_empty (s : State) (m : Marker) (input : Port) (n : Nat) :
    takeReturn s m input (List.replicate n .empty) = s.mapCycle (noteReturn m.direction s.now) := by
  let placed := (List.finRange 24).zip (List.replicate n Slot.empty)
  have empty {x : RingPos × Slot} (mem : x ∈ placed) : x.2 = .empty :=
    List.eq_of_mem_replicate (List.of_mem_zip (a := x.1) (b := x.2) mem).2
  have unturned : turnedPositions placed = [] :=
    List.filterMap_eq_nil_iff.mpr fun x mem => by rw [empty mem]
  have untouched (u : State) : placed.foldl (takeSlot m) u = u :=
    foldl_eq_self placed (fun x mem b => by rw [takeSlot.eq_def, empty mem]) u
  rw [takeReturn, noteTurning_of_unturned m input unturned]
  exact untouched _

/-- A complete frame of the latest cycle that fits it is a timely intact return (R86). -/
theorem takeArrival_of_fit {s : State} {input : Port} {c : RingCycle} {m : Marker}
    (slots : List (List Byte)) (latest : s.rgm.cycle = some c) (fit : FitsCycle c m input) :
    takeArrival s input (.complete s.rgm.cycleNumber (some m) slots) =
      takeReturn s m input (slots.map judgeSlot) := by
  unfold takeArrival
  simp only [latest, if_true, fits_of_fitsCycle fit]

/-- Settles O55: the parts of the frame are read one by one, and 24 empty slots leave a return at its mark. -/
theorem sentFrameReadsBack : Obligations.SentFrameReadsBack := by
  intro f items entries
  have read := readFrame_bytes f items entries
  refine ⟨by rw [f.bytes_length, f.header_length], read, fun s n input c latest fit number => ?_⟩
  have slots : (List.replicate 24 emptySlotBytes).map judgeSlot = List.replicate 24 .empty :=
    List.map_replicate
  have marked : (s.at n).mapCycle (noteReturn f.marker.direction n) = { s with
      now := n
      rgm := { s.rgm with cycle := some (noteReturn f.marker.direction n c) } } := by
    rw [State.mapCycle, State.at_rgm, latest]
    rfl
  have taken := takeArrival_of_fit (s := s.at n) (List.replicate 24 emptySlotBytes) latest fit
  rw [slots, takeReturn_of_empty, State.at_now, marked] at taken
  rw [exec_ringFrameReturn, read, number]
  refine congrArg Host.Outcome.next (taken.trans ?_)
  cases f.marker <;> rfl

end Sys2Proof.Machine
end

section
/-! PROOFS. The one good slot of a returning frame reaches its blocks in order (O56). -/

namespace Sys2Proof.Machine

/-! ## What the Ring Master notes of a good slot (R82, R87, R95, R97) -/

theorem LinkStatus.loopback_iff (x : LinkStatus) :
    x.loopback = true ↔ x = .loopbackBoth ∨ x = .loopbackF ∨ x = .loopbackR := by
  cases x <;> simp [loopback]

theorem zip_oneSlot (p : RingPos) (x : Slot) :
    (List.finRange 24).zip ((List.finRange 24).map (oneSlot p x)) =
      (List.finRange 24).map fun q => (q, oneSlot p x q) := by
  have both := List.zip_map' (l := List.finRange 24) (f := id) (g := oneSlot p x)
  rwa [List.map_id] at both

theorem turnedPositions_oneSlot (p : RingPos) (lineError turned : Bool) (body : SlotBody) :
    turnedPositions ((List.finRange 24).zip ((List.finRange 24).map
      (oneSlot p (.good lineError turned body)))) = if turned then [p] else [] := by
  rw [zip_oneSlot, turnedPositions, List.filterMap_map]
  cases turned with
  | false =>
    refine List.filterMap_eq_nil_iff.mpr fun q _ => ?_
    by_cases same : q = p <;> simp [oneSlot, same]
  | true =>
    calc _ = (List.finRange 24).filterMap (Option.guard fun q => decide (q = p)) :=
          List.filterMap_congr fun q _ => by by_cases same : q = p <;> simp [oneSlot, same, Option.guard]
      _ = (List.finRange 24).filter fun q => decide (q = p) := by rw [List.filterMap_eq_filter]
      _ = [p] := by
        rw [List.filter_eq, List.count_eq_one_of_mem (List.nodup_finRange 24) (List.mem_finRange p)]
        rfl

/-- The turning station of a half that came back on the other input (R95). -/
theorem noteTurning_of_one {s : State} (m : Marker) (input : Port) {xs : List (RingPos × Slot)}
    {p : RingPos} {turned : Bool} (one : turnedPositions xs = if turned then [p] else []) :
    noteTurning s m input xs =
      let loopback : Prop :=
        s.rgm.link = .loopbackBoth ∨ s.rgm.link = .loopbackF ∨ s.rgm.link = .loopbackR
      s.setRgm { s.rgm with
        fTurning := if loopback ∧ m = .f ∧ input = .rIn ∧ turned = true then some p else s.rgm.fTurning
        rTurning := if loopback ∧ m = .r ∧ input = .fIn ∧ turned = true then some p
          else s.rgm.rTurning } := by
  dsimp only
  simp only [← LinkStatus.loopback_iff]
  cases turned with
  | false =>
    rw [noteTurning_of_unturned m input one]
    simp only [Bool.false_eq_true, and_false, if_false]
    rfl
  | true =>
    unfold noteTurning
    rw [one]
    split
    · next loopback =>
      split
      · simp only [loopback, reduceCtorEq, true_and, false_and, if_true, if_false]
        rfl
      · simp only [loopback, reduceCtorEq, true_and, false_and, if_true, if_false]
        rfl
      · next notF notR =>
        rw [if_neg fun h => notF h.2.1 h.2.2.1, if_neg fun h => notR h.2.1 h.2.2.1]
        rfl
    · next other =>
      rw [if_neg fun h => other h.1, if_neg fun h => other h.1]
      rfl

/-- The pending items once the turned flag of a good slot is taken (R82, R95). -/
def flaggedItems (link : LinkStatus) (items : List ControlItem) (p : RingPos) (m : Marker)
    (turned : Bool) : List ControlItem :=
  let is (x : ControlItem) : Bool := decide (x.pos = p) && decide (x.kind = .loopClear)
  if turned then
    if (link = .forward ∨ link = .reverse ∨ m = .probe) ∧ items.any is = false then
      items ++ [⟨p, .loopClear, false⟩]
    else items
  else items.filter fun x => !is x

theorem noteTurned_eq (s : State) (p : RingPos) (m : Marker) (turned : Bool) :
    noteTurned s p m turned =
      s.setRgm { s.rgm with items := flaggedItems s.rgm.link s.rgm.items p m turned } := by
  unfold noteTurned flaggedItems
  cases turned with
  | false => rfl
  | true =>
    simp only [if_true]
    split
    · next creates =>
      rw [State.createItem, State.itemPending]
      split
      · next pending =>
        simp only [pending, reduceCtorEq, and_false, if_false]
        rfl
      · next free =>
        simp only [creates, free, and_self, if_true]
    · next stands =>
      simp only [stands, false_and, if_false]
      rfl

/-- The frame with a marker carried a LEVEL_RESYNC item of the position (R82). -/
def RingCycle.carriesResync (c : RingCycle) (p : RingPos) (m : Marker) : Bool :=
  c.frames.any fun f => decide (f.marker = m) && f.items.any fun x => decide (x = (p, .levelResync))

theorem noteResync_eq {s : State} {c : RingCycle} (latest : s.rgm.cycle = some c) (p : RingPos)
    (m : Marker) :
    noteResync s p m = s.setRgm { s.rgm with
      items := s.rgm.items.map fun x =>
        if c.carriesResync p m && (decide (x.pos = p) && decide (x.kind = .levelResync)) then
          { x with received := true } else x } := by
  have carried : resyncCarried s p m = c.carriesResync p m := by
    rw [resyncCarried, latest]
    rfl
  rw [noteResync, carried]
  split
  · next carries =>
    simp only [carries, Bool.true_and, Bool.and_eq_true, decide_eq_true_eq]
    rfl
  · next carries =>
    simp only [carries, Bool.false_and, Bool.false_eq_true, if_false, List.map_id']
    rfl

theorem State.setRgm_setRgm (s : State) (a b : Rgm) : (s.setRgm a).setRgm b = s.setRgm b := rfl

theorem noteLineError_eq (s : State) (p : RingPos) (d : Half) (flag : Bool) :
    noteLineError s p d flag = s.setRgm { s.rgm with
      loopErrF := match d with
        | .f => setAt s.rgm.loopErrF p flag
        | .r => s.rgm.loopErrF
      loopErrR := match d with
        | .f => s.rgm.loopErrR
        | .r => setAt s.rgm.loopErrR p flag } := by
  cases d <;> rfl

theorem mapCycle_eq {s : State} {c : RingCycle} (latest : s.rgm.cycle = some c) (f : RingCycle → RingCycle) :
    s.mapCycle f = s.setRgm { s.rgm with cycle := some (f c) } := by
  rw [State.mapCycle, latest]
  rfl

/-- The cycle in which a position is heard (R87). -/
def heardCycle (c : RingCycle) (p : RingPos) : Half → RingCycle
  | .f => { c with heardF := setAt c.heardF p true }
  | .r => { c with heardR := setAt c.heardR p true }

theorem markHeard_eq {s : State} {c : RingCycle} (latest : s.rgm.cycle = some c) (p : RingPos) (d : Half) :
    markHeard s p d = s.setRgm { s.rgm with cycle := some (heardCycle c p d) } := by
  rw [markHeard, mapCycle_eq latest]
  cases d <;> rfl

theorem heardCycle_frames (c : RingCycle) (p : RingPos) (d : Half) : (heardCycle c p d).frames = c.frames := by
  cases d <;> rfl

/-- What a good slot leaves of the Ring Master before it is routed (R87). -/
theorem noteSlot_eq {s : State} {c : RingCycle} (latest : s.rgm.cycle = some c) (p : RingPos) (m : Marker)
    (lineError turned : Bool) : noteSlot s p m lineError turned = s.setRgm { s.rgm with
      cycle := some (heardCycle c p m.direction)
      loopErrF := match m.direction with
        | .f => setAt s.rgm.loopErrF p lineError
        | .r => s.rgm.loopErrF
      loopErrR := match m.direction with
        | .f => s.rgm.loopErrR
        | .r => setAt s.rgm.loopErrR p lineError
      items := (flaggedItems s.rgm.link s.rgm.items p m turned).map fun x =>
        if c.carriesResync p m && (decide (x.pos = p) && decide (x.kind = .levelResync)) then
          { x with received := true } else x } := by
  rw [noteSlot, markHeard_eq latest, noteLineError_eq, noteTurned_eq, State.setRgm_setRgm,
    State.setRgm_setRgm, noteResync_eq (c := heardCycle c p m.direction) rfl, State.setRgm_setRgm,
    RingCycle.carriesResync, heardCycle_frames]
  rfl

theorem heardCycle_noteReturn (c : RingCycle) (n : Time) (p : RingPos) (d : Half) :
    heardCycle (noteReturn d n c) p d = match d with
      | .f => { c with returnedF := true, lastReturn := some n, heardF := setAt c.heardF p true }
      | .r => { c with returnedR := true, lastReturn := some n, heardR := setAt c.heardR p true } := by
  cases d <;> rfl

theorem carriesResync_noteReturn (c : RingCycle) (n : Time) (d : Half) (p : RingPos) (m : Marker) :
    (noteReturn d n c).carriesResync p m = c.carriesResync p m := by
  cases d <;> rfl

/-! ## Where a good slot goes (R87, R98, R106, R110, R111) -/

/-- Settles O56: the Ring Master notes the slot, and by the station's state it goes to enrolment or its
reports are taken. -/
theorem goodSlotReachesItsBlocks : Obligations.GoodSlotReachesItsBlocks := by
  intro s n input bytes c m p row lineError turned body frame is carried d loopback flagged noted heard run
  obtain ⟨⟨slots, read, judged⟩, latest, table, fit⟩ := frame
  let slot : Slot := .good lineError turned body
  let placed := (List.finRange 24).zip ((List.finRange 24).map (oneSlot p slot))
  have judged : slots.map judgeSlot = (List.finRange 24).map (oneSlot p slot) := judged
  have taken := takeArrival_of_fit (s := s.at n) slots latest fit
  have one : turnedPositions placed = if turned then [p] else [] :=
    turnedPositions_oneSlot p lineError turned body
  let turning := noteTurning ((s.at n).mapCycle (noteReturn d n)) m input placed
  have turning_eq : turning = (s.at n).setRgm { s.rgm with
      cycle := some (noteReturn d n c)
      fTurning := if loopback ∧ m = .f ∧ input = .rIn ∧ turned = true then some p else s.rgm.fTurning
      rTurning := if loopback ∧ m = .r ∧ input = .fIn ∧ turned = true then some p
        else s.rgm.rTurning } := by
    change noteTurning _ m input placed = _
    rw [noteTurning_of_one m input one, mapCycle_eq (s := s.at n) latest]
    rfl
  have noted_eq : noteSlot turning p m lineError turned = heard := by
    rw [noteSlot_eq (c := noteReturn d n c) (by rw [turning_eq]; rfl), turning_eq, heardCycle_noteReturn,
      carriesResync_noteReturn]
    rfl
  rw [judged, takeReturn, foldl_takeSlot_oneSlot] at taken
  rw [exec_ringFrameReturn, read]
  refine congrArg Host.Outcome.next (taken.trans ?_)
  change routeGood (noteSlot turning p m lineError turned) p m.direction body = _
  rw [noted_eq]
  have served : rowAt heard p = some row := table
  rw [routeGood, served]
  change routeSlot heard p row d body = _
  cases body with
  | ident i => rfl
  | run r =>
    change (if s.rgm.stations[p].state = .enrolled then takeRun heard p row.valve d r
      else runNotEnrolled heard p) = _
    dsimp only
    split
    · change takeReports (run r) row.valve d r = _
      rw [takeReports]
      cases r.extinction <;> rfl
    · rfl

end Sys2Proof.Machine
end

section
/-! PROOFS. A ring cycle start taken apart: the close of the latest cycle, what a counted close does to the
stations, and the sending of the next cycle. -/

namespace Sys2Proof.Machine

/-! ## The close and the link status (R88 to R94) -/

theorem exec_ringCycleStart {s : State} {n i : Time} (armed : s.rgm.cycleAt = some i)
    (reached : passed n i = true) : exec (.ringCycleStart n) s = .next (startCycle (s.at n)) :=
  congrArg Host.Outcome.next
    (takeIf_of_reached (instant := fun s => s.rgm.cycleAt) startCycle (s := s) armed reached)

/-- The values of the Ring Master that the close of a cycle decides; the rest stands. -/
structure LinkDecided (s j : State) : Prop where
  ring : j.rgm = { s.rgm with
    link := j.rgm.link, downCause := j.rgm.downCause, downPattern := j.rgm.downPattern
    failRun := j.rgm.failRun, overrunRun := j.rgm.overrunRun
    probeCount := j.rgm.probeCount, loopSwitches := j.rgm.loopSwitches }

theorem LinkDecided.refl (s : State) : LinkDecided s s := ⟨rfl⟩

theorem LinkDecided.trans {a b c : State} (h : LinkDecided a b) (k : LinkDecided b c) : LinkDecided a c :=
  ⟨by rw [k.ring, h.ring]⟩

theorem State.setRuns_decided (s : State) (a b : Nat) : LinkDecided s (s.setRuns a b) := ⟨rfl⟩

theorem clearDown_decided (s : State) : LinkDecided s (clearDown s) := ⟨rfl⟩

/-- A change of link status, whatever the groups do with its event (R89, R94). -/
theorem changeLink_rgm (s : State) (x : LinkStatus) :
    (changeLink s x).rgm = if s.rgm.link = x then s.rgm else switchedLink s.rgm x := by
  unfold changeLink
  split
  · rfl
  · exact (bothGroups_only _ _).rgm (by decide)

theorem changeLink_decided (s : State) (x : LinkStatus) : LinkDecided s (changeLink s x) := by
  constructor
  rw [changeLink_rgm]
  split <;> rfl

theorem goDown_decided (s : State) (c : DownCause) : LinkDecided s (goDown s c) :=
  .trans (b := noteDown s c) ⟨rfl⟩ (changeLink_decided _ _)

theorem closeReturned_decided (s : State) (c : RingCycle) : LinkDecided s (closeReturned s c) := by
  refine .trans (s.setRuns_decided 0 0) ?_
  unfold closeReturned
  dsimp only
  split
  case h_4 =>
    split
    case h_4 => exact .refl _
    all_goals exact (clearDown_decided _).trans (changeLink_decided _ _)
  case h_5 | h_6 | h_7 => exact .refl _
  all_goals exact changeLink_decided _ _

theorem closeLate_decided (s : State) : LinkDecided s (closeLate s) := by
  unfold closeLate
  dsimp only
  split
  · exact (State.setRuns_decided _ _ _).trans (goDown_decided _ _)
  · exact s.setRuns_decided _ _

theorem failLink_decided (s : State) : LinkDecided s (failLink s) := by
  unfold failLink
  split
  case h_1 | h_2 => exact (s.setRuns_decided 0 0).trans (changeLink_decided _ _)
  case h_6 | h_7 => exact .refl _
  all_goals exact goDown_decided _ _

theorem closeLost_decided (s : State) : LinkDecided s (closeLost s) := by
  unfold closeLost
  dsimp only
  split
  · exact (s.setRuns_decided _ 0).trans (failLink_decided _)
  · exact s.setRuns_decided _ _

theorem judgeCycle_decided (s : State) (c : RingCycle) : LinkDecided s (judgeCycle s c) := by
  unfold judgeCycle
  split
  · exact closeReturned_decided _ _
  · split
    · exact closeLate_decided _
    · exact closeLost_decided _

theorem closeProbe_decided (s : State) (c : RingCycle) : LinkDecided s (closeProbe s c) := by
  unfold closeProbe
  split
  · exact (s.setRuns_decided 0 0).trans ((clearDown_decided _).trans (changeLink_decided _ _))
  · exact .refl _

/-! ## Station misses (R99, R100) -/

/-- The station record after a counted close (R99, R100). -/
def missedStation (rt : RingTable) (c : RingCycle) (p : RingPos) (r : Station) : Station :=
  if r.state = .enrolled ∧ c.heard p = false then
    if rt.stationTimeout ≤ missAfter r then
      { r with miss := missAfter r, state := .faulty, inhibit := rt.inhibitInterval }
    else { r with miss := missAfter r }
  else r

/-- A counted close for the positions `ps`: their stations, and items that end with them (R99, R100). -/
structure Misses (ps : List RingPos) (c : RingCycle) (s t : State) : Prop where
  station : ∀ p : RingPos, t.rgm.stations[p] =
    if p ∈ ps then missedStation s.tbs.ring c p s.rgm.stations[p] else s.rgm.stations[p]
  ring : t.rgm = { s.rgm with stations := t.rgm.stations, items := t.rgm.items }
  items : t.rgm.items.Sublist s.rgm.items
  tbs : t.tbs = s.tbs

theorem faultStation_rgm (s : State) (p : RingPos) : (faultStation s p).rgm = { s.rgm with
    stations := setAt s.rgm.stations p { s.rgm.stations[p] with
      state := .faulty, inhibit := s.tbs.ring.inhibitInterval }
    items := (removeEnrolItems s p).rgm.items } :=
  (faultEvent_only _ _).rgm (by decide)

theorem removeEnrolItems_sublist (s : State) (p : RingPos) :
    (removeEnrolItems s p).rgm.items.Sublist s.rgm.items :=
  List.filter_sublist.trans List.filter_sublist

theorem missStation_eq (s : State) (p : RingPos) : missStation s p =
    let u := s.setStation p { s.rgm.stations[p] with miss := missAfter s.rgm.stations[p] }
    if s.tbs.ring.stationTimeout ≤ missAfter s.rgm.stations[p] then faultStation u p else u := rfl

/-- One position at a counted close, at the Ring Master (R99, R100). -/
theorem missOne_rgm (c : RingCycle) (s : State) (p : RingPos) :
    ∃ items : List ControlItem, items.Sublist s.rgm.items ∧ (missOne c s p).rgm = { s.rgm with
      stations := setAt s.rgm.stations p (missedStation s.tbs.ring c p s.rgm.stations[p])
      items := items } := by
  unfold missOne missedStation
  split
  · rw [missStation_eq]
    dsimp only
    split
    · next faulty =>
      refine ⟨_, removeEnrolItems_sublist s p, (faultStation_rgm _ p).trans ?_⟩
      simp only [State.setStation_rgm_stations, setAt_get, setAt_setAt]
      rfl
    · exact ⟨_, .refl _, rfl⟩
  · refine ⟨_, .refl _, ?_⟩
    rw [setAt_eq_self rfl]

theorem missOne_misses (c : RingCycle) (s : State) (p : RingPos) : Misses [p] c s (missOne c s p) := by
  obtain ⟨items, sublist, ring⟩ := missOne_rgm c s p
  refine ⟨fun q => ?_, by rw [ring], by rw [ring]; exact sublist, (missOne_only c s p).tbs (by decide)⟩
  rw [ring]
  simp only [setAt_get_eq, List.mem_singleton, eq_comm (a := p)]
  split
  · next same => rw [same]
  · rfl

theorem Misses.append {ps qs : List RingPos} {c : RingCycle} {s t u : State} (h : Misses ps c s t)
    (k : Misses qs c t u) (apart : ∀ p ∈ ps, p ∉ qs) : Misses (ps ++ qs) c s u := by
  refine ⟨fun p => ?_, by rw [k.ring, h.ring], k.items.trans h.items, k.tbs.trans h.tbs⟩
  rw [k.station, h.station, h.tbs]
  by_cases first : p ∈ ps
  · rw [if_neg (apart p first), if_pos first, if_pos (List.mem_append_left _ first)]
  · simp only [List.mem_append, first, false_or, if_false]

theorem foldl_missOne_misses (c : RingCycle) {ps : List RingPos} (nodup : ps.Nodup) (s : State) :
    Misses ps c s (ps.foldl (missOne c) s) := by
  induction ps generalizing s with
  | nil => exact ⟨fun _ => rfl, rfl, .refl _, rfl⟩
  | cons p ps ih =>
    obtain ⟨out, nodup⟩ := List.nodup_cons.mp nodup
    exact (missOne_misses c s p).append (ih nodup _) fun q mem => by rwa [List.mem_singleton.mp mem]

/-- The close of a cycle counts misses (R99). -/
def countsMisses (s : State) (c : RingCycle) : Bool := c.returned || decide (s.rgm.link = .down)

theorem countMisses_misses (s : State) (c : RingCycle) :
    Misses (if countsMisses s c then List.finRange 24 else []) c s (countMisses s c) := by
  unfold countMisses
  change Misses _ c s (if countsMisses s c then _ else s)
  split
  · exact foldl_missOne_misses c (List.nodup_finRange 24) s
  · exact ⟨fun _ => rfl, rfl, .refl _, rfl⟩

theorem countsMisses_updateMembers (s : State) (c : RingCycle) :
    countsMisses (updateMembers s c) c = countsMisses s c := by
  rw [countsMisses, updateMembers, State.setRgm_rgm, countsMisses]

/-- A station that becomes FAULTY sets STATION_FAULT (R100). -/
theorem missOne_flag {c : RingCycle} {s : State} {p : RingPos} (enrolled : s.rgm.stations[p].state = .enrolled)
    (unheard : c.heard p = false) (limit : s.tbs.ring.stationTimeout ≤ missAfter s.rgm.stations[p]) :
    (missOne c s p).hasFlag .stationFault = true := by
  rw [missOne, if_pos ⟨enrolled, unheard⟩, missStation_eq]
  dsimp only
  rw [if_pos limit, faultStation]
  exact ((removeEnrolItems_only _ p).of rfl |>.trans (faultEvent_only _ p |>.of rfl) :
    Only cycleBlocks _ _).clear (by decide) _ (setAt_get _ _ _)

theorem foldl_missOne_flag {c : RingCycle} {ps : List RingPos} {s : State} {p : RingPos} (mem : p ∈ ps)
    (nodup : ps.Nodup) (enrolled : s.rgm.stations[p].state = .enrolled) (unheard : c.heard p = false)
    (limit : s.tbs.ring.stationTimeout ≤ missAfter s.rgm.stations[p]) :
    (ps.foldl (missOne c) s).hasFlag .stationFault = true := by
  induction ps generalizing s with
  | nil => cases mem
  | cons q ps ih =>
    obtain ⟨out, nodup⟩ := List.nodup_cons.mp nodup
    have first := missOne_misses c s q
    rw [List.foldl_cons]
    rcases List.mem_cons.mp mem with rfl | later
    · exact (Only.foldl _ (missOne_only c) ps _).clear (by decide) _ (missOne_flag enrolled unheard limit)
    · have other : p ∉ [q] := fun mem => out (List.mem_singleton.mp mem ▸ later)
      have same : (missOne c s q).rgm.stations[p] = s.rgm.stations[p] := by rw [first.station, if_neg other]
      exact ih later nodup (by rw [same]; exact enrolled) (by rw [same, first.tbs]; exact limit)

/-! ## The close of the latest cycle (R88) -/

/-- A station record after the close of a cycle that is no probe, counted or not (R88, R99, R100). -/
def closedStation (rt : RingTable) (counted : Bool) (c : RingCycle) (p : RingPos) (r : Station) : Station :=
  let joined := { r with member := memberAfter c p r.member }
  if counted then missedStation rt c p joined else joined

/-- What a close makes of the Ring Master, beside what it decides of the link status: `j` holds that, and
`counted` says whether misses are counted. -/
structure Closes (c : RingCycle) (counted : Bool) (s j t : State) : Prop where
  ring : t.rgm = { j.rgm with
    stations := t.rgm.stations, items := t.rgm.items
    scanCurrent := t.rgm.scanCurrent, scanMin := t.rgm.scanMin, scanMax := t.rgm.scanMax }
  station : ∀ p : RingPos, t.rgm.stations[p] =
    if c.probe then s.rgm.stations[p] else closedStation s.tbs.ring counted c p s.rgm.stations[p]
  items : t.rgm.items.Sublist s.rgm.items
  scan : ∀ a b, c.lastReturn = some a → s.rgm.sendLatest = some b →
    t.rgm.scanCurrent = (a - b).toNat ∧ t.rgm.scanMax = max s.rgm.scanMax (a - b).toNat ∧
      t.rgm.scanMin = if s.rgm.scanMin = 0 then (a - b).toNat else min s.rgm.scanMin (a - b).toNat

/-- What the close of a cycle decides of the link status. -/
def decideLink (s : State) (c : RingCycle) : State := if c.probe then closeProbe s c else judgeCycle s c

theorem decideLink_decided (s : State) (c : RingCycle) : LinkDecided s (decideLink s c) := by
  unfold decideLink
  split
  · exact closeProbe_decided s c
  · exact judgeCycle_decided s c

theorem closeScan_rgm (s : State) (c : RingCycle) : (closeScan s c).rgm = { s.rgm with
    scanCurrent := (closeScan s c).rgm.scanCurrent
    scanMin := (closeScan s c).rgm.scanMin
    scanMax := (closeScan s c).rgm.scanMax } := by
  unfold closeScan
  split <;> rfl

/-- The scan time and the items are seen to when the link status and the stations are (R82, R96). -/
theorem closes_of_stations {c : RingCycle} {counted : Bool} {s j u : State} (decided : LinkDecided s j)
    (ring : u.rgm = { j.rgm with stations := u.rgm.stations, items := u.rgm.items })
    (station : ∀ p : RingPos, u.rgm.stations[p] =
      if c.probe then s.rgm.stations[p] else closedStation s.tbs.ring counted c p s.rgm.stations[p])
    (items : u.rgm.items.Sublist s.rgm.items) : Closes c counted s j (endItems (closeScan u c) c) := by
  have scan := closeScan_rgm u c
  have same : (closeScan u c).rgm.stations = u.rgm.stations := by rw [scan]
  refine ⟨?ring, fun p => ?station, ?items, fun a b returned sent => ?scan⟩
  case ring =>
    rw [endItems, State.setRgm_rgm, scan, ring]
  case station => exact (congrArg (fun v : Vector Station 24 => v[p]) same).trans (station p)
  case items =>
    refine List.filter_sublist.trans ?_
    rw [scan]
    exact items
  case scan =>
    have fields : u.rgm.sendLatest = some b ∧ u.rgm.scanMin = s.rgm.scanMin ∧
        u.rgm.scanMax = s.rgm.scanMax := by
      rw [ring, decided.ring]
      exact ⟨sent, rfl, rfl⟩
    obtain ⟨sent, least, most⟩ := fields
    have sampled : closeScan u c = sampleScan u (a - b).toNat := by rw [closeScan, returned, sent]
    rw [sampled, ← least, ← most]
    exact ⟨rfl, rfl, rfl⟩

theorem closeCycle_closes {s : State} {c : RingCycle} (latest : s.rgm.cycle = some c) :
    Closes c (countsMisses (decideLink s c) c) s (decideLink s c) (closeCycle s) := by
  have decided := decideLink_decided s c
  have tbs : (decideLink s c).tbs = s.tbs := by
    unfold decideLink
    split
    · exact (closeProbe_only s c).tbs (by decide)
    · exact (judgeCycle_only s c).tbs (by decide)
  generalize same : decideLink s c = j at *
  have stations : j.rgm.stations = s.rgm.stations := by rw [decided.ring]
  have items : j.rgm.items = s.rgm.items := by rw [decided.ring]
  unfold closeCycle
  rw [latest]
  dsimp only
  unfold decideLink at same
  split at same
  · next probe =>
    rw [if_pos probe, same]
    refine closes_of_stations decided rfl (fun p => ?_) (by rw [items])
    rw [if_pos probe, stations]
  · next running =>
    rw [if_neg running, closeRunning, same]
    have misses := countMisses_misses (updateMembers j c) c
    generalize countMisses (updateMembers j c) c = u at misses ⊢
    have ring := misses.ring
    have sublist := misses.items
    rw [updateMembers, State.setRgm_rgm] at ring sublist
    refine closes_of_stations decided ring (fun p => ?_) (items ▸ sublist)
    have joined : (updateMembers j c).rgm.stations[p] =
        { s.rgm.stations[p] with member := memberAfter c p s.rgm.stations[p].member } := by
      rw [updateMembers, State.setRgm_rgm, ofFn_get, stations]
    have tbs : (updateMembers j c).tbs = s.tbs := ((updateMembers_only j c).tbs (by decide)).trans tbs
    rw [if_neg running, misses.station, joined, tbs, countsMisses_updateMembers, closedStation]
    cases countsMisses j c
    · rfl
    · exact if_pos (List.mem_finRange p)

/-! ## The next cycle (R80 to R83, R94) -/

/-- The next cycle is a probe, in the state that the close and step 2 leave (R94). -/
def probeDue (s : State) : Bool :=
  decide (s.rgm.link ≠ .forward) && decide (s.tbs.ring.probeInterval ≤ s.rgm.probeCount + 1)

/-- Steps 1 to 3 of a cycle start: the state in which the entry places are filled (R80). -/
def cycleReady (s : State) : State :=
  let k := closeCycle s
  k.setRgm { k.rgm with
    stations := Vector.ofFn fun p =>
      stepStation k.tbs.ring (decide (s.rgm.stations[p].state = .faulty)) k.rgm.stations[p]
    cycleNumber := k.rgm.cycleNumber + 1#16
    probeCount := if k.rgm.link = .forward then k.rgm.probeCount
      else if probeDue k then 0 else k.rgm.probeCount + 1 }

theorem stepProbe_eq (s : State) : stepProbe s =
    (s.setRgm { s.rgm with
      probeCount := if s.rgm.link = .forward then s.rgm.probeCount
        else if probeDue s then 0 else s.rgm.probeCount + 1 }, probeDue s) := by
  unfold stepProbe
  split
  · next forward =>
    have never : probeDue s = false := by
      simp only [probeDue, forward, ne_eq, not_true_eq_false, decide_false, Bool.false_and]
    rw [never]
    rfl
  · next other => simp only [probeDue, ne_eq, other, not_false_eq_true, decide_true, Bool.true_and]

theorem startCycle_eq (s : State) :
    startCycle s = finishCycle (cycleReady s) (probeDue (closeCycle s)) := by
  let was : Vector Bool 24 := Vector.ofFn fun p => decide (s.rgm.stations[p].state = .faulty)
  let k := stepNumber (stepStations (closeCycle s) was)
  have run : startCycle s = finishCycle (stepProbe k).1 (stepProbe k).2 := rfl
  have ready : (stepProbe k).1 = cycleReady s := by
    rw [stepProbe_eq]
    simp only [k, was, stepNumber, stepStations, State.setRgm_rgm, State.setRgm_setRgm, ofFn_get]
    rfl
  have due : (stepProbe k).2 = probeDue (closeCycle s) := by
    rw [stepProbe_eq]
    simp only [probeDue, k, stepNumber, stepStations, State.setRgm_rgm, State.setRgm_tbs]
  rw [run, ready, due]

/-- The entry places are filled: at the Ring Master resends are counted, and no more (R61). -/
structure Filled (s t : State) : Prop where
  ring : t.rgm = { s.rgm with retries := t.rgm.retries }
  now : t.now = s.now
  tbs : t.tbs = s.tbs

theorem Filled.refl (s : State) : Filled s s := ⟨rfl, rfl, rfl⟩

theorem Filled.trans {a b c : State} (h : Filled a b) (k : Filled b c) : Filled a c :=
  ⟨by rw [k.ring, h.ring], k.now.trans h.now, k.tbs.trans h.tbs⟩

theorem placeEntryAt_filled (s : State) (p : RingPos) (r : FireRecord) :
    Filled s (placeEntryAt s p r).1 := by
  unfold placeEntryAt
  dsimp only
  split <;> split <;> exact ⟨rfl, rfl, rfl⟩

theorem placeEntry_filled (x : State × List FireEntry) (r : FireRecord) :
    Filled x.1 (placeEntry x r).1 ∧ (placeEntry x r).2.length ≤ x.2.length + 1 := by
  unfold placeEntry
  split
  · exact ⟨.refl _, Nat.le_succ _⟩
  · refine ⟨placeEntryAt_filled _ _ _, ?_⟩
    simp only [List.length_append, List.length_singleton, Nat.le_refl]

theorem foldl_placeEntry_filled (rs : List FireRecord) (x : State × List FireEntry) :
    Filled x.1 (rs.foldl placeEntry x).1 ∧
      (rs.foldl placeEntry x).2.length ≤ x.2.length + rs.length := by
  induction rs generalizing x with
  | nil => exact ⟨.refl _, Nat.le_refl _⟩
  | cons r rs ih =>
    obtain ⟨filled, length⟩ := placeEntry_filled x r
    obtain ⟨rest, total⟩ := ih (placeEntry x r)
    refine ⟨filled.trans rest, total.trans ?_⟩
    rw [List.length_cons]
    omega

theorem cycleEntries_filled (s : State) (probe : Bool) :
    Filled s (cycleEntries s probe).1 ∧ (cycleEntries s probe).2.length ≤ 8 := by
  unfold cycleEntries
  split
  · exact ⟨.refl s, Nat.zero_le 8⟩
  · obtain ⟨filled, length⟩ :=
      foldl_placeEntry_filled ((candidates s s.now).take Config.entryPlaces) (s, [])
    refine ⟨filled, length.trans ?_⟩
    rw [List.length_nil, Nat.zero_add]
    exact List.length_take_le 8 _

/-- The cycle sent from a state in which the entry places hold `entries` (R80, R81). -/
def sentCycle (s : State) (probe : Bool) (entries : List FireEntry) : RingCycle where
  probe := probe
  pattern := sendPattern s
  frames := buildFrames s probe (cycleItems s probe) entries
  returnedF := false
  returnedR := false
  overrun := false
  lastReturn := none
  heardF := fill 24 false
  heardR := fill 24 false

/-- A frame is built of the time, the cycle number, the link status with the down pattern, the memberships and
the items, which filling the entry places leaves. -/
theorem Filled.sentCycle {s t : State} (h : Filled s t) (probe : Bool) (entries : List FireEntry) :
    sentCycle t probe entries = sentCycle s probe entries := by
  obtain ⟨ring, now, -⟩ := h
  cases s
  cases t
  simp only at ring now
  rw [ring, now]
  rfl

theorem finishCycle_rgm (s : State) (probe : Bool) : (finishCycle s probe).rgm = { s.rgm with
    retries := (cycleEntries s probe).1.rgm.retries
    sendBefore := s.rgm.sendLatest
    sendLatest := some s.now
    cycleAt := some (addTb s.now s.tbs.ring.ringInterval)
    cycle := some (sentCycle s probe (cycleEntries s probe).2) } := by
  have filled := (cycleEntries_filled s probe).1
  have sent := filled.sentCycle probe (cycleEntries s probe).2
  rw [finishCycle_eq, sendCycle, State.setRgm_rgm, ← sent, State.after, filled.now, filled.tbs, filled.ring]
  rfl

end Sys2Proof.Machine
end

section
/-! PROOFS. A whole ring cycle start at the Ring Master; a cycle start in FORWARD (O51). -/

namespace Sys2Proof.Machine

/-- What a cycle start makes of the Ring Master: `j` holds what the close decides of the link status, and
`entries` fill the entry places. -/
structure Starts (c : RingCycle) (s j t : State) (probe : Bool) (entries : List FireEntry) : Prop where
  ring : t.rgm = { j.rgm with
    stations := t.rgm.stations, items := t.rgm.items
    scanCurrent := t.rgm.scanCurrent, scanMin := t.rgm.scanMin, scanMax := t.rgm.scanMax
    retries := t.rgm.retries
    cycleNumber := s.rgm.cycleNumber + 1#16
    probeCount := if j.rgm.link = .forward then j.rgm.probeCount
      else if probe then 0 else j.rgm.probeCount + 1
    sendBefore := s.rgm.sendLatest
    sendLatest := some s.now
    cycleAt := some (addTb s.now s.tbs.ring.ringInterval)
    cycle := some (sentCycle t probe entries) }
  now : t.now = s.now
  station : ∀ p : RingPos, t.rgm.stations[p] =
    stepStation s.tbs.ring (decide (s.rgm.stations[p].state = .faulty))
      (if c.probe then s.rgm.stations[p]
        else closedStation s.tbs.ring (countsMisses j c) c p s.rgm.stations[p])
  items : t.rgm.items.Sublist s.rgm.items
  scan : ∀ a b, c.lastReturn = some a → s.rgm.sendLatest = some b →
    t.rgm.scanCurrent = (a - b).toNat ∧ t.rgm.scanMax = max s.rgm.scanMax (a - b).toNat ∧
      t.rgm.scanMin = if s.rgm.scanMin = 0 then (a - b).toNat else min s.rgm.scanMin (a - b).toNat
  length : entries.length ≤ 8
  idle : j.rgm.link = .down → entries = []

/-- No position can take entries, so no record is eligible (R59, R93). -/
theorem fillEntries_of_unserved {s : State} (unserved : ∀ p : RingPos, entryDirection s p = none) :
    fillEntries s = (s, []) := by
  have none (r : FireRecord) : eligible s s.now r = false := by
    unfold eligible
    split
    · rfl
    · rw [canTakeEntries, unserved, Option.isSome_none, Bool.and_false, Bool.false_and]
  have empty : candidates s s.now = [] := by
    have live : s.fsc.records.filter (eligible s s.now) = [] :=
      List.filter_eq_nil_iff.mpr fun r _ => ne_of_eq_of_ne (none r) Bool.false_ne_true
    rw [candidates, live]
    rfl
  rw [fillEntries, empty]
  rfl

theorem cycleEntries_of_down {s : State} (down : s.rgm.link = .down) (probe : Bool) :
    (cycleEntries s probe).2 = [] := by
  unfold cycleEntries
  split
  · rfl
  · rw [fillEntries_of_unserved fun p => by rw [entryDirection, down]]

theorem decideLink_tbs (s : State) (c : RingCycle) : (decideLink s c).tbs = s.tbs := by
  unfold decideLink
  split
  · exact (closeProbe_only s c).tbs (by decide)
  · exact (judgeCycle_only s c).tbs (by decide)

/-- The frames of a cycle are built of these parts of a state. -/
structure SameSending (s t : State) : Prop where
  now : t.now = s.now
  number : t.rgm.cycleNumber = s.rgm.cycleNumber
  link : t.rgm.link = s.rgm.link
  pattern : t.rgm.downPattern = s.rgm.downPattern
  stations : t.rgm.stations = s.rgm.stations
  items : t.rgm.items = s.rgm.items

theorem SameSending.sentCycle {s t : State} (same : SameSending s t) (probe : Bool) (entries : List FireEntry) :
    sentCycle t probe entries = sentCycle s probe entries := by
  obtain ⟨now, number, link, pattern, stations, items⟩ := same
  have direction (p : RingPos) : entryDirection t p = entryDirection s p := by
    rw [entryDirection, entryDirection, link, stations]
  have itemHalf (h : Half) : itemGoes t h = itemGoes s h := by
    funext x
    rw [itemGoes, itemGoes, stations]
  have entryHalf (h : Half) : entryGoes t h = entryGoes s h := by
    funext x
    rw [entryGoes, entryGoes, direction]
  simp only [Machine.sentCycle, sendPattern, buildFrames, cycleItems, placedItems, itemHalf, entryHalf, now,
    number, link, pattern, items]

theorem probeDue_closeCycle {s : State} {c : RingCycle} (latest : s.rgm.cycle = some c) :
    probeDue (closeCycle s) = probeDue (decideLink s c) := by
  rw [probeDue, probeDue, (closeCycle_only s).tbs (by decide), decideLink_tbs, (closeCycle_closes latest).ring]

theorem startCycle_starts {s : State} {c : RingCycle} (latest : s.rgm.cycle = some c) :
    ∃ entries, Starts c s (decideLink s c) (startCycle s) (probeDue (decideLink s c)) entries := by
  have decided := decideLink_decided s c
  have closes := closeCycle_closes latest
  have now : (closeCycle s).now = s.now := (closeCycle_only s).now (by decide)
  have tbs : (closeCycle s).tbs = s.tbs := (closeCycle_only s).tbs (by decide)
  have due := probeDue_closeCycle latest
  rw [startCycle_eq, due]
  let u := cycleReady s
  let probe := probeDue (decideLink s c)
  have started := finishCycle_rgm u probe
  obtain ⟨-, length⟩ := cycleEntries_filled u probe
  have same : SameSending u (finishCycle u probe) :=
    ⟨(finishCycle_only u probe).now (by decide), by rw [started], by rw [started], by rw [started],
      by rw [started], by rw [started]⟩
  rw [← same.sentCycle] at started
  have ready : u.rgm = { (closeCycle s).rgm with
      stations := u.rgm.stations
      cycleNumber := (closeCycle s).rgm.cycleNumber + 1#16
      probeCount := if (closeCycle s).rgm.link = .forward then (closeCycle s).rgm.probeCount
        else if probe then 0 else (closeCycle s).rgm.probeCount + 1 } := by
    rw [show probe = probeDue (closeCycle s) from due.symm]
    rfl
  have number : (decideLink s c).rgm.cycleNumber = s.rgm.cycleNumber := by rw [decided.ring]
  have send : (decideLink s c).rgm.sendLatest = s.rgm.sendLatest := by rw [decided.ring]
  have unow : u.now = s.now := now
  have utbs : u.tbs = s.tbs := tbs
  refine ⟨_, ?ring, same.now.trans now, fun p => ?station, ?items, ?scan, length, fun down => ?idle⟩
  case ring =>
    rw [started, ready, closes.ring, unow, utbs, number, send]
  case station =>
    have stations : (finishCycle u probe).rgm.stations[p] = stepStation (closeCycle s).tbs.ring
        (decide (s.rgm.stations[p].state = .faulty)) (closeCycle s).rgm.stations[p] :=
      (congrArg (fun v : Vector Station 24 => v[p]) same.stations).trans (ofFn_get _ p)
    rw [stations, tbs, closes.station]
  case items =>
    rw [same.items, ready]
    exact closes.items
  case scan =>
    rw [started, ready]
    exact closes.scan
  case idle =>
    refine cycleEntries_of_down ?_ probe
    rw [ready, closes.ring]
    exact down

/-! ## One station at a cycle start (R88, R99, R100) -/

/-- What the close leaves of an ENROLLED station, step 2 leaves too: one that has just become FAULTY was not
FAULTY before (R100). -/
theorem stepStation_of_live (rt : RingTable) {r : Station} (live : r.state = .enrolled ∨ r.state = .faulty) :
    stepStation rt false r = r := by
  unfold stepStation
  rcases live with state | state
  · rw [state]
  · rw [state]
    rfl

theorem stepStation_member (rt : RingTable) (was : Bool) (r : Station) :
    (stepStation rt was r).member = r.member := by
  unfold stepStation
  split
  · split
    · split <;> rfl
    · rfl
  all_goals rfl

theorem missedStation_member (rt : RingTable) (c : RingCycle) (p : RingPos) (r : Station) :
    (missedStation rt c p r).member = r.member := by
  unfold missedStation
  split
  · split <;> rfl
  · rfl

theorem closedStation_member (rt : RingTable) (counted : Bool) (c : RingCycle) (p : RingPos) (r : Station) :
    (closedStation rt counted c p r).member = memberAfter c p r.member := by
  unfold closedStation
  dsimp only
  split
  · exact missedStation_member _ _ _ _
  · rfl

/-- A station that the close does not count as missing (R99). -/
theorem closedStation_of_spared (rt : RingTable) {counted : Bool} {c : RingCycle} {p : RingPos}
    {r : Station} (spared : counted = true → r.state = .enrolled → c.heard p = true) :
    closedStation rt counted c p r = { r with member := memberAfter c p r.member } := by
  unfold closedStation
  cases counted with
  | false => rfl
  | true =>
    rw [if_pos rfl, missedStation, if_neg]
    rintro ⟨enrolled, unheard⟩
    rw [spared rfl enrolled] at unheard
    cases unheard

/-- An ENROLLED station that misses a counted close (R99, R100). -/
theorem closedStation_of_missed (rt : RingTable) {c : RingCycle} {p : RingPos} {r : Station}
    (enrolled : r.state = .enrolled) (unheard : c.heard p = false) :
    closedStation rt true c p r =
      let missed := { r with member := memberAfter c p r.member, miss := min 15 (r.miss + 1) }
      if rt.stationTimeout ≤ min 15 (r.miss + 1) then
        { missed with state := .faulty, inhibit := rt.inhibitInterval } else missed := by
  rw [closedStation, if_pos rfl, missedStation, if_pos ⟨enrolled, unheard⟩]
  rfl

theorem closedStation_live (rt : RingTable) (counted : Bool) (c : RingCycle) (p : RingPos) {r : Station}
    (enrolled : r.state = .enrolled) :
    (closedStation rt counted c p r).state = .enrolled ∨ (closedStation rt counted c p r).state = .faulty := by
  unfold closedStation missedStation
  dsimp only
  split
  · split
    · split
      · exact .inr rfl
      · exact .inl enrolled
    · exact .inl enrolled
  · exact .inl enrolled

/-- Step 2 of a cycle start leaves a station that was ENROLLED as the close has left it. -/
theorem Starts.station_of_enrolled {c : RingCycle} {s j t : State} {probe : Bool} {entries : List FireEntry}
    (starts : Starts c s j t probe entries) {p : RingPos} (enrolled : s.rgm.stations[p].state = .enrolled) :
    t.rgm.stations[p] = if c.probe then s.rgm.stations[p]
      else closedStation s.tbs.ring (countsMisses j c) c p s.rgm.stations[p] := by
  have before : decide (s.rgm.stations[p].state = .faulty) = false := by rw [enrolled]; rfl
  rw [starts.station, before]
  refine stepStation_of_live _ ?_
  split
  · exact .inl enrolled
  · exact closedStation_live _ _ _ _ enrolled

theorem Starts.member {c : RingCycle} {s j t : State} {probe : Bool} {entries : List FireEntry}
    (starts : Starts c s j t probe entries) (p : RingPos) : t.rgm.stations[p].member =
      if c.probe then s.rgm.stations[p].member else memberAfter c p s.rgm.stations[p].member := by
  rw [starts.station, stepStation_member]
  split
  · rfl
  · exact closedStation_member _ _ _ _ _

theorem countsMisses_of_returned {s : State} {c : RingCycle} (returned : c.returned = true) :
    countsMisses s c = true := by
  rw [countsMisses, returned]
  rfl

/-- A station that becomes FAULTY at the close has STATION_FAULT set after the cycle start (R100). -/
theorem startCycle_fault {s : State} {c : RingCycle} {p : RingPos} (latest : s.rgm.cycle = some c)
    (running : c.probe = false) (counted : countsMisses (decideLink s c) c = true)
    (enrolled : s.rgm.stations[p].state = .enrolled) (unheard : c.heard p = false)
    (limit : s.tbs.ring.stationTimeout ≤ min 15 (s.rgm.stations[p].miss + 1)) :
    (startCycle s).hasFlag .stationFault = true := by
  let u := updateMembers (decideLink s c) c
  let w := countMisses u c
  have decided := decideLink_decided s c
  have tbs : u.tbs = s.tbs := ((updateMembers_only _ c).tbs (by decide)).trans (decideLink_tbs s c)
  have station : u.rgm.stations[p] =
      { s.rgm.stations[p] with member := memberAfter c p s.rgm.stations[p].member } := by
    have stations : (decideLink s c).rgm.stations = s.rgm.stations := by rw [decided.ring]
    change (updateMembers _ c).rgm.stations[p] = _
    rw [updateMembers, State.setRgm_rgm, ofFn_get, stations]
  have counted : countsMisses u c = true := (countsMisses_updateMembers _ c).trans counted
  have flagged : w.hasFlag .stationFault = true := by
    have all : w = (List.finRange 24).foldl (missOne c) u := if_pos counted
    rw [all]
    exact foldl_missOne_flag (List.mem_finRange p) (List.nodup_finRange 24) (by rw [station]; exact enrolled)
      unheard (by rw [station, tbs]; exact limit)
  have closed : closeCycle s = endItems (closeScan w c) c := by
    rw [closeCycle, latest]
    simp only [running, Bool.false_eq_true, if_false, closeRunning]
    rw [show judgeCycle s c = decideLink s c by rw [decideLink, running]; rfl]
  have after : Only cycleBlocks w (startCycle s) := by
    rw [startCycle, closed]
    exact Only.trans (.of (closeScan_only w c) rfl) (Only.trans (.of (endItems_only _ c) rfl)
      (Only.trans (.of (stepStations_only _ _) rfl) (.of (runCycle_only _) rfl)))
  exact after.clear (by decide) _ flagged

/-! ## A cycle start in FORWARD (R80 to R82) -/

/-- A cycle that has come back leaves FORWARD as it is (R88). -/
theorem decideLink_of_forward {s : State} {c : RingCycle} (forward : s.rgm.link = .forward)
    (running : c.probe = false) (returned : c.returned = true) : decideLink s c = s.setRuns 0 0 := by
  have link : (s.setRuns 0 0).rgm.link = .forward := forward
  unfold decideLink judgeCycle closeReturned
  simp only [running, returned, link, Bool.false_eq_true, if_false, if_true]

theorem sentCycle_of_forward {s : State} (forward : s.rgm.link = .forward) (entries : List FireEntry) :
    sentCycle s false entries = {
      probe := false, pattern := .forward
      frames := [⟨.f, s.rgm.cycleNumber, s.now, (s.rgm.items.take 4).map fun x => (x.pos, x.kind), entries⟩]
      returnedF := false, returnedR := false, overrun := false, lastReturn := none
      heardF := fill 24 false, heardR := fill 24 false } := by
  have pattern : sendPattern s = .forward := by rw [sendPattern, forward]
  rw [sentCycle, buildFrames, pattern]
  rfl

/-- Settles O51: the values of the Ring Master are read off the cycle start, the stations one by one. -/
theorem ringCycleStartSendsAFrame : Obligations.RingCycleStartSendsAFrame := by
  intro s n i c forward latest running returnedF armed reached
  have returned : c.returned = true := by rw [RingCycle.returned, returnedF]; rfl
  have decides : decideLink (s.at n) c = (s.at n).setRuns 0 0 :=
    decideLink_of_forward (s := s.at n) forward running returned
  obtain ⟨entries, starts⟩ := startCycle_starts (s := s.at n) latest
  have only := startCycle_only (s.at n)
  rw [decides] at starts
  have counted : countsMisses ((s.at n).setRuns 0 0) c = true := countsMisses_of_returned returned
  have due : probeDue ((s.at n).setRuns 0 0) = false := by
    simp only [probeDue, State.setRuns_rgm_link, State.at_rgm, forward, ne_eq, not_true_eq_false, decide_false,
      Bool.false_and]
  rw [due] at starts
  generalize run : startCycle (s.at n) = t at *
  have link : t.rgm.link = .forward := by rw [starts.ring]; exact forward
  have number : t.rgm.cycleNumber = s.rgm.cycleNumber + 1#16 := by rw [starts.ring]; rfl
  have station {p : RingPos} (enrolled : s.rgm.stations[p].state = .enrolled) : t.rgm.stations[p] =
      closedStation s.tbs.ring true c p s.rgm.stations[p] := by
    rw [starts.station_of_enrolled (s := s.at n) enrolled, running, counted]
    rfl
  have now : t.now = n := starts.now
  refine ⟨t, entries, (exec_ringCycleStart armed reached).trans (congrArg Host.Outcome.next run), starts.length,
    link, number, by rw [starts.ring]; rfl, by rw [starts.ring]; rfl, by rw [starts.ring]; rfl, ?cycle,
    fun x mem => starts.items.mem mem, by rw [starts.ring]; rfl, by rw [starts.ring]; rfl,
    by rw [starts.ring]; exact if_pos forward, starts.scan, fun p pattern heard => ?member,
    fun p enrolled => ⟨fun heard => ?heard, fun silentF silentR => ?silent⟩, by rw [starts.ring]; rfl,
    by rw [starts.ring]; rfl, only.pru (by decide), only.exm (by decide), only.lvm (by decide),
    only.tbs (by decide), only.pending (by decide), only.olp_but_sticky (by decide) (by decide) (by decide)⟩
  case cycle =>
    have cycle : t.rgm.cycle = some (sentCycle t false entries) := by rw [starts.ring]
    rw [cycle, sentCycle_of_forward link, number, now]
  case member =>
    rw [starts.member, running, memberAfter, pattern]
    exact if_pos heard
  case heard =>
    have heard : c.heard p = true := Bool.or_eq_true_iff.mpr heard
    rw [station enrolled, closedStation_of_spared _ fun _ _ => heard]
    exact ⟨enrolled, rfl⟩
  case silent =>
    have silent : c.heard p = false := by rw [RingCycle.heard, silentF, silentR]; rfl
    rw [station enrolled, closedStation_of_missed _ enrolled silent]
    refine ⟨fun below => ?_, fun limit => ?_⟩
    · rw [if_neg (Nat.not_le.mpr below)]
      exact ⟨enrolled, rfl⟩
    · have fault := startCycle_fault (s := s.at n) latest running (by rw [decides]; exact counted) enrolled
        silent limit
      rw [if_pos limit]
      exact ⟨rfl, rfl, rfl, run ▸ fault⟩

end Sys2Proof.Machine
end

section
/-! PROOFS. How a close decides the link status, and by what status the next cycle goes out (O53). -/

namespace Sys2Proof.Machine

/-! ## The status, the runs and the down cause that a close gives (R88 to R94) -/

/-- The loopback status that the returned halves of a cycle give (R90). -/
def RingCycle.halves (c : RingCycle) : LinkStatus :=
  if c.returnedF = c.returnedR then .loopbackBoth
  else if c.returnedF then .loopbackF else .loopbackR

theorem RingCycle.halves_eq (c : RingCycle) : halvesStatus c.returnedF c.returnedR = c.halves := by
  unfold halves
  cases c.returnedF <;> cases c.returnedR <;> rfl

theorem RingCycle.halves_ne_down (c : RingCycle) : c.halves ≠ .down := by
  unfold halves
  split
  · nofun
  · split <;> nofun

/-- The status after a returned close (R88, R90, R92). -/
def returnedLink (s : State) (c : RingCycle) : LinkStatus :=
  match s.rgm.link with
  | .loopbackBoth | .loopbackF | .loopbackR => c.halves
  | .down =>
    match sendPattern s with
    | .forward => .forward
    | .reverse => .reverse
    | .loopback => c.halves
  | _ => s.rgm.link

/-- The status and the runs after a close; `succeeded` for a probe that succeeds (R88 to R94). -/
def linkVerdict (s : State) (c : RingCycle) (succeeded : Bool) : LinkStatus × (Nat × Nat) :=
  let late := min 8 (s.rgm.overrunRun + 1)
  let lost := min 8 (s.rgm.failRun + 1)
  if c.probe then
    if succeeded then (.forward, (0, 0)) else (s.rgm.link, (s.rgm.failRun, s.rgm.overrunRun))
  else if c.returned then (returnedLink s c, (0, 0))
  else if c.overrun then
    (if s.tbs.ring.loopFailCount ≤ late then .down else s.rgm.link, (s.rgm.failRun, late))
  else if s.tbs.ring.loopFailCount ≤ lost then
    match s.rgm.link with
    | .forward => (.reverse, (0, 0))
    | .reverse => (.loopbackBoth, (0, 0))
    | _ => (.down, (lost, 0))
  else (s.rgm.link, (lost, 0))

/-- The down cause and the down pattern after a close that gives the status `new` (R90 to R92, R94). -/
def downVerdict (s : State) (c : RingCycle) (succeeded : Bool) (new : LinkStatus) :
    DownCause × Option Pattern :=
  if new = s.rgm.link ∧ succeeded = false then (s.rgm.downCause, s.rgm.downPattern)
  else if new = .down then
    if c.overrun then (.intervalTooShort, some (sendPattern s)) else (.loopLost, some .loopback)
  else if s.rgm.link = .down ∨ succeeded = true then (.none, none)
  else (s.rgm.downCause, s.rgm.downPattern)

/-- `j` holds the verdict of a close: status, runs, down cause, and what a change of status counts and sets. -/
structure LinkVerdict (s : State) (c : RingCycle) (succeeded : Bool) (new : LinkStatus) (runs : Nat × Nat)
    (j : State) : Prop where
  link : j.rgm.link = new
  runs : (j.rgm.failRun, j.rgm.overrunRun) = runs
  down : (j.rgm.downCause, j.rgm.downPattern) = downVerdict s c succeeded new
  switches : j.rgm.loopSwitches = if new = s.rgm.link then s.rgm.loopSwitches else satInc s.rgm.loopSwitches
  probes : new ≠ .forward → j.rgm.probeCount = if s.rgm.link = .forward then 0 else s.rgm.probeCount
  flag : new ≠ s.rgm.link → j.hasFlag .ringChange = true

theorem changeLink_verdict {s u : State} {c : RingCycle} {succeeded : Bool} (x : LinkStatus)
    (link : u.rgm.link = s.rgm.link) (switches : u.rgm.loopSwitches = s.rgm.loopSwitches)
    (probes : u.rgm.probeCount = s.rgm.probeCount)
    (down : (u.rgm.downCause, u.rgm.downPattern) = downVerdict s c succeeded x) :
    LinkVerdict s c succeeded x (u.rgm.failRun, u.rgm.overrunRun) (changeLink u x) := by
  have ring := changeLink_rgm u x
  by_cases same : s.rgm.link = x
  · have still : changeLink u x = u := if_pos (link.trans same)
    rw [still]
    refine ⟨link.trans same, rfl, down, ?_, fun other => ?_, fun other => absurd same.symm other⟩
    · rw [if_pos same.symm, switches]
    · rw [if_neg fun forward => other (same ▸ forward), probes]
  · rw [if_neg (by rwa [link])] at ring
    refine ⟨by rw [ring]; rfl, by rw [ring]; rfl, by rw [ring]; exact down, ?_, fun _ => ?_, fun _ => ?_⟩
    · rw [ring, if_neg (Ne.symm same), ← switches, switchedLink]
    · rw [ring, ← link, ← probes, switchedLink]
    · rw [changeLink, if_neg (by rwa [link])]
      exact (bothGroups_only _ _).clear (by decide) _ (setAt_get _ _ _)

/-- A close that changes no status. -/
theorem verdict_of_same {s u : State} {c : RingCycle} (link : u.rgm.link = s.rgm.link)
    (switches : u.rgm.loopSwitches = s.rgm.loopSwitches) (probes : u.rgm.probeCount = s.rgm.probeCount)
    (down : (u.rgm.downCause, u.rgm.downPattern) = (s.rgm.downCause, s.rgm.downPattern)) :
    LinkVerdict s c false s.rgm.link (u.rgm.failRun, u.rgm.overrunRun) u := by
  have still : changeLink u s.rgm.link = u := if_pos link
  have verdict := changeLink_verdict (c := c) (succeeded := false) s.rgm.link link switches probes
    (down.trans (if_pos ⟨rfl, rfl⟩).symm)
  rwa [still] at verdict

section
variable {s : State} {c : RingCycle} {new : LinkStatus}

theorem downVerdict_of_up (old : s.rgm.link ≠ .down) (up : new ≠ .down) :
    downVerdict s c false new = (s.rgm.downCause, s.rgm.downPattern) := by
  unfold downVerdict
  split
  · rfl
  · simp only [old, if_false, false_or, Bool.false_eq_true]

theorem downVerdict_of_left (old : s.rgm.link = .down) (up : new ≠ .down) :
    downVerdict s c false new = (.none, none) := by
  unfold downVerdict
  rw [if_neg (by simp [old, up]), if_neg up, if_pos (.inl old)]

theorem downVerdict_of_fallen (old : s.rgm.link ≠ .down) : downVerdict s c false .down =
    if c.overrun then (.intervalTooShort, some (sendPattern s)) else (.loopLost, some .loopback) := by
  unfold downVerdict
  rw [if_neg (by simp [Ne.symm old]), if_pos rfl]

theorem closeReturned_verdict (live : s.rgm.link ≠ .stopped)
    (known : s.rgm.link = .down → s.rgm.downPattern.isSome = true) :
    LinkVerdict s c false (returnedLink s c) (0, 0) (closeReturned s c) := by
  unfold closeReturned returnedLink
  rw [c.halves_eq]
  dsimp only
  cases old : s.rgm.link
  case stopped => exact absurd old live
  case forward | reverse =>
    simp only [State.setRuns_rgm_link, old]
    rw [← old]
    exact verdict_of_same (u := s.setRuns 0 0) rfl rfl rfl rfl
  case loopbackBoth | loopbackF | loopbackR =>
    simp only [State.setRuns_rgm_link, old]
    exact changeLink_verdict (u := s.setRuns 0 0) c.halves rfl rfl rfl
      (downVerdict_of_up (by simp [old]) c.halves_ne_down).symm
  case down =>
    obtain ⟨pattern, sent⟩ := Option.isSome_iff_exists.mp (known old)
    have sends : sendPattern s = pattern := by rw [sendPattern, old, sent]; rfl
    have kept : (s.setRuns 0 0).rgm.downPattern = some pattern := sent
    have leaves (x : LinkStatus) (up : x ≠ .down) :
        LinkVerdict s c false x (0, 0) (changeLink (clearDown (s.setRuns 0 0)) x) :=
      changeLink_verdict (u := clearDown (s.setRuns 0 0)) x rfl rfl rfl (downVerdict_of_left old up).symm
    simp only [State.setRuns_rgm_link, old, sends, kept]
    cases pattern with
    | forward => exact leaves .forward nofun
    | reverse => exact leaves .reverse nofun
    | loopback => exact leaves c.halves c.halves_ne_down

theorem goDown_verdict {s u : State} {c : RingCycle} (cause : DownCause) (old : s.rgm.link ≠ .down)
    (link : u.rgm.link = s.rgm.link) (switches : u.rgm.loopSwitches = s.rgm.loopSwitches)
    (probes : u.rgm.probeCount = s.rgm.probeCount)
    (noted : (cause, some (sendPattern u)) =
      if c.overrun then (.intervalTooShort, some (sendPattern s)) else (.loopLost, some .loopback)) :
    LinkVerdict s c false .down (u.rgm.failRun, u.rgm.overrunRun) (goDown u cause) :=
  changeLink_verdict (u := noteDown u cause) .down link switches probes
    (noted.trans (downVerdict_of_fallen old).symm)

theorem closeLate_verdict (overrun : c.overrun = true) :
    let late := min 8 (s.rgm.overrunRun + 1)
    LinkVerdict s c false (if s.tbs.ring.loopFailCount ≤ late then .down else s.rgm.link)
      (s.rgm.failRun, late) (closeLate s) := by
  intro late
  let u := s.setRuns s.rgm.failRun late
  have same : LinkVerdict s c false s.rgm.link (s.rgm.failRun, late) u :=
    verdict_of_same (u := u) rfl rfl rfl rfl
  change LinkVerdict s c false _ _
    (if s.tbs.ring.loopFailCount ≤ late ∧ s.rgm.link ≠ .down then goDown u .intervalTooShort else u)
  by_cases limit : s.tbs.ring.loopFailCount ≤ late
  · rw [if_pos limit]
    by_cases old : s.rgm.link = .down
    · rw [if_neg fun h => h.2 old, ← old]
      exact same
    · rw [if_pos ⟨limit, old⟩]
      exact goDown_verdict (u := u) _ old rfl rfl rfl (by rw [if_pos overrun]; rfl)
  · rw [if_neg limit, if_neg fun h => limit h.1]
    exact same

theorem closeLost_verdict (live : s.rgm.link ≠ .stopped) (intact : c.overrun = false) :
    let lost := min 8 (s.rgm.failRun + 1)
    let verdict : LinkStatus × (Nat × Nat) :=
      if s.tbs.ring.loopFailCount ≤ lost then
        match s.rgm.link with
        | .forward => (.reverse, (0, 0))
        | .reverse => (.loopbackBoth, (0, 0))
        | _ => (.down, (lost, 0))
      else (s.rgm.link, (lost, 0))
    LinkVerdict s c false verdict.1 verdict.2 (closeLost s) := by
  intro lost verdict
  let u := s.setRuns lost 0
  have same : LinkVerdict s c false s.rgm.link (lost, 0) u := verdict_of_same (u := u) rfl rfl rfl rfl
  change LinkVerdict s c false _ _ (if s.tbs.ring.loopFailCount ≤ lost then failLink u else u)
  by_cases limit : s.tbs.ring.loopFailCount ≤ lost
  · simp only [verdict, if_pos limit, failLink]
    change LinkVerdict s c false _ _ (match s.rgm.link with
      | .forward => changeLink (u.setRuns 0 0) .reverse
      | .reverse => changeLink (u.setRuns 0 0) .loopbackBoth
      | .loopbackBoth => goDown u .loopLost
      | .loopbackF => goDown u .loopLost
      | .loopbackR => goDown u .loopLost
      | .down => u
      | .stopped => u)
    cases old : s.rgm.link
    case stopped => exact absurd old live
    case forward | reverse =>
      exact changeLink_verdict (s := s) (u := u.setRuns 0 0) _ rfl rfl rfl
        (downVerdict_of_up (s := s) (by simp [old]) (by simp)).symm
    case loopbackBoth | loopbackF | loopbackR =>
      have sends : sendPattern u = .loopback := by rw [sendPattern, show u.rgm.link = _ from old]
      exact goDown_verdict (u := u) _ (by simp [old]) rfl rfl rfl
        (by rw [sends, if_neg (by simp [intact])])
    case down =>
      rw [old] at same
      exact same
  · simp only [verdict, if_neg limit]
    exact same

theorem closeProbe_verdict :
    let succeeded := probeSucceeds s c
    let verdict : LinkStatus × (Nat × Nat) :=
      if succeeded then (.forward, (0, 0)) else (s.rgm.link, (s.rgm.failRun, s.rgm.overrunRun))
    LinkVerdict s c succeeded verdict.1 verdict.2 (closeProbe s c) := by
  unfold closeProbe
  dsimp only
  cases probeSucceeds s c with
  | false => exact verdict_of_same (s := s) (u := s) rfl rfl rfl rfl
  | true =>
    refine changeLink_verdict (s := s) (u := clearDown (s.setRuns 0 0)) .forward rfl rfl rfl ?_
    rw [downVerdict, if_neg (by simp), if_neg nofun, if_pos (.inr rfl)]
    rfl

/-- A probe succeeds: it returned with a good slot from every ENROLLED station (R94). -/
def closeSucceeds (s : State) (c : RingCycle) : Bool := c.probe && probeSucceeds s c

theorem decideLink_verdict (live : s.rgm.link ≠ .stopped)
    (known : s.rgm.link = .down → s.rgm.downPattern.isSome = true) :
    let verdict := linkVerdict s c (closeSucceeds s c)
    LinkVerdict s c (closeSucceeds s c) verdict.1 verdict.2 (decideLink s c) := by
  unfold closeSucceeds linkVerdict decideLink
  dsimp only
  cases probe : c.probe with
  | true => exact closeProbe_verdict
  | false =>
    simp only [Bool.false_and, Bool.false_eq_true, if_false, judgeCycle]
    cases returned : c.returned with
    | true => exact closeReturned_verdict live known
    | false =>
      cases overrun : c.overrun with
      | true => exact closeLate_verdict overrun
      | false => exact closeLost_verdict live overrun

end

/-! ## The close and the next cycle (R81, R88, R94) -/

theorem closeSucceeds_iff (s : State) (c : RingCycle) : closeSucceeds s c = true ↔
    c.probe = true ∧ c.returned = true ∧ ∀ p : RingPos, s.rgm.stations[p].state = .enrolled →
      ¬ (c.heardF[p] = false ∧ c.heardR[p] = false) := by
  have heard (p : RingPos) : c.heard p = true ↔ ¬ (c.heardF[p] = false ∧ c.heardR[p] = false) := by
    rw [RingCycle.heard]
    cases c.heardF[p] <;> cases c.heardR[p] <;> decide
  have station (p : RingPos) : (!decide (s.rgm.stations[p].state = .enrolled) || c.heard p) = true ↔
      (s.rgm.stations[p].state = .enrolled → c.heard p = true) := by
    rw [Bool.or_eq_true, Bool.not_eq_true', decide_eq_false_iff_not]
    exact imp_iff_not_or.symm
  simp only [closeSucceeds, probeSucceeds, Bool.and_eq_true, List.all_eq_true, List.mem_finRange, true_implies,
    station, heard]

theorem startCycle_after_decideLink {s : State} {c : RingCycle} (latest : s.rgm.cycle = some c) :
    Only cycleBlocks (decideLink s c) (startCycle s) := by
  have closed : Only cycleBlocks (decideLink s c) (closeCycle s) := by
    rw [closeCycle, latest]
    refine Only.trans ?_ (Only.trans (.of (closeScan_only _ c) rfl) (.of (endItems_only _ c) rfl))
    unfold decideLink
    split
    · exact .refl _ _
    · exact Only.trans (.of (updateMembers_only _ c) rfl) (countMisses_only _ c)
  exact closed.trans (Only.trans (.of (stepStations_only _ _) rfl) (.of (runCycle_only _) rfl))

theorem sentCycle_pattern (s : State) (entries : List FireEntry) :
    ((sentCycle s false entries).pattern, (sentCycle s false entries).frames.map CycleFrame.marker) =
      match sendPattern s with
      | .forward => (.forward, [.f])
      | .reverse => (.reverse, [.r])
      | .loopback => (.loopback, [.f, .r]) := by
  unfold sentCycle buildFrames
  cases sendPattern s <;> rfl

theorem sentCycle_frame {s : State} {entries : List FireEntry} {f : CycleFrame}
    (mem : f ∈ (sentCycle s false entries).frames) :
    f.number = s.rgm.cycleNumber ∧ f.stamp = s.now ∧ (entries = [] → f.entries = []) := by
  unfold sentCycle buildFrames at mem
  simp only [Bool.false_eq_true, if_false] at mem
  split at mem
  · rw [List.mem_singleton.mp mem]
    exact ⟨rfl, rfl, id⟩
  · rw [List.mem_singleton.mp mem]
    exact ⟨rfl, rfl, id⟩
  · rcases List.mem_pair.mp mem with same | same <;> rw [same] <;>
      exact ⟨rfl, rfl, fun none => by rw [none]; rfl⟩

/-- Settles O53: the close decides status and runs by its class, and the cycle start reads them. -/
theorem closesDecideTheLinkStatus : Obligations.ClosesDecideTheLinkStatus := by
  intro s n i c latest armed reached live known rt old back unheard halves way late lost
  let u := s.at n
  have verdict := decideLink_verdict (s := u) (c := c) live known
  obtain ⟨entries, starts⟩ := startCycle_starts (s := u) latest
  have only := startCycle_only u
  have flags := startCycle_after_decideLink (s := u) latest
  generalize run : startCycle u = t at *
  have sends : sendPattern u = way := by
    change sendPattern s = _
    unfold sendPattern
    dsimp only [way, old]
    cases s.rgm.link <;> rfl
  refine ⟨(linkVerdict u c (closeSucceeds u c)).1, (linkVerdict u c (closeSucceeds u c)).2,
    closeSucceeds u c, t, (exec_ringCycleStart armed reached).trans (congrArg Host.Outcome.next run),
    closeSucceeds_iff u c, ?verdict, ?link, ?fail, ?overrun, ?causes, ?switches, fun change => ?flag,
    fun p => ?member, fun p enrolled => ?misses, ?next, only.pru (by decide), only.exm (by decide),
    only.lvm (by decide), only.tbs (by decide), only.pending (by decide),
    only.olp_but_sticky (by decide) (by decide) (by decide)⟩
  case verdict =>
    change linkVerdict u c (closeSucceeds u c) = _
    rw [linkVerdict, returnedLink, sends]
    rfl
  case link => rw [starts.ring]; exact verdict.link
  case fail => rw [starts.ring]; exact congrArg Prod.fst verdict.runs
  case overrun => rw [starts.ring]; exact congrArg Prod.snd verdict.runs
  case causes =>
    rw [← sends, starts.ring]
    exact verdict.down
  case switches => rw [starts.ring]; exact verdict.switches
  case flag => exact flags.clear (by decide) _ (verdict.flag change)
  case member =>
    rw [starts.member]
    refine if_congr Iff.rfl rfl ?_
    unfold memberAfter
    cases c.pattern <;> cases c.heardF[p] <;> cases c.heardR[p] <;> rfl
  case misses =>
    have station := starts.station_of_enrolled (s := u) enrolled
    have counting : countsMisses (decideLink u c) c = true ↔
        c.returned = true ∨ (linkVerdict u c (closeSucceeds u c)).1 = .down := by
      rw [countsMisses, verdict.link, Bool.or_eq_true, decide_eq_true_eq]
    have silent : c.heard p = false ↔ unheard p := Bool.or_eq_false_iff
    rw [station]
    refine ⟨fun spared => ?_, fun ⟨running, counts, alone⟩ => ?_⟩
    · split
      · exact ⟨enrolled, rfl⟩
      · next running =>
        rw [closedStation_of_spared]
        · exact ⟨enrolled, rfl⟩
        · intro counts _
          rw [← Bool.not_eq_false]
          exact fun alone => spared ⟨Bool.not_eq_true _ ▸ running, counting.mp counts, silent.mp alone⟩
    · rw [if_neg (by rw [running]; nofun), counting.mpr counts,
        closedStation_of_missed (r := u.rgm.stations[p]) _ enrolled (silent.mpr alone)]
      dsimp only
      split
      · next limit => exact ⟨rfl, (if_pos limit).symm⟩
      · next below => exact ⟨rfl, enrolled.trans (if_neg below).symm⟩
  case next =>
    intro count probe
    have link : t.rgm.link = (linkVerdict u c (closeSucceeds u c)).1 := by
      rw [starts.ring]
      exact verdict.link
    have number : t.rgm.cycleNumber = s.rgm.cycleNumber + 1#16 := by rw [starts.ring]; rfl
    have due : probeDue (decideLink u c) = probe := by
      rw [probeDue, verdict.link, decideLink_tbs]
      by_cases forward : (linkVerdict u c (closeSucceeds u c)).1 = .forward
      · simp only [probe, forward, ne_eq, not_true_eq_false, decide_false, Bool.false_and]
      · rw [verdict.probes forward]
        rfl
    rw [due] at starts
    have cycle : t.rgm.cycle = some (sentCycle t probe entries) := by rw [starts.ring]
    refine ⟨fun other => ?_, number, _, cycle, rfl, rfl, rfl, rfl, fun probes => ?_, fun runs => ⟨?_, ?_⟩⟩
    · rw [starts.ring, verdict.link, if_neg other, verdict.probes other]
      rfl
    · rw [probes, sentCycle, buildFrames, if_pos rfl, number, starts.now]
      rfl
    · rw [runs, sentCycle_pattern, sendPattern, ← link]
      cases t.rgm.link with
      | down => cases t.rgm.downPattern with
        | none => rfl
        | some pattern => cases pattern <;> rfl
      | _ => rfl
    · rw [runs]
      intro f mem
      obtain ⟨same, stamp, idle⟩ := sentCycle_frame mem
      exact ⟨same.trans number, stamp.trans starts.now,
        fun down => idle (starts.idle (verdict.link.trans down))⟩

end Sys2Proof.Machine
end

section
/-! PROOFS. The dispatch of fire records: what filling the entry places does to the records, the sequence
numbers and the counters, record by record. -/

namespace Sys2Proof.Machine

/-! ## A record replaced in its place -/

theorem replaceFirst_perm {α : Type} [DecidableEq α] {x : α} (y : α) {xs others : List α}
    (held : xs.Perm (x :: others)) : (replaceFirst x y xs).Perm (y :: others) := by
  have key : ∀ zs : List α, x ∈ zs → (replaceFirst x y zs).Perm (y :: zs.erase x) := by
    intro zs mem
    induction zs with
    | nil => cases mem
    | cons z zs ih =>
      rw [replaceFirst]
      split
      · next same => rw [same, List.erase_cons_head]
      · next other =>
        have later : x ∈ zs := (List.mem_cons.mp mem).resolve_left fun same => other same.symm
        rw [List.erase_cons_tail (by simpa using other)]
        exact ((ih later).cons z).trans (.swap y z _)
  have left := held.erase x
  rw [List.erase_cons_head] at left
  exact (key xs (held.mem_iff.mpr List.mem_cons_self)).trans (left.cons y)

theorem filter_replaceFirst_of_out {α : Type} [DecidableEq α] {f : α → Bool} {x y : α} (xs : List α)
    (old : f x = false) (new : f y = false) : (replaceFirst x y xs).filter f = xs.filter f := by
  induction xs with
  | nil => rfl
  | cons z zs ih =>
    rw [replaceFirst]
    split
    · next same => rw [same, List.filter_cons_of_neg (by simp [new]), List.filter_cons_of_neg (by simp [old])]
    · rw [List.filter_cons, List.filter_cons, ih]

theorem any_replaceFirst (f : FireRecord → Bool) {x y : FireRecord} (same : f y = f x)
    (xs : List FireRecord) : (replaceFirst x y xs).any f = xs.any f := by
  have mapped := congrArg (List.any · id) (map_replaceFirst f x y same xs)
  simpa only [List.any_map, Function.id_comp] using mapped

/-! ## What entries and eligibility are read from (R59, R83) -/

theorem Filled.positionOf {s t : State} (h : Filled s t) (v : Valve) :
    positionOf t v = positionOf s v := by rw [Machine.positionOf, Machine.positionOf, h.tbs]

theorem Filled.entryDirection {s t : State} (h : Filled s t) (p : RingPos) :
    entryDirection t p = entryDirection s p := by
  rw [Machine.entryDirection, Machine.entryDirection, h.ring]

theorem Filled.buildEntry {s t : State} (h : Filled s t) (p : RingPos) (r : FireRecord) (q : Byte) :
    buildEntry t p r q = buildEntry s p r q := by
  have delay : entryDelay t p = entryDelay s p := by
    rw [entryDelay, entryDelay, h.entryDirection]
    simp only [pathDelay, rowAt, h.tbs]
  rw [Machine.buildEntry, Machine.buildEntry, delay]

/-! ## One place (R60 to R62) -/

/-- A filled place: a record, the position it is sent to, and the sequence number it is sent with. -/
structure Placing where
  record : FireRecord
  pos : RingPos
  seq : Byte

/-- The record once its entry has been placed in cycle `n`. -/
def Placing.placed (a : Placing) (n : BitVec 16) : FireRecord := placedRecord a.record a.seq n

/-- The entry that fills the place. -/
def Placing.entry (s : State) (a : Placing) : FireEntry := buildEntry s a.pos a.record a.seq

/-- A record of the valve that has not been sent. -/
def unsent (v : Valve) (r : FireRecord) : Bool := r.seq.isNone && decide (r.valve = v)

/-- What filling the places for the records `rs` does, beside the records `others`: each record is numbered,
changed in its place and counted if it is a resend, and a position steps its number at a first dispatch. -/
structure Dispatches (rs others : List FireRecord) (s t : State) (as : List Placing) : Prop where
  records : as.map Placing.record = rs
  position : ∀ a ∈ as, positionOf s a.record.valve = some a.pos
  numbered : ∀ a ∈ as, ∀ q, a.record.seq = some q → a.seq = q
  perm : t.fsc.records.Perm (as.map (Placing.placed · s.rgm.cycleNumber) ++ others)
  fsc : t.fsc = { s.fsc with records := t.fsc.records, nextSeq := t.fsc.nextSeq }
  resends : t.rgm.retries = countedUp s.rgm.retries (rs.filter isResend).length
  still : (∀ r ∈ rs, r.seq.isSome = true) → t.fsc.nextSeq = s.fsc.nextSeq
  stands : ∀ v p, positionOf s v = some p → (∀ r ∈ rs, unsent v r = false) →
    t.fsc.nextSeq[p] = s.fsc.nextSeq[p]
  first : ∀ r ∈ rs, ∀ p, positionOf s r.valve = some p → s.fsc.records.filter (unsent r.valve) = [r] →
    ⟨r, p, seqTaken s p r⟩ ∈ as ∧ t.fsc.nextSeq[p] = seqTaken s p r + 1#8

theorem positionIn_valve {st : StationTable} {v : Valve} {p : RingPos} (found : positionIn st v = some p) :
    st[p].valve = v := by
  have := List.find?_some found
  simpa using this

/-- Positions of different valves differ (R1). -/
theorem positionOf_injective {s : State} {v w : Valve} {p : RingPos} (hv : positionOf s v = some p)
    (hw : positionOf s w = some p) : v = w := by
  unfold positionOf at hv hw
  split at hv
  · cases hv
  · next st table =>
    rw [table] at hw
    exact (positionIn_valve hv).symm.trans (positionIn_valve hw)

/-- The sequence number of the entry placed for a record (R60, R61). -/
def placedSeq (s : State) (p : RingPos) (r : FireRecord) : Byte := r.seq.getD (seqTaken s p r)

/-- `y` comes from `s` by the filling of one place. -/
structure Places (s : State) (p : RingPos) (r : FireRecord) (y : State) : Prop where
  filled : Filled s y
  fsc : y.fsc = { s.fsc with
    records := replaceFirst r (placedRecord r (placedSeq s p r) s.rgm.cycleNumber) s.fsc.records
    nextSeq := if r.seq.isNone then setAt s.fsc.nextSeq p (placedSeq s p r + 1#8) else s.fsc.nextSeq }
  resends : y.rgm.retries = if isResend r then satInc s.rgm.retries else s.rgm.retries

theorem placeEntry_places {x : State × List FireEntry} {r : FireRecord} {p : RingPos}
    (position : positionOf x.1 r.valve = some p) :
    Places x.1 p r (placeEntry x r).1 ∧
      (placeEntry x r).2 = x.2 ++ [buildEntry x.1 p r (placedSeq x.1 p r)] := by
  unfold placeEntry
  rw [position]
  refine ⟨⟨placeEntryAt_filled _ _ _, ?_, ?_⟩, rfl⟩
  all_goals
    unfold placeEntryAt
    dsimp only
    split <;> split <;> rfl

section
variable {s y t : State} {p : RingPos} {r : FireRecord}

theorem unsent_placedRecord (v : Valve) (r : FireRecord) (q : Byte) (n : BitVec 16) :
    unsent v (placedRecord r q n) = false := rfl

/-- A first dispatch at another valve, or a resend, leaves a position's next number (R60). -/
theorem Places.nextSeq_of_sent (places : Places s p r y) (position : positionOf s r.valve = some p)
    {v : Valve} {k : RingPos} (other : positionOf s v = some k) (sent : unsent v r = false) :
    y.fsc.nextSeq[k] = s.fsc.nextSeq[k] := by
  rw [places.fsc]
  by_cases first : r.seq.isNone = true
  · have apart : p ≠ k := by
      rintro rfl
      have same := positionOf_injective position other
      simp [unsent, first, same] at sent
    simp only [first, if_true]
    exact setAt_get_ne _ _ _ _ apart
  · simp only [first, Bool.false_eq_true, if_false]

theorem Places.seqTaken_of_sent (places : Places s p r y) (position : positionOf s r.valve = some p)
    {x : FireRecord} {k : RingPos} (other : positionOf s x.valve = some k) (sent : unsent x.valve r = false) :
    seqTaken y k x = seqTaken s k x := by
  have next := places.nextSeq_of_sent position other sent
  have carried (n : Byte) : (y.recordsOf x.valve).any (fun z => decide (z.seq = some n)) =
      (s.recordsOf x.valve).any fun z => decide (z.seq = some n) := by
    rw [State.recordsOf, State.recordsOf, List.any_filter, List.any_filter, places.fsc]
    refine any_replaceFirst _ ?_ _
    by_cases own : r.valve = x.valve
    · have numbered : r.seq.isNone = false := by simpa [unsent, own] using sent
      obtain ⟨q, seq⟩ := Option.isSome_iff_exists.mp (Option.isNone_eq_false_iff.mp numbered)
      have kept : placedSeq s p r = q := by rw [placedSeq, seq]; rfl
      rw [kept, placedRecord, seq]
    · simp only [placedRecord, own, decide_false, Bool.false_and]
  rw [seqTaken, seqTaken, next, carried]

/-- The filling of one place, and then of the others. -/
theorem Dispatches.cons {rs others : List FireRecord} {as : List Placing}
    (position : positionOf s r.valve = some p) (places : Places s p r y)
    (held : s.fsc.records.Perm (r :: (rs ++ others)))
    (rest : Dispatches rs (placedRecord r (placedSeq s p r) s.rgm.cycleNumber :: others) y t as) :
    Dispatches (r :: rs) others s t (⟨r, p, placedSeq s p r⟩ :: as) := by
  have number : y.rgm.cycleNumber = s.rgm.cycleNumber := by rw [places.filled.ring]
  refine ⟨by rw [List.map_cons, rest.records], ?position, ?numbered, ?perm, by rw [rest.fsc, places.fsc],
    ?resends, fun all => ?still, fun v k other none => ?stands, fun x mem k own alone => ?first⟩
  case position =>
    intro a mem
    rcases List.mem_cons.mp mem with rfl | later
    · exact position
    · rw [← places.filled.positionOf]
      exact rest.position a later
  case numbered =>
    intro a mem q seq
    rcases List.mem_cons.mp mem with rfl | later
    · exact congrArg (Option.getD · _) seq
    · exact rest.numbered a later q seq
  case perm =>
    have perm := rest.perm
    rw [number] at perm
    exact perm.trans List.perm_middle
  case resends =>
    rw [rest.resends, places.resends, List.filter_cons]
    split
    · rw [List.length_cons, countedUp_satInc]
    · rfl
  case still =>
    have seen : r.seq.isNone = false := Option.isNone_eq_false_iff.mpr (all r List.mem_cons_self)
    rw [rest.still fun x mem => all x (List.mem_cons_of_mem _ mem), places.fsc]
    simp only [seen, Bool.false_eq_true, if_false]
  case stands =>
    have there : positionOf y v = some k := (places.filled.positionOf v).trans other
    rw [rest.stands v k there fun x mem => none x (List.mem_cons_of_mem _ mem),
      places.nextSeq_of_sent position other (none r List.mem_cons_self)]
  case first =>
    have parts := held.filter (unsent x.valve)
    rw [alone] at parts
    by_cases fresh : unsent x.valve r = true
    · rw [List.filter_cons_of_pos fresh] at parts
      obtain ⟨same, spent⟩ := List.cons.inj (List.perm_singleton.mp parts.symm)
      subst same
      obtain rfl : p = k := Option.some.inj (position.symm.trans own)
      have seq : r.seq = none := Option.isNone_iff_eq_none.mp (Bool.and_eq_true_iff.mp fresh).1
      have taken : placedSeq s p r = seqTaken s p r := by rw [placedSeq, seq]; rfl
      have there : positionOf y r.valve = some p := (places.filled.positionOf _).trans own
      refine ⟨by rw [taken]; exact List.mem_cons_self, ?_⟩
      rw [rest.stands r.valve p there fun z mem => ?_, places.fsc]
      · simp only [seq, Option.isNone_none, if_true, setAt_get, taken]
      · exact Bool.eq_false_iff.mpr (List.filter_eq_nil_iff.mp spent z (List.mem_append_left _ mem))
    · have sent := Bool.eq_false_iff.mpr fresh
      have later : x ∈ rs := by
        rcases List.mem_cons.mp mem with rfl | later
        · have mine : x ∈ s.fsc.records.filter (unsent x.valve) := alone ▸ List.mem_singleton_self x
          exact absurd (List.mem_filter.mp mine).2 fresh
        · exact later
      have there : positionOf y x.valve = some k := (places.filled.positionOf _).trans own
      have left : y.fsc.records.filter (unsent x.valve) = [x] := by
        rw [places.fsc, ← alone]
        exact filter_replaceFirst_of_out _ sent (unsent_placedRecord _ _ _ _)
      obtain ⟨placed, next⟩ := rest.first x later k there left
      rw [places.seqTaken_of_sent position own sent] at placed next
      exact ⟨List.mem_cons_of_mem _ placed, next⟩

end

/-- The entry places are filled for records with a position, one after the other. -/
theorem foldl_placeEntry_dispatches (rs others : List FireRecord) (x : State × List FireEntry)
    (held : x.1.fsc.records.Perm (rs ++ others))
    (positioned : ∀ r ∈ rs, (positionOf x.1 r.valve).isSome = true) :
    ∃ as, Dispatches rs others x.1 (rs.foldl placeEntry x).1 as ∧
      (rs.foldl placeEntry x).2 = x.2 ++ as.map (Placing.entry x.1) := by
  induction rs generalizing x others with
  | nil =>
    have vacant {α : Type} {q : Prop} {a : α} (mem : a ∈ ([] : List α)) : q := absurd mem List.not_mem_nil
    exact ⟨[], ⟨rfl, fun _ => vacant, fun _ => vacant, held, rfl, (countedUp_zero _).symm, fun _ => rfl,
      fun _ _ _ _ => rfl, fun _ => vacant⟩, (List.append_nil _).symm⟩
  | cons r rs ih =>
    obtain ⟨p, position⟩ := Option.isSome_iff_exists.mp (positioned r List.mem_cons_self)
    obtain ⟨places, entry⟩ := placeEntry_places (x := x) position
    have left : (placeEntry x r).1.fsc.records.Perm
        (rs ++ placedRecord r (placedSeq x.1 p r) x.1.rgm.cycleNumber :: others) := by
      rw [places.fsc]
      exact (replaceFirst_perm _ held).trans List.perm_middle.symm
    obtain ⟨as, rest, entries⟩ := ih _ (placeEntry x r) left fun z mem => by
      rw [places.filled.positionOf]
      exact positioned z (List.mem_cons_of_mem _ mem)
    refine ⟨_, Dispatches.cons position places held rest, ?_⟩
    have built : as.map (Placing.entry (placeEntry x r).1) = as.map (Placing.entry x.1) :=
      List.map_congr_left fun a _ => places.filled.buildEntry _ _ _
    rw [List.foldl_cons, entries, entry, built, List.map_cons, List.append_assoc]
    rfl

section
variable {rs others : List FireRecord} {s t : State} {as : List Placing}
  (dispatches : Dispatches rs others s t as)
include dispatches

/-- A record sent before is placed with the number it has (R61). -/
theorem Dispatches.mem_of_numbered {r : FireRecord} {p : RingPos} {q : Byte} (mem : r ∈ rs)
    (position : positionOf s r.valve = some p) (seq : r.seq = some q) : ⟨r, p, q⟩ ∈ as := by
  obtain ⟨a, inside, rfl⟩ := List.mem_map.mp (dispatches.records ▸ mem)
  have pos : a.pos = p := Option.some.inj ((dispatches.position a inside).symm.trans position)
  rw [← pos, ← dispatches.numbered a inside q seq]
  exact inside

theorem Dispatches.placed_mem {a : Placing} (inside : a ∈ as) :
    a.placed s.rgm.cycleNumber ∈ t.fsc.records :=
  dispatches.perm.mem_iff.mpr (List.mem_append_left _ (List.mem_map_of_mem inside))

theorem Dispatches.mem_of_not_sent (held : s.fsc.records.Perm (rs ++ others)) {r : FireRecord}
    (mem : r ∈ s.fsc.records) (out : r ∉ rs) : r ∈ t.fsc.records :=
  dispatches.perm.mem_iff.mpr
    (List.mem_append_right _ ((List.mem_append.mp (held.mem_iff.mp mem)).resolve_left out))

theorem Dispatches.length_eq (held : s.fsc.records.Perm (rs ++ others)) :
    t.fsc.records.length = s.fsc.records.length := by
  rw [dispatches.perm.length_eq, held.length_eq, List.length_append, List.length_append, List.length_map,
    ← dispatches.records, List.length_map]

end

end Sys2Proof.Machine
end

section
/-! PROOFS. A cycle start that leaves the link status as it is, and the dispatch of fire records in it (O52). -/

namespace Sys2Proof.Machine

/-! ## The records that fill the places (R59, R61) -/

theorem candidates_perm (s : State) (start : Time) (k : Nat) :
    ∃ others, s.fsc.records.Perm ((candidates s start).take k ++ others) := by
  let es := s.fsc.records.filter (eligible s start)
  have chosen : (candidates s start).Perm es :=
    ((sortBy_perm _ _).append_right _).trans (List.filter_append_perm FireRecord.ending es)
  have parts := (chosen.append_right (s.fsc.records.filter fun r => !eligible s start r)).trans
    (List.filter_append_perm (eligible s start) s.fsc.records)
  refine ⟨(candidates s start).drop k ++ s.fsc.records.filter fun r => !eligible s start r, ?_⟩
  rw [← List.append_assoc, List.take_append_drop]
  exact parts.symm

theorem eligible_of_mem_candidates {s : State} {start : Time} {r : FireRecord}
    (mem : r ∈ candidates s start) : eligible s start r = true := by
  have among : r ∈ s.fsc.records.filter (eligible s start) := by
    rcases List.mem_append.mp mem with ends | fires
    · exact (List.mem_filter.mp ((sortBy_perm _ _).mem_iff.mp ends)).1
    · exact (List.mem_filter.mp fires).1
  exact (List.mem_filter.mp among).2

theorem position_of_eligible {s : State} {start : Time} {r : FireRecord}
    (fit : eligible s start r = true) : (positionOf s r.valve).isSome = true := by
  unfold eligible at fit
  split at fit
  · cases fit
  · next position => rw [position]; rfl

theorem fillEntries_dispatches (s : State) : ∃ as others,
    s.fsc.records.Perm ((candidates s s.now).take 8 ++ others) ∧
      Dispatches ((candidates s s.now).take 8) others s (fillEntries s).1 as ∧
      (fillEntries s).2 = as.map (Placing.entry s) := by
  obtain ⟨others, held⟩ := candidates_perm s s.now 8
  obtain ⟨as, dispatches, entries⟩ := foldl_placeEntry_dispatches _ others (s, []) held fun r mem =>
    position_of_eligible (eligible_of_mem_candidates (List.mem_of_mem_take mem))
  exact ⟨as, others, held, dispatches, entries⟩

/-! ## Eligibility by the path delay (R59, R83) -/

/-- The direction by which the frame reaches the position of a record's valve, if it does (R83, R93). -/
def entryWay (s : State) (r : FireRecord) : Option Half :=
  match positionOf s r.valve with
  | none => none
  | some p => entryDirection s p

/-- The station-local due time of a record (R83). -/
def entryReach (s : State) (r : FireRecord) : Time :=
  match entryWay s r with
  | none => r.due
  | some h => addTb r.due (-(valveDelay s r.valve h : Int))

/-- The window of a record's timing class in a cycle starting at `start` (Table 4-5). -/
def entryWindow (s : State) (start : Time) (r : FireRecord) : Bool :=
  if valveStamped s r.valve then
    !before start (addTb (entryReach s r) (-(s.tbs.ring.dispatchHorizon : Int))) &&
      before start (addTb r.due (-(s.tbs.ring.ackMargin : Int)))
  else atOrBefore start (entryReach s r) && before (entryReach s r) (addTb start s.tbs.ring.ringInterval)

theorem entryReach_eq {s : State} {r : FireRecord} {p : RingPos} (position : positionOf s r.valve = some p) :
    addTb r.due (-(entryDelay s p : Int)) = entryReach s r := by
  rw [entryReach, entryWay, position, entryDelay]
  dsimp only
  cases entryDirection s p with
  | none => simp [addTb]
  | some h => simp only [valveDelay, position]

theorem eligible_eq (s : State) (start : Time) (r : FireRecord) : eligible s start r =
    (valveEnrolled s r.valve && (entryWay s r).isSome &&
      match r.state with
      | .planned => entryWindow s start r
      | .dispatched => !r.isRegular || entryWindow s start r
      | .armed => false
      | .holding => false
      | .cancelling => true
      | .releasing => true) := by
  unfold eligible
  split
  · next position =>
    rw [entryWay, position, Option.isSome_none, Bool.and_false, Bool.false_and]
  · next p position =>
    have reach := entryReach_eq position
    have stamped : stampedWindow s.tbs.ring r.due (entryDelay s p) start =
        (!before start (addTb (entryReach s r) (-(s.tbs.ring.dispatchHorizon : Int))) &&
          before start (addTb r.due (-(s.tbs.ring.ackMargin : Int)))) := by
      rw [← reach, addTb_addTb, ← Int.neg_add]
      rfl
    have coarse : coarseWindow s.tbs.ring r.due (entryDelay s p) start =
        (atOrBefore start (entryReach s r) && before (entryReach s r) (addTb start s.tbs.ring.ringInterval)) := by
      rw [← reach]
      rfl
    have takes : canTakeEntries s p = (valveEnrolled s r.valve && (entryWay s r).isSome) := by
      rw [canTakeEntries, valveEnrolled, stationOf, entryWay, position]
      rfl
    rw [takes]
    refine congrArg _ ?_
    unfold eligibleState
    rw [stamped, coarse]
    cases r.state with
    | dispatched => cases r.isRegular <;> rfl
    | _ => rfl

/-! ## A close that leaves the link status (R88, R90) -/

/-- The cycle came back as the link status expects it (R88, R90). -/
def CameBack (s : State) (c : RingCycle) : Prop :=
  c.returned = true ∧ (s.rgm.link = .forward ∨ s.rgm.link = .reverse ∨
    s.rgm.link.loopback = true ∧ halvesStatus c.returnedF c.returnedR = s.rgm.link)

theorem decideLink_of_cameBack {s : State} {c : RingCycle} (running : c.probe = false)
    (back : CameBack s c) : decideLink s c = s.setRuns 0 0 := by
  obtain ⟨returned, status⟩ := back
  have closed : decideLink s c = closeReturned s c := by
    simp only [decideLink, running, Bool.false_eq_true, if_false, judgeCycle, returned, if_true]
  rw [closed]
  unfold closeReturned
  dsimp only
  rcases status with link | link | ⟨loopback, halves⟩
  · simp only [State.setRuns_rgm_link, link]
  · simp only [State.setRuns_rgm_link, link]
  · rw [halves]
    have still : changeLink (s.setRuns 0 0) s.rgm.link = s.setRuns 0 0 := if_pos rfl
    rcases s.rgm.link.loopback_iff.mp loopback with link | link | link <;>
      simp only [State.setRuns_rgm_link, link] <;> rwa [link] at still

/-- Every ENROLLED station was heard in the cycle (R99). -/
def AllHeard (s : State) (c : RingCycle) : Prop :=
  ∀ p : RingPos, s.rgm.stations[p].state = .enrolled → c.heard p = true

theorem countMisses_of_allHeard {s : State} {c : RingCycle} (heard : AllHeard s c) :
    countMisses s c = s := by
  have spared (ps : List RingPos) (u : State) (stations : u.rgm.stations = s.rgm.stations) :
      ps.foldl (missOne c) u = u := by
    induction ps with
    | nil => rfl
    | cons p ps ih =>
      have still : missOne c u p = u := if_neg fun ⟨enrolled, unheard⟩ => by
        rw [heard p (by rwa [stations] at enrolled)] at unheard
        cases unheard
      rw [List.foldl_cons, still, ih]
  unfold countMisses
  split
  · exact spared _ s rfl
  · rfl

/-- The state in which the entry places are filled, after a close that leaves the link status. -/
structure ReadyFrom (c : RingCycle) (s u : State) : Prop where
  only : Only [.rgm] s u
  link : u.rgm.link = s.rgm.link
  number : u.rgm.cycleNumber = s.rgm.cycleNumber + 1#16
  retries : u.rgm.retries = s.rgm.retries
  station : ∀ p : RingPos, ∃ was, u.rgm.stations[p] = stepStation s.tbs.ring was
    { s.rgm.stations[p] with member := memberAfter c p s.rgm.stations[p].member }

theorem cycleReady_readyFrom {s : State} {c : RingCycle} (latest : s.rgm.cycle = some c)
    (running : c.probe = false) (back : CameBack s c) (heard : AllHeard s c) :
    ReadyFrom c s (cycleReady s) := by
  have decides := decideLink_of_cameBack running back
  have closes := closeCycle_closes latest
  rw [decides] at closes
  have only : Only [.rgm] s (closeCycle s) := by
    have judged : judgeCycle s c = s.setRuns 0 0 := by rw [← decides, decideLink, running]; rfl
    have joined : AllHeard (updateMembers (s.setRuns 0 0) c) c := fun p enrolled => heard p (by
      rwa [updateMembers, State.setRgm_rgm, ofFn_get] at enrolled)
    rw [closeCycle, latest]
    simp only [running, Bool.false_eq_true, if_false, closeRunning, judged]
    rw [countMisses_of_allHeard joined]
    exact Only.trans (s.setRuns_only 0 0) (Only.trans (updateMembers_only _ c)
      (Only.trans (closeScan_only _ c) (endItems_only _ c)))
  have tbs : (closeCycle s).tbs = s.tbs := only.tbs (by decide)
  have link : (closeCycle s).rgm.link = s.rgm.link := by rw [closes.ring]; rfl
  have number : (closeCycle s).rgm.cycleNumber = s.rgm.cycleNumber := by rw [closes.ring]; rfl
  have retries : (closeCycle s).rgm.retries = s.rgm.retries := by rw [closes.ring]; rfl
  have closed (p : RingPos) : (closeCycle s).rgm.stations[p] =
      { s.rgm.stations[p] with member := memberAfter c p s.rgm.stations[p].member } := by
    rw [closes.station, running]
    exact closedStation_of_spared _ fun _ => heard p
  refine ⟨only.trans (State.setRgm_only _ _), link, congrArg (· + 1#16) number, retries,
    fun p => ⟨decide (s.rgm.stations[p].state = .faulty), ?_⟩⟩
  rw [← closed p, ← tbs]
  exact ofFn_get _ p

theorem stepStation_enrolled_iff (rt : RingTable) (was : Bool) (r : Station) :
    (stepStation rt was r).state = .enrolled ↔ r.state = .enrolled := by
  unfold stepStation
  split
  · next faulty =>
    split
    · split
      · simp [rejoinRecord, faulty]
      · simp [faulty]
    · rfl
  all_goals simp [*]

theorem stepStation_timing (rt : RingTable) (was : Bool) (r : Station) :
    (stepStation rt was r).timing = r.timing := by
  unfold stepStation
  split
  · split
    · split <;> rfl
    · rfl
  all_goals rfl

section
variable {c : RingCycle} {s u : State} (ready : ReadyFrom c s u)
include ready

theorem ReadyFrom.positionOf (v : Valve) : positionOf u v = positionOf s v := by
  rw [Machine.positionOf, Machine.positionOf, ready.only.tbs (by decide)]

theorem ReadyFrom.valveEnrolled (v : Valve) : valveEnrolled u v = valveEnrolled s v := by
  rw [Machine.valveEnrolled, Machine.valveEnrolled, stationOf, stationOf, ready.positionOf]
  cases Machine.positionOf s v with
  | none => rfl
  | some p =>
    obtain ⟨was, station⟩ := ready.station p
    simp only [Option.map_some, station, stepStation_enrolled_iff]

theorem ReadyFrom.valveStamped (v : Valve) : valveStamped u v = valveStamped s v := by
  rw [Machine.valveStamped, Machine.valveStamped, stationOf, stationOf, ready.positionOf]
  cases Machine.positionOf s v with
  | none => rfl
  | some p =>
    obtain ⟨was, station⟩ := ready.station p
    simp only [Option.map_some, station, stepStation_timing]

theorem ReadyFrom.member (p : RingPos) :
    u.rgm.stations[p].member = memberAfter c p s.rgm.stations[p].member := by
  obtain ⟨was, station⟩ := ready.station p
  rw [station, stepStation_member]

theorem ReadyFrom.valveDelay (v : Valve) (h : Half) : valveDelay u v h = valveDelay s v h := by
  rw [Machine.valveDelay, Machine.valveDelay, ready.positionOf]
  simp only [pathDelay, rowAt, ready.only.tbs (by decide)]

end

/-! ## The cycle start (R59 to R62, R81 to R83) -/

/-- Settles O52: the entry places are filled in the state that the close leaves, in which positions, directions
and timing classes are those the statement reads from `s`. -/
theorem dispatchFillsThePlaces : Obligations.DispatchFillsThePlaces := by
  intro s n i c latest running standing unprobed armed reached heard rt number member served way reach
    inWindow fitting ending fit sent entry placed resends
  let u := cycleReady (s.at n)
  have back : CameBack (s.at n) c := by
    change c.returned = true ∧ (s.rgm.link = .forward ∨ s.rgm.link = .reverse ∨
      s.rgm.link.loopback = true ∧ halvesStatus c.returnedF c.returnedR = s.rgm.link)
    cases link : s.rgm.link <;> rw [link] at standing
    case stopped | down => cases standing
    case forward => exact ⟨Bool.or_eq_true_iff.mpr standing, .inl rfl⟩
    case reverse => exact ⟨Bool.or_eq_true_iff.mpr standing, .inr (.inl rfl)⟩
    case loopbackBoth | loopbackF | loopbackR =>
      rw [RingCycle.returned, standing.1, standing.2]
      exact ⟨rfl, .inr (.inr ⟨rfl, rfl⟩)⟩
  have ready : ReadyFrom c (s.at n) u := cycleReady_readyFrom latest running back fun p enrolled =>
    Bool.or_eq_true_iff.mpr (heard p enrolled)
  have due : probeDue (closeCycle (s.at n)) = false := by
    rw [probeDue_closeCycle (s := s.at n) latest, decideLink_of_cameBack running back, probeDue,
      Bool.and_eq_false_iff, decide_eq_false_iff_not, decide_eq_false_iff_not, Decidable.not_not]
    by_cases forward : s.rgm.link = .forward
    · exact .inl forward
    · exact .inr (Nat.not_le.mpr (unprobed forward))
  have start : startCycle (s.at n) = finishCycle u false := by rw [startCycle_eq, due]
  have now : u.now = n := ready.only.now (by decide)
  have fsc : u.fsc = s.fsc := ready.only.fsc (by decide)
  have tbs : u.tbs = s.tbs := ready.only.tbs (by decide)
  have joined (p : RingPos) : u.rgm.stations[p].member = member p := by
    rw [ready.member, memberAfter]
    dsimp only [member]
    cases c.pattern <;> cases c.heardF[p] <;> cases c.heardR[p] <;> rfl
  have direction (p : RingPos) : entryDirection u p = served p := by
    have link : u.rgm.link = s.rgm.link := ready.link
    rw [entryDirection, link, joined]
    dsimp only [served]
    cases s.rgm.link with
    | loopbackF | loopbackR => rcases member p with _ | _ | _ <;> rfl
    | _ => rfl
  have ways : entryWay u = way := by
    funext r
    have position : positionOf u r.valve = positionOf s r.valve := ready.positionOf r.valve
    rw [entryWay, position]
    dsimp only [way]
    cases positionOf s r.valve with
    | none => rfl
    | some p => exact direction p
  have reaches : entryReach u = reach := by
    funext r
    rw [entryReach, ways]
    dsimp only [reach]
    cases way r with
    | none => rfl
    | some h =>
      dsimp only
      rw [ready.valveDelay]
      rfl
  have windows : entryWindow u n = inWindow := by
    funext r
    rw [entryWindow, ready.valveStamped, reaches, tbs]
    rfl
  have fits : eligible u n = fitting := by
    funext r
    rw [eligible_eq, ready.valveEnrolled, ways, windows]
    dsimp only [fitting]
    cases r.state <;> rfl
  have chosen : (candidates u u.now).take 8 = sent := by
    rw [candidates, now, fits, fsc]
    rfl
  obtain ⟨as, others, held, dispatches, entries⟩ := fillEntries_dispatches u
  rw [chosen] at held dispatches
  have entry_eq {r : FireRecord} {p : RingPos} (position : positionOf s r.valve = some p) (q : Byte) :
      buildEntry u p r q = entry r p q := by
    have there : positionOf u r.valve = some p := (ready.positionOf r.valve).trans position
    rw [buildEntry, entryReach_eq there, reaches]
    rfl
  have ring := finishCycle_rgm u false
  have only : Only [.fsc, .rgm] (s.at n) (startCycle (s.at n)) := by
    rw [start]
    exact Only.trans (.of ready.only rfl) (finishCycle_only u false)
  rw [← start] at ring
  have records : (startCycle (s.at n)).fsc = (fillEntries u).1.fsc := by
    rw [start]
    rfl
  refine ⟨startCycle (s.at n), as.map (Placing.entry u), exec_ringCycleStart armed reached, ?frames, ?link, ?entries,
    ?sent, ?unsent, ?length, ?fsc, ?still, ?retries, only.pru (by decide), only.fac_eq (by decide) (by decide),
    only.exm (by decide), only.lvm (by decide), only.groups (by decide), ?olp, only.tbs (by decide),
    only.pending (by decide)⟩
  case frames =>
    intro items half
    have cycle : (startCycle (s.at n)).rgm.cycle = some (sentCycle u false (fillEntries u).2) := by
      rw [ring]
      rfl
    have link : u.rgm.link = s.rgm.link := ready.link
    have same : placedItems u = items := by
      dsimp only [items]
      rw [ring]
      rfl
    have halves (h : Half) : itemGoes u h = fun x => (member x.1).all fun k => decide (k = h) := by
      funext x
      rw [itemGoes, joined]
      cases member x.1 <;> rfl
    have entryHalves (h : Half) : entryGoes u h = fun e => decide (served e.pos = some h) := by
      funext e
      rw [entryGoes, direction]
    have number : u.rgm.cycleNumber = number := ready.number
    rw [cycle, Option.map_some]
    change some (buildFrames u false (placedItems u) (fillEntries u).2) = _
    rw [buildFrames, if_neg Bool.false_ne_true, sendPattern, link, same, now, number, entries]
    simp only [halves, entryHalves]
    cases status : s.rgm.link
    case stopped | down => rw [status] at standing; cases standing
    all_goals rfl
  case link =>
    rw [ring]
    exact ready.link
  case entries =>
    rw [← dispatches.records, List.map_map, List.map_map]
    refine List.map_congr_left fun a mem => ?_
    have position : positionOf s a.record.valve = some a.pos :=
      (ready.positionOf _).symm.trans (dispatches.position a mem)
    simp only [Function.comp_apply, Placing.entry, entry_eq position, position, Option.map_some]
    rfl
  case sent =>
    intro r mem p position
    have there : positionOf u r.valve = some p := (ready.positionOf r.valve).trans position
    have filled {q : Byte} (inside : ⟨r, p, q⟩ ∈ as) : entry r p q ∈ as.map (Placing.entry u) ∧
        placed r q ∈ (startCycle (s.at n)).fsc.records := by
      have changed := dispatches.placed_mem inside
      rw [show u.rgm.cycleNumber = number from ready.number, ← records] at changed
      exact ⟨List.mem_map.mpr ⟨_, inside, entry_eq position q⟩, changed⟩
    refine ⟨fun q seq => filled (dispatches.mem_of_numbered mem there seq), fun alone => ?_⟩
    intro next q
    have lone : u.fsc.records.filter (unsent r.valve) = [r] := by
      rw [fsc, ← alone, State.recordsOf, List.filter_filter]
      rfl
    have taken : seqTaken u p r = q := by
      rw [seqTaken, State.recordsOf, fsc]
      rfl
    obtain ⟨inside, stepped⟩ := dispatches.first r mem p there lone
    rw [taken] at inside stepped
    obtain ⟨sends, changes⟩ := filled inside
    exact ⟨sends, changes, by rw [records]; exact stepped⟩
  case unsent =>
    intro r mem out
    rw [records]
    exact dispatches.mem_of_not_sent held (fsc ▸ mem) out
  case length =>
    rw [records, dispatches.length_eq held, fsc]
  case fsc =>
    rw [records, dispatches.fsc, fsc]
  case still =>
    intro all
    rw [records, dispatches.still all, fsc]
  case retries =>
    have counted : (startCycle (s.at n)).rgm.retries = countedUp s.rgm.retries (sent.filter isResend).length := by
      rw [ring, ← show u.rgm.retries = s.rgm.retries from ready.retries]
      exact dispatches.resends
    rw [counted, countedUp, BitVec.toNat_ofNat]
    exact Nat.mod_eq_of_lt (by omega)
  case olp =>
    have olp := only.olp_but_sticky (by decide) (by decide) (by decide)
    rw [only.sticky (by decide)] at olp
    exact olp

end Sys2Proof.Machine
end

section
/-! PROOFS. The third consistent IDENT slot decides enrolment (O57): what enrolment and a failing comparison
leave at the position, at its valve's level record and in the pending items. -/

namespace Sys2Proof.Machine

/-! ## Control items that are created (R82) -/

theorem State.createItem_stations (s : State) (p : RingPos) (k : ItemKind) :
    (s.createItem p k).rgm.stations = s.rgm.stations := by
  unfold State.createItem
  split <;> rfl

theorem State.createItem_itemPending (s : State) (p q : RingPos) (k j : ItemKind) :
    (s.createItem p k).itemPending q j = (s.itemPending q j || (decide (p = q) && decide (k = j))) := by
  by_cases pending : s.itemPending p k = true
  · rw [State.createItem, if_pos pending]
    by_cases same : p = q ∧ k = j
    · obtain ⟨rfl, rfl⟩ := same
      rw [pending, Bool.true_or]
    · rw [← Bool.decide_and, decide_eq_false same, Bool.or_false]
  · rw [State.createItem, if_neg pending]
    exact List.any_append.trans (congrArg _ (Bool.or_false _))

/-- What is created is read from the Ring Master alone. -/
theorem State.createItem_rgm_congr {s t : State} (same : s.rgm = t.rgm) (p : RingPos) (k : ItemKind) :
    (s.createItem p k).rgm = (t.createItem p k).rgm := by
  unfold State.createItem State.itemPending
  rw [same]
  split
  · exact same
  · rfl

/-! ## A cleared level record (R136, R138) -/

/-- The flags and events of a change of level state leave the level records (R137). -/
theorem updateLevel_lvm (s : State) (v : Valve) (r : LevelRecord) (restored : Bool) :
    (updateLevel s v r restored).lvm = (s.setLevel v { r with state := levelStateOf r }).lvm := by
  have event (u : State) (e : GroupEvent) : (groupEvent u (valveGroup v) e).lvm = u.lvm :=
    (groupEvent_only _ _ _).lvm (by decide)
  have flag (u : State) (b : Prop) [Decidable b] :
      (if b then u.setFlag .levelLimit else u).lvm = u.lvm := by
    split <;> rfl
  unfold updateLevel
  dsimp only
  by_cases same : levelStateOf r = s.lvm.levels[v].state
  · rw [if_pos same]
  rw [if_neg same]
  by_cases beyond : levelStateOf r = .overLimit
  · rw [if_pos beyond, event, flag, State.setFlag_lvm]
  rw [if_neg beyond]
  by_cases back : s.lvm.levels[v].state = .overLimit ∧ restored
  · rw [if_pos back, event, flag, State.setFlag_lvm]
  · rw [if_neg back, flag, State.setFlag_lvm]

theorem levelStateOf_clearedRecord (r : LevelRecord) : levelStateOf (clearedRecord r) = .healthy := by
  simp [levelStateOf, clearedRecord]

theorem clearLevel_level (s : State) (v : Valve) (restored : Bool) :
    (clearLevel s v restored).lvm.levels[v] =
      { clearedRecord s.lvm.levels[v] with state := .healthy } := by
  rw [clearLevel, updateLevel_lvm, State.setLevel_lvm_levels, setAt_get, levelStateOf_clearedRecord]

/-! ## Enrolment (R109, R110) -/

/-- Of the Ring Master enrolment writes the station record and creates two items. -/
theorem enrolStation_rgm (s : State) (p : RingPos) (row : StationRow) (i : Ident) :
    (enrolStation s p row i).rgm =
      (((s.setStation p (enrolledRecord s.rgm.stations[p] i)).createItem p .enrollAck).createItem p
        .levelResync).rgm := by
  let acked := (s.setStation p (enrolledRecord s.rgm.stations[p] i)).createItem p .enrollAck
  have cleared : (clearLevel acked row.valve false).rgm = acked.rgm :=
    (clearLevel_only acked row.valve false).rgm (by decide)
  exact ((groupEvent_only _ _ _).rgm (by decide)).trans (State.createItem_rgm_congr cleared p _)

theorem enrolStation_station (s : State) (p : RingPos) (row : StationRow) (i : Ident) :
    (enrolStation s p row i).rgm.stations[p] = enrolledRecord s.rgm.stations[p] i := by
  rw [enrolStation_rgm, State.createItem_stations, State.createItem_stations,
    State.setStation_rgm_stations, setAt_get]

theorem enrolStation_itemPending (s : State) (p : RingPos) (row : StationRow) (i : Ident)
    {k : ItemKind} (enrols : k = .enrollAck ∨ k = .levelResync) :
    (enrolStation s p row i).itemPending p k = true := by
  rw [State.itemPending, enrolStation_rgm, ← State.itemPending, State.createItem_itemPending,
    State.createItem_itemPending]
  rcases enrols with rfl | rfl <;> simp

theorem enrolStation_level (s : State) (p : RingPos) (row : StationRow) (i : Ident) :
    (enrolStation s p row i).lvm.levels[row.valve].failed = [] ∧
      (enrolStation s p row i).lvm.levels[row.valve].state = .healthy := by
  let acked := (s.setStation p (enrolledRecord s.rgm.stations[p] i)).createItem p .enrollAck
  have event : (enrolStation s p row i).lvm =
      ((clearLevel acked row.valve false).createItem p .levelResync).lvm :=
    (groupEvent_only _ _ _).lvm (by decide)
  rw [event, (State.createItem_only _ _ _).lvm (by decide), clearLevel_level]
  exact ⟨rfl, rfl⟩

/-! ## The comparison (R107, R108) -/

theorem identityAgrees_iff (row : StationRow) (i : Ident) :
    identityAgrees row i = true ↔ row.identity = 0#32 ∨ i.identity = row.identity := by
  simp [identityAgrees]

theorem levelsAgree_iff (row : StationRow) (i : Ident) :
    levelsAgree row i = true ↔ i.levels = row.levels := by
  simp [levelsAgree]

/-- The reason of a failing comparison names the tests that fail (R108). -/
theorem mismatchOf_of_disagree {idOk levelsOk : Bool} (apart : ¬ (idOk = true ∧ levelsOk = true)) :
    (idOk = true → mismatchOf idOk levelsOk = .levels) ∧
      (levelsOk = true → mismatchOf idOk levelsOk = .identity) ∧
      (¬ idOk = true → ¬ levelsOk = true → mismatchOf idOk levelsOk = .identityAndLevels) := by
  decide +revert

theorem failComparison_station (s : State) (p : RingPos) (x : MismatchReason) :
    (failComparison s p x).rgm.stations[p] =
      { s.rgm.stations[p] with state := .mismatch, mismatch := x, stuck := false } := by
  rw [failComparison, State.setFlag_rgm, State.setStation_rgm_stations, setAt_get]

theorem failComparison_hasFlag (s : State) (p : RingPos) (x : MismatchReason) :
    (failComparison s p x).hasFlag .mismatch = true := by
  rw [failComparison, State.setFlag_hasFlag, decide_eq_true rfl, Bool.or_true]

/-- The third IDENT slot in a row with the same content is compared with the Station Table row (R107). -/
theorem takeIdent_third {s : State} {p : RingPos} {i : Ident} (row : StationRow) (m : BitVec 16)
    (joining : s.rgm.stations[p].state = .enrolling) (last : s.rgm.stations[p].lastIdent = some i)
    (count : s.rgm.stations[p].consistent = 2) :
    takeIdent s p row m i = compareIdent (setIdent s p i 0) p row i := by
  have third : identCount s.rgm.stations[p] i = 3 := by rw [identCount, if_pos last, count]
  simp only [takeIdent, joining, countIdent, third]
  exact if_pos (Nat.le_refl 3)

/-- What an agreeing comparison writes at the position, among its items and at its valve (R108 to R110). -/
def EnrolledAs (t : State) (p : RingPos) (row : StationRow) (i : Ident) : Prop :=
  t.rgm.stations[p].state = .enrolled ∧ t.rgm.stations[p].miss = 0 ∧
    t.rgm.stations[p].timing = some (if i.stamped then .stamped else .coarse) ∧
    t.rgm.stations[p].enrolledIdent = some i ∧ t.rgm.stations[p].age = 0#16 ∧
    t.rgm.stations[p].stuck = false ∧ t.itemPending p .enrollAck = true ∧
    t.itemPending p .levelResync = true ∧ t.lvm.levels[row.valve].failed = [] ∧
    t.lvm.levels[row.valve].state = .healthy

/-- What a failing comparison writes, with the reason that the agreeing tests give, and what it leaves (R108). -/
def MismatchedFrom (s t : State) (p : RingPos) (idOk levelsOk : Prop) : Prop :=
  t.rgm.stations[p].state = .mismatch ∧ t.rgm.stations[p].stuck = false ∧
    t.hasFlag .mismatch = true ∧
    (idOk → t.rgm.stations[p].mismatch = .levels) ∧
    (levelsOk → t.rgm.stations[p].mismatch = .identity) ∧
    (¬ idOk → ¬ levelsOk → t.rgm.stations[p].mismatch = .identityAndLevels) ∧
    t.groups = s.groups ∧ t.lvm = s.lvm

/-- The two endings of the comparison with a Station Table row (R108). -/
def DecidedFrom (s : State) (p : RingPos) (row : StationRow) (i : Ident) (t : State) : Prop :=
  let idOk : Prop := row.identity = 0#32 ∨ i.identity = row.identity
  let levelsOk : Prop := i.levels = row.levels
  (idOk → levelsOk → EnrolledAs t p row i) ∧
    (¬ (idOk ∧ levelsOk) → MismatchedFrom s t p idOk levelsOk)

theorem enrolStation_enrolledAs (s : State) (p : RingPos) (row : StationRow) (i : Ident) :
    EnrolledAs (enrolStation s p row i) p row i := by
  unfold EnrolledAs
  rw [enrolStation_station]
  exact ⟨rfl, rfl, rfl, rfl, rfl, rfl, enrolStation_itemPending s p row i (.inl rfl),
    enrolStation_itemPending s p row i (.inr rfl), enrolStation_level s p row i⟩

theorem compareIdent_of_agree {row : StationRow} {i : Ident} (s : State) (p : RingPos)
    (identity : row.identity = 0#32 ∨ i.identity = row.identity) (levels : i.levels = row.levels) :
    compareIdent s p row i = enrolStation s p row i := by
  rw [compareIdent, (identityAgrees_iff row i).mpr identity, (levelsAgree_iff row i).mpr levels]
  rfl

theorem compareIdent_of_disagree {row : StationRow} {i : Ident} (s : State) (p : RingPos)
    (apart : ¬ ((row.identity = 0#32 ∨ i.identity = row.identity) ∧ i.levels = row.levels)) :
    compareIdent s p row i =
      failComparison s p (mismatchOf (identityAgrees row i) (levelsAgree row i)) := by
  rw [← identityAgrees_iff, ← levelsAgree_iff, ← Bool.and_eq_true] at apart
  rw [compareIdent, if_neg apart]

theorem failComparison_mismatchedFrom (s : State) (p : RingPos) {row : StationRow} {i : Ident}
    (apart : ¬ ((row.identity = 0#32 ∨ i.identity = row.identity) ∧ i.levels = row.levels)) :
    MismatchedFrom s (failComparison s p (mismatchOf (identityAgrees row i) (levelsAgree row i))) p
      (row.identity = 0#32 ∨ i.identity = row.identity) (i.levels = row.levels) := by
  have only := failComparison_only s p (mismatchOf (identityAgrees row i) (levelsAgree row i))
  have flag := failComparison_hasFlag s p (mismatchOf (identityAgrees row i) (levelsAgree row i))
  unfold MismatchedFrom
  rw [failComparison_station]
  rw [← identityAgrees_iff, ← levelsAgree_iff] at apart ⊢
  obtain ⟨levels, identity, both⟩ := mismatchOf_of_disagree apart
  exact ⟨rfl, rfl, flag, levels, identity, both, only.groups (by decide), only.lvm (by decide)⟩

/-- The third slot in a row decides (R107, R108). -/
theorem takeIdent_third_decides {s : State} {p : RingPos} {i : Ident} (row : StationRow) (m : BitVec 16)
    (joining : s.rgm.stations[p].state = .enrolling) (last : s.rgm.stations[p].lastIdent = some i)
    (count : s.rgm.stations[p].consistent = 2) : DecidedFrom s p row i (takeIdent s p row m i) := by
  rw [takeIdent_third row m joining last count]
  constructor
  · intro identity levels
    rw [compareIdent_of_agree _ p identity levels]
    exact enrolStation_enrolledAs _ p row i
  · intro apart
    rw [compareIdent_of_disagree _ p apart]
    exact failComparison_mismatchedFrom (setIdent s p i 0) p apart

theorem takeIdent_third_items {s : State} {p : RingPos} {row : StationRow} {i : Ident} (m : BitVec 16)
    (joining : s.rgm.stations[p].state = .enrolling) (last : s.rgm.stations[p].lastIdent = some i)
    (count : s.rgm.stations[p].consistent = 2)
    (apart : ¬ ((row.identity = 0#32 ∨ i.identity = row.identity) ∧ i.levels = row.levels)) :
    (takeIdent s p row m i).rgm.items = s.rgm.items := by
  rw [takeIdent_third row m joining last count, compareIdent_of_disagree _ p apart]
  rfl

/-- The good IDENT slot of a frame goes to enrolment once the Ring Master, which leaves the station records,
has noted it (R87). -/
theorem exec_ringFrameReturn_of_ident {s : State} (n : Time) {input : Port} {bytes : List Byte}
    {c : RingCycle} {m : Marker} {p : RingPos} {row : StationRow} {lineError turned : Bool} {i : Ident}
    (frame : ReturnsOneSlot s input bytes c m p row lineError turned (.ident i)) :
    ∃ ring : Rgm, ring.stations = s.rgm.stations ∧ exec (.ringFrameReturn n input bytes) s =
      .next (takeIdent ((s.at n).setRgm ring) p row s.rgm.cycleNumber i) := by
  refine ⟨_, ?stations, goodSlotReachesItsBlocks s n input bytes c m p row lineError turned _ frame⟩
  rfl

/-- Settles O57: the third slot is compared with the Station Table row; the frame that brings it has changed
nothing of the position or of the other blocks before it is taken. -/
theorem thirdIdentDecidesEnrolment : Obligations.ThirdIdentDecidesEnrolment := by
  intro s p row i joining last count idOk levelsOk decided
  refine ⟨fun m => ⟨takeIdent_third_decides row m joining last count,
    takeIdent_third_items m joining last count⟩, ?_⟩
  intro n input bytes c m lineError turned frame
  obtain ⟨ring, stations, run⟩ := exec_ringFrameReturn_of_ident n frame
  let heard := (s.at n).setRgm ring
  have only := takeIdent_only heard p row s.rgm.cycleNumber i
  rw [← stations] at joining last count
  exact ⟨takeIdent heard p row s.rgm.cycleNumber i, run,
    takeIdent_third_decides (s := heard) row s.rgm.cycleNumber joining last count,
    only.pru (by decide), only.exm (by decide), only.tbs (by decide), only.pending (by decide),
    only.olp_but_sticky (by decide) (by decide) (by decide)⟩

end Sys2Proof.Machine
end

section
/-! PROOFS. The deadline of a pending extinction (O31). -/

namespace Sys2Proof.Machine

/-- The deadline instant of an OPEN pending extinction, once reached, is its deadline event (R118, R124). -/
theorem exec_deadlineInstant_of_reached {s : State} {n : Time} {v : Valve} {p : PendingExtinction}
    (held : s.exm.pendings[v] = some p) (opened : p.expired = false)
    (reached : passed n p.deadline = true) :
    exec (.deadlineInstant n v) s = .next (deadlineEvent (s.at n) v p) := by
  have armed : deadlineOf (s.at n) v = some p.deadline := by
    simp only [deadlineOf, State.at_exm, held, opened, Bool.false_eq_true, if_false]
  have taken : takeDeadline v (s.at n) = deadlineEvent (s.at n) v p := by
    simp only [takeDeadline, State.at_exm, held]
  refine congrArg Host.Outcome.next ?_
  rw [← taken]
  exact takeIf_of_reached (instant := fun s => deadlineOf s v) _ armed reached

/-- In a group that fires the pending extinction becomes EXPIRED and a failure is declared (R124). -/
theorem deadlineEvent_of_firing {s : State} {v : Valve} (p : PendingExtinction)
    (firing : firingState s.groups[valveGroup v].state = true) : deadlineEvent s v p =
      declareFailure (s.setPending v (some { p with expired := true })) (valveGroup v) :=
  if_pos firing

/-- In any other group it closes silently (R124). -/
theorem deadlineEvent_of_idle {s : State} {v : Valve} (p : PendingExtinction)
    (idle : ¬ firingState s.groups[valveGroup v].state = true) :
    deadlineEvent s v p = s.setPending v none :=
  if_neg idle

/-- Settles O31: the deadline event by the group state; the declaration by `declareFailure_declares`, and
what it leaves by the frame of the event. -/
theorem deadlineActsByTheGroupState : Obligations.DeadlineActsByTheGroupState := by
  intro s n v p held opened reached g firing
  have firing_iff : firingState s.groups[g].state = true ↔ firing := firingState_iff _
  have run := exec_deadlineInstant_of_reached held opened reached
  refine ⟨fun idle => ?_, fun fires => ?_⟩
  · rw [run, deadlineEvent_of_idle (s := s.at n) p (firing_iff.not.mpr idle)]
    rfl
  · have only := deadlineEvent_only (s.at n) v p
    refine ⟨_, run, only.now (by decide), ?_, only.pru (by decide), only.rgm (by decide),
      only.lvm (by decide), only.tbs (by decide), only.pending (by decide),
      only.olp_but_sticky (by decide) (by decide) (by decide)⟩
    rw [deadlineEvent_of_firing (s := s.at n) p (firing_iff.mpr fires)]
    exact declareFailure_declares rfl rfl rfl rfl rfl (firing_iff.mpr fires)

end Sys2Proof.Machine
end

section
/-! PROOFS. The gamma corrections, recovery counters and repeat counts at every step (O13): the limits that bound
them, what a write of one of them needs, and the steps of the Extinction Monitor that write them. -/

namespace Sys2Proof.Machine

/-! ## The limits of the corrections (Table 11-1) -/

/-- A value of a row in range lies in the range of its field (R173, R175). -/
theorem field_in_range {id : TableId} {k : Nat} {fs : List Field} {xs : List Int}
    (range : (firstBadField id k fs xs).isNone = true) {i : Nat} {f : Field} {x : Int}
    (field : fs[i]? = some f) (value : xs[i]? = some x) : f.lo ≤ x ∧ x ≤ f.hi := by
  induction fs generalizing k xs i with
  | nil => cases field
  | cons g fs ih =>
    cases xs with
    | nil => cases value
    | cons y ys =>
      obtain ⟨good, rest⟩ := (firstBadField_cons_isNone id k g fs y ys).mp range
      cases i with
      | zero =>
        cases field
        cases value
        exact fieldOk_range good
      | succ i => exact ih rest field value

/-- C_max and C_decay are not negative, and a recovery lasts at least one firing (Table 11-1). -/
structure SteeringLimits (lt : LimitsTable) : Prop where
  cMax : 0 ≤ lt.cMax
  cDecay : 0 ≤ lt.cDecay
  nCf : 1 ≤ lt.nCf

theorem steeringLimits_of_range {lt : LimitsTable} (range : rowInRange .limits lt.toFields = true) :
    SteeringLimits lt where
  cMax := (field_in_range range (i := 5) rfl rfl).1
  cDecay := (field_in_range range (i := 6) rfl rfl).1
  nCf := Int.ofNat_le.mp (field_in_range range (i := 8) rfl rfl).1

/-- The active Limits Table and its shadow, where one is open, hold such limits. -/
structure SteeringTables (t : Tbs) : Prop where
  active : SteeringLimits t.limits
  shadow : ∀ x, t.limitsShadow = some x → SteeringLimits x

theorem steeringTables_of_range {s : State} (tables : TablesInRange s) : SteeringTables s.tbs := by
  obtain ⟨⟨active, -⟩, ⟨shadow, -⟩⟩ := tables
  exact ⟨steeringLimits_of_range (Bool.and_eq_true_iff.mp active).1,
    fun x opened => steeringLimits_of_range (shadow x opened)⟩

/-! ## What an Extinction Monitor holds within the limits (R123, R125 to R127) -/

/-- A gamma correction lies in 0..C_max (R123). -/
def CorrectionFits (lt : LimitsTable) (c : Int) : Prop := 0 ≤ c ∧ c ≤ lt.cMax

/-- A recovery counter lies in 0..N_cf, and the repeat count of its group is at most 255, and 0 outside a
recovery (R125, R126). -/
def RecoveryFits (lt : LimitsTable) (recovery repeats : Nat) : Prop :=
  recovery ≤ lt.nCf ∧ repeats ≤ 255 ∧ (recovery = 0 → repeats = 0)

/-- The values of an Extinction Monitor that the limits bound. -/
def ExmFits (lt : LimitsTable) (x : Exm) : Prop :=
  (∀ b : Bridge, CorrectionFits lt x.correction[b]) ∧
    ∀ g : Group, RecoveryFits lt x.recovery[g] x.repeats[g]

theorem correctionsHeld_iff (s : State) : CorrectionsHeld s ↔ ExmFits s.tbs.limits s.exm := Iff.rfl

theorem ExmFits.setCorrection {lt : LimitsTable} {x : Exm} (fits : ExmFits lt x) (b : Bridge) {c : Int}
    (new : CorrectionFits lt c) : ExmFits lt { x with correction := setAt x.correction b c } := by
  refine ⟨fun d => ?_, fits.2⟩
  show CorrectionFits lt (setAt x.correction b c)[d]
  rw [setAt_get_eq]
  split
  · exact new
  · exact fits.1 d

theorem ExmFits.setRecovery {lt : LimitsTable} {x : Exm} (fits : ExmFits lt x) (g : Group) {r k : Nat}
    (new : RecoveryFits lt r k) : ExmFits lt { x with
      recovery := setAt x.recovery g r, repeats := setAt x.repeats g k } := by
  refine ⟨fits.1, fun h => ?_⟩
  show RecoveryFits lt (setAt x.recovery g r)[h] (setAt x.repeats g k)[h]
  rw [setAt_get_eq, setAt_get_eq]
  split
  · exact new
  · exact fits.2 h

/-- An Extinction Monitor with no correction and no recovery fits all limits (R131). -/
theorem exmFits_of_cleared {lt : LimitsTable} (limits : SteeringLimits lt) {x : Exm}
    (correction : x.correction = fill 4 0) (recovery : x.recovery = fill 2 0)
    (repeats : x.repeats = fill 2 0) : ExmFits lt x := by
  refine ⟨fun b => ?_, fun g => ?_⟩
  · rw [correction, fill_get]
    exact ⟨le_rfl, limits.cMax⟩
  · rw [recovery, repeats, fill_get]
    exact ⟨Nat.zero_le _, Nat.zero_le _, fun _ => rfl⟩

/-! ## The writes of the Extinction Monitor -/

/-- R125: a failure sets the recovery counter to N_cf, which is not 0, so any repeat count up to 255 fits. -/
theorem noteFailure_correctionsHeld {s : State} (g : Group) (limits : SteeringLimits s.tbs.limits)
    (held : CorrectionsHeld s) : CorrectionsHeld (noteFailure s g) := by
  have nonzero := limits.nCf
  rw [noteFailure_eq]
  refine ExmFits.setRecovery held g ⟨le_rfl, ?_, fun zero => by omega⟩
  split
  · exact Nat.min_le_left _ _
  · decide

/-- R126: a planning lowers the recovery counter, and its end takes the repeat count to 0. -/
theorem planningNotice_correctionsHeld {s : State} (g : Group) (held : CorrectionsHeld s) :
    CorrectionsHeld (planningNotice s g) := by
  obtain ⟨bound, few, idle⟩ := held.2 g
  have lower := (Nat.sub_le s.exm.recovery[g] 1).trans bound
  rw [planningNotice_eq]
  by_cases last : s.exm.recovery[g] = 1
  · rw [if_pos last]
    exact ExmFits.setRecovery held g ⟨lower, Nat.zero_le _, fun _ => rfl⟩
  · have new := ExmFits.setRecovery held g (r := s.exm.recovery[g] - 1)
      ⟨lower, few, fun zero => idle (by omega)⟩
    rw [setAt_eq_self (v := s.exm.repeats) rfl] at new
    rw [if_neg last]
    exact new

/-- R121: a correction that rises is raised to C_max at most. -/
theorem raise_correctionsHeld {s : State} {b : Bridge} {shortfall : Int}
    (rise : s.exm.correction[b] < min s.tbs.limits.cMax (s.exm.correction[b] + shortfall))
    (held : CorrectionsHeld s) : CorrectionsHeld
      (s.setCorrection b (min s.tbs.limits.cMax (s.exm.correction[b] + shortfall))) :=
  ExmFits.setCorrection held b ⟨(held.1 b).1.trans rise.le, min_le_left _ _⟩

/-- R122: a correction decays to 0 at least. -/
theorem decayCorrection_correctionsHeld {s : State} (b : Bridge) (limits : SteeringLimits s.tbs.limits)
    (held : CorrectionsHeld s) : CorrectionsHeld (decayCorrection s b) := by
  have lower : s.exm.correction[b] - s.tbs.limits.cDecay ≤ s.exm.correction[b] :=
    Int.sub_le_self _ limits.cDecay
  exact ExmFits.setCorrection held b
    ⟨le_max_left _ _, max_le limits.cMax (lower.trans (held.1 b).2)⟩

/-- R127: the clamp makes values that fit one Limits Table fit the active one; a recovery goes on, as its
counter stays above 0. -/
theorem clampToLimits_correctionsHeld {s : State} {old : LimitsTable} (limits : SteeringLimits s.tbs.limits)
    (fits : ExmFits old s.exm) : CorrectionsHeld (clampToLimits s) := by
  refine ⟨fun b => ?_, fun g => ?_⟩
  · show CorrectionFits s.tbs.limits (mapVec (fun c => min c s.tbs.limits.cMax) s.exm.correction)[b]
    rw [mapVec_get]
    exact ⟨le_min (fits.1 b).1 limits.cMax, min_le_right _ _⟩
  · obtain ⟨-, few, idle⟩ := fits.2 g
    have nonzero := limits.nCf
    show RecoveryFits s.tbs.limits (mapVec (fun r => min r s.tbs.limits.nCf) s.exm.recovery)[g] _
    rw [mapVec_get]
    exact ⟨Nat.min_le_right _ _, few, fun zero => idle (by omega)⟩

/-! ## The steps of the monitors -/

theorem MonitorStep.tbs {s t : State} (step : MonitorStep s t) : t.tbs = s.tbs := by
  cases step with
  | rest _ _ tbs => exact tbs
  | notice g => rw [planningNotice_eq]; rfl
  | _ => rfl

theorem MonitorStep.correctionsHeld {s t : State} (step : MonitorStep s t)
    (limits : SteeringLimits s.tbs.limits) (held : CorrectionsHeld s) : CorrectionsHeld t := by
  cases step with
  | rest exm _ tbs => rwa [correctionsHeld_iff, exm, tbs]
  | failure g => exact noteFailure_correctionsHeld g limits held
  | notice g => exact planningNotice_correctionsHeld g held
  | raise b shortfall rise => exact raise_correctionsHeld rise held
  | decay b => exact decayCorrection_correctionsHeld b limits held
  | clamp => exact clampToLimits_correctionsHeld limits held
  | restart => exact exmFits_of_cleared limits rfl rfl rfl
  | pending | gamma | measurement | discard | level | rangeError => exact held

theorem MonitorSteps.tbs {s t : State} (steps : MonitorSteps s t) : t.tbs = s.tbs := by
  induction steps with
  | refl => rfl
  | tail _ step ih => exact step.tbs.trans ih

theorem MonitorSteps.correctionsHeld {s t : State} (steps : MonitorSteps s t)
    (limits : SteeringLimits s.tbs.limits) (held : CorrectionsHeld s) : CorrectionsHeld t := by
  induction steps with
  | refl => exact held
  | tail before step ih => exact step.correctionsHeld (MonitorSteps.tbs before ▸ limits) ih

/-! ## Commits (R127, R177, R178) -/

/-- What an operation leaves that moves neither the Extinction Monitor nor the active Limits Table. -/
theorem CorrectionsHeld.of_same {s t : State} (exm : t.exm = s.exm)
    (table : t.tbs.limits = s.tbs.limits) (held : CorrectionsHeld s) : CorrectionsHeld t := by
  rwa [correctionsHeld_iff, exm, table]

/-- A Limits Table commit clamps to the shadow it makes active; any other leaves the Limits Table. -/
theorem takeCommit_correctionsHeld {s : State} (id : TableId) (tables : SteeringTables s.tbs)
    (held : CorrectionsHeld s) : CorrectionsHeld (takeCommit s id) := by
  have told := bothGroups_only (commitEffects (noteCommit s id) id) .tableCommit
  refine .of_same (s := commitEffects (noteCommit s id) id) (told.exm (by decide))
    (by rw [takeCommit, told.tbs (by decide)]) ?_
  cases id with
  | limits =>
    refine clampToLimits_correctionsHeld (s := noteCommit s .limits) ?_ held
    show SteeringLimits (s.tbs.limitsShadow.getD s.tbs.limits)
    cases opened : s.tbs.limitsShadow with
    | none => exact tables.active
    | some x => exact tables.shadow x opened
  | overlap => exact held
  | converter | station | ring =>
    exact (commitEffects_monitored (noteCommit s _) _).correctionsHeld tables.active held

theorem commitTable_correctionsHeld {s : State} (table : Byte) (tables : SteeringTables s.tbs)
    (held : CorrectionsHeld s) : CorrectionsHeld (commitTable s table).1 := by
  unfold commitTable
  split
  · exact held
  · split
    · exact held
    · split
      · exact held
      · split
        · exact held
        · exact takeCommit_correctionsHeld _ tables held

/-! ## Commands and steps -/

theorem request_correctionsHeld {s : State} {type seq : Byte} {act : State → State × Answer}
    (held : CorrectionsHeld s) (acted : CorrectionsHeld (act s).1) :
    CorrectionsHeld (request s type seq act) :=
  request_ind (P := CorrectionsHeld) held fun f =>
    have only := enqueue_only (act s).1 f
    .of_same (only.exm (by decide)) (by rw [only.tbs (by decide)]) acted

theorem exec_correctionsHeld {c : Instr} {s t : State} (run : exec c s = .next t)
    (tables : SteeringTables s.tbs) (held : CorrectionsHeld s) : CorrectionsHeld t := by
  cases time : c.time? with
  | none =>
    cases c with
    | powerUp => cases run; exact reset_corrections
    | _ => cases time
  | some n =>
    obtain ⟨u, run', only⟩ := exec_touches c s n time
    cases run.symm.trans run'
    have held : CorrectionsHeld (s.at n) := held
    have steps {u : State} (monitored : MonitorSteps (s.at n) u) : CorrectionsHeld u :=
      monitored.correctionsHeld tables.active held
    by_cases apart : Block.exm ∉ touches c ∧ Block.tbs ∉ touches c
    · exact .of_same (only.exm apart.1) (by rw [only.tbs apart.2]) held
    · cases c with
      | powerUp => cases time
      | comparatorEdge => cases time; cases run; exact steps (takeEdge_monitored _ _ _)
      | cycleMarker => cases time; cases run; exact steps (runMarkers_monitored _ _)
      | planningInstant =>
        cases time; cases run
        exact takeIf_ind (P := CorrectionsHeld) held (steps (takePlanning_monitored _ _))
      | ringFrameReturn => cases time; cases run; exact steps (takeArrival_monitored _ _ _)
      | confirmInstant =>
        cases time; cases run; exact steps (takeInstant_monitored confirmEvent_monitored)
      | releaseTimeout =>
        cases time; cases run; exact steps (takeInstant_monitored releaseTimeoutEvent_monitored)
      | deadlineInstant m v =>
        cases time; cases run
        refine takeIf_ind (P := CorrectionsHeld) held ?_
        unfold takeDeadline
        split
        · exact held
        · exact steps (deadlineEvent_monitored _ _ _)
      | tableWrite =>
        cases time; cases run
        exact request_correctionsHeld held (.of_same ((writeTable_only _ _ _ _).exm (by decide))
          (writeTable_limits _ _ _ _) held)
      | tableDiscard =>
        cases time; cases run
        exact request_correctionsHeld held (.of_same ((discardTable_only _ _).exm (by decide))
          (discardTable_limits _ _) held)
      | tableCommit =>
        cases time; cases run
        exact request_correctionsHeld held (commitTable_correctionsHeld (s := s.at n) _ tables held)
      | clearCounters => cases time; cases run; exact request_correctionsHeld held held
      | testFire =>
        cases time; cases run
        exact request_correctionsHeld held (steps (testFire_monitored _ _))
      | warmRestart =>
        cases time; cases run
        exact request_correctionsHeld held (steps (warmRestartCommand_monitored _))
      | _ => simp [touches] at apart

/-- Settles O13: of tables in range the limits keep the values at the steps of the monitors, and a committed
Limits Table is a shadow in range, to which they are clamped. -/
theorem stepKeepsCorrections : Obligations.StepKeepsCorrections := fun _ _ run =>
  step_ind (R := fun s t => TablesInRange s → CorrectionsHeld s → CorrectionsHeld t)
    (fun _ _ held => held)
    (fun _ rest s _ run tables held => exec_correctionsHeld (s := { s with pending := rest }) run
      (steeringTables_of_range tables) held) run

end Sys2Proof.Machine
end

section
/-! PROOFS. A failed level beyond the redundancy (O58): what a trip leaves of the hold timer, the level record with
one failed level more, and the trip of the valve's group. -/

namespace Sys2Proof.Machine

/-! ## A trip clears the hold timer (R152, step 1) -/

theorem enterPattern_holdTimer (s : State) (g : Group) :
    (enterPattern s g).1.groups[g].holdTimer = s.groups[g].holdTimer := by
  have rest : Only [.fsc] (s.choosePairs g) (enterPattern s g).1 :=
    (cancelDecision_only _ g).trans (Only.foldl _ bypassRequest_only _ _)
  rw [rest.groups (by decide), State.choosePairs, State.setGroup_groups, setAt_get]

theorem trip_holdTimer (s : State) (g : Group) (c : TripCause) :
    (trip s g c).1.groups[g].holdTimer = none := by
  have marked : (markTripped s g c).groups[g].holdTimer = none := by
    rw [markTripped, State.setFlag_groups, State.setGroup_groups, setAt_get]
  unfold trip
  dsimp only
  split
  · split
    · exact marked
    · exact (enterPattern_holdTimer _ g).trans marked
  · have rest := (cancelDecision_only ((markTripped s g c).clearPairs g) g).trans
      (releaseDecision_only _ g)
    rw [rest.groups (by decide), State.clearPairs, State.setGroup_groups, setAt_get]
    exact marked

theorem evalInhibits_holdTimer (s : State) (g : Group) :
    (evalInhibits s g).groups[g].holdTimer = s.groups[g].holdTimer := by
  rw [evalInhibits, State.setGroup_groups, setAt_get]

/-- Records removed from a group in TRIPPED leave its hold timer (R142, R151). -/
theorem runEvents_holdTimer_of_tripped {g : Group} (fuel : Nat) (ns : Notices) (s : State)
    (tripped : s.groups[g].state = .tripped) (quiet : ∀ e ∈ ns, FromRemoval g e) :
    (runEvents fuel ns s).groups[g].holdTimer = s.groups[g].holdTimer := by
  induction fuel generalizing ns s with
  | zero => rfl
  | succ fuel ih =>
    cases ns with
    | nil => rfl
    | cons e rest =>
      rw [runEvents_cons, handleEvent_of_tripped tripped (quiet e List.mem_cons_self), List.append_nil,
        ih rest _ ((evalInhibits_state s g).trans tripped) fun x later =>
          quiet x (List.mem_cons_of_mem _ later),
        evalInhibits_holdTimer]

/-- An event whose own effect is a trip leaves the group without a hold timer, whatever the records that the trip
removes hand back (R142, R152). -/
theorem groupEvent_holdTimer_of_trip {s : State} {g : Group} {c : TripCause} {e : GroupEvent}
    (effect : ownEffect s g e = trip s g c) : (groupEvent s g e).groups[g].holdTimer = none := by
  have tripped : (evalInhibits (trip s g c).1 g).groups[g].state = .tripped :=
    (evalInhibits_state _ g).trans (trip_trippedBy s g c).1
  have handled : handleEvent s g e = (evalInhibits (trip s g c).1 g, (trip s g c).2) := by
    rw [handleEvent_eq, effect, applyFlags_of_tripped tripped, List.append_nil]
  rw [groupEvent, Nat.add_comm, runEvents_cons, handled]
  exact (runEvents_holdTimer_of_tripped _ _ _ tripped (trip_fromRemoval s g c)).trans
    ((evalInhibits_holdTimer _ g).trans (trip_holdTimer s g c))

/-- LEVEL_LIMIT trips a group in DEBLOCKING, RUNNING or BYPASSING (Table 9-5). -/
theorem trips_levelLimit {x : GroupState} (live : x = .deblocking ∨ x = .running ∨ x = .bypassing) :
    trips .levelLimit x = true := by
  rcases live with rfl | rfl | rfl <;> rfl

/-! ## A further failed level (R134, R136) -/

theorem causeOf_of_absent {r : LevelRecord} {n : Nat} (absent : ∀ x ∈ r.failed, x.1 ≠ n) :
    causeOf r n = none := by
  simpa [causeOf, List.find?_eq_none] using absent

/-- The record with level `n` entered as SHORT. -/
def withShort (r : LevelRecord) (n : Nat) : LevelRecord :=
  { r with failed := insertLevel n .short r.failed }

theorem mem_withShort (r : LevelRecord) (n : Nat) : (n, LevelCause.short) ∈ (withShort r n).failed :=
  (mem_insertBy _ _ _ _).mpr (.inl rfl)

theorem withShort_length (r : LevelRecord) (n : Nat) :
    (withShort r n).failed.length = r.failed.length + 1 := insertBy_length _ _ _

theorem applyChange_short_of_absent {r : LevelRecord} {n : Nat} (absent : ∀ x ∈ r.failed, x.1 ≠ n)
    (room : r.failed.length < Config.failedLevelLimit) : applyChange r n .short = withShort r n := by
  simp only [applyChange, reportFailed, causeOf_of_absent absent, room, if_true]
  rfl

theorem levelStateOf_of_beyond {r : LevelRecord} (beyond : r.redundancy < r.failed.length) :
    levelStateOf r = .overLimit := by
  simp only [levelStateOf, beyond, if_true, ite_self]

/-! ## The change to OVER_LIMIT (R137) -/

/-- The valve's record is written and LEVEL_CHANGE and LEVEL_LIMIT are set, before the group has its event. -/
def overLimitNoted (s : State) (v : Valve) (r : LevelRecord) : State :=
  ((s.setLevel v { r with state := .overLimit }).setFlag .levelChange).setFlag .levelLimit

theorem overLimitNoted_flags (s : State) (v : Valve) (r : LevelRecord) :
    (overLimitNoted s v r).hasFlag .levelChange = true ∧
      (overLimitNoted s v r).hasFlag .levelLimit = true := by
  simp [overLimitNoted, State.setFlag_hasFlag]

theorem updateLevel_of_overLimit {s : State} {v : Valve} {r : LevelRecord} (restored : Bool)
    (exceeded : levelStateOf r = .overLimit) (below : s.lvm.levels[v].state ≠ .overLimit) :
    updateLevel s v r restored = groupEvent (overLimitNoted s v r) (valveGroup v) .levelLimit := by
  simp only [updateLevel, exceeded, if_neg below.symm, or_true, if_true]
  rfl

/-! ## The failed level trips the group -/

/-- A level of the valve that is not in its failed set yet, for which the set has a place but the redundancy has
none, while the group is in a state that LEVEL_LIMIT trips. -/
structure FailsBeyondRedundancy (s : State) (v : Valve) (level : Nat) : Prop where
  low : 1 ≤ level
  high : level ≤ s.lvm.levels[v].installed
  absent : ∀ x ∈ s.lvm.levels[v].failed, x.1 ≠ level
  room : s.lvm.levels[v].failed.length < 16
  spent : s.lvm.levels[v].redundancy ≤ s.lvm.levels[v].failed.length
  below : s.lvm.levels[v].state ≠ .overLimit
  live : s.groups[valveGroup v].state = .deblocking ∨ s.groups[valveGroup v].state = .running ∨
    s.groups[valveGroup v].state = .bypassing

/-- What a SHORT level beyond the redundancy leaves at its valve, whose record was `r`, and at its group. -/
def TrippedByLevel (v : Valve) (r : LevelRecord) (level : Nat) (t : State) : Prop :=
  t.lvm.levels[v].state = .overLimit ∧ (level, LevelCause.short) ∈ t.lvm.levels[v].failed ∧
    t.lvm.levels[v].failed.length = r.failed.length + 1 ∧
    t.hasFlag .levelChange = true ∧ t.hasFlag .levelLimit = true ∧
    TrippedBy t (valveGroup v) .levelLimit ∧ t.groups[valveGroup v].holdTimer = none

/-- The level enters the failed set (R133, R134). -/
theorem FailsBeyondRedundancy.levelChange_updates {s : State} {v : Valve} {level : Nat}
    (fails : FailsBeyondRedundancy s v level) :
    levelChange v s (level, .short) = updateLevel s v (withShort s.lvm.levels[v] level) true := by
  rw [← applyChange_short_of_absent fails.absent fails.room]
  exact if_pos ⟨fails.low, fails.high⟩

/-- The set exceeds the redundancy, and the group has its event (R136, R137). -/
theorem FailsBeyondRedundancy.levelChange_eq {s : State} {v : Valve} {level : Nat}
    (fails : FailsBeyondRedundancy s v level) : levelChange v s (level, .short) =
      groupEvent (overLimitNoted s v (withShort s.lvm.levels[v] level)) (valveGroup v) .levelLimit := by
  have exceeded : levelStateOf (withShort s.lvm.levels[v] level) = .overLimit :=
    levelStateOf_of_beyond (by rw [withShort_length]; exact Nat.lt_succ_of_le fails.spent)
  rw [fails.levelChange_updates, updateLevel_of_overLimit true exceeded fails.below]

theorem FailsBeyondRedundancy.levelChange_only {s : State} {v : Valve} {level : Nat}
    (fails : FailsBeyondRedundancy s v level) :
    Only levelBlocks s (levelChange v s (level, .short)) :=
  fails.levelChange_updates ▸ updateLevel_only s v _ true

/-- The valve becomes OVER_LIMIT with both flags set, and the event LEVEL_LIMIT trips its group; the event leaves the
level records and clears no flag. -/
theorem FailsBeyondRedundancy.levelChange_trips {s : State} {v : Valve} {level : Nat}
    (fails : FailsBeyondRedundancy s v level) :
    TrippedByLevel v s.lvm.levels[v] level (levelChange v s (level, .short)) := by
  let r := withShort s.lvm.levels[v] level
  let noted := overLimitNoted s v r
  have only := groupEvent_only noted (valveGroup v) .levelLimit
  have record : (groupEvent noted (valveGroup v) .levelLimit).lvm.levels[v] =
      { r with state := .overLimit } := by
    rw [only.lvm (by decide)]
    exact setAt_get _ v _
  have trips : ownEffect noted (valveGroup v) .levelLimit = trip noted (valveGroup v) .levelLimit :=
    tripEvent_of_trips (trips_levelLimit fails.live)
  obtain ⟨change, limit⟩ := overLimitNoted_flags s v r
  rw [fails.levelChange_eq, TrippedByLevel, record]
  exact ⟨rfl, mem_withShort _ level, withShort_length _ level,
    only.clear (by decide) _ change, only.clear (by decide) _ limit, groupEvent_trippedBy trips,
    groupEvent_holdTimer_of_trip trips⟩

theorem takeReports_of_change (s : State) (v : Valve) (d : Half) {r : RunSlot} {x : Nat × LevelReport}
    (fired : r.fired = []) (acks : r.acks = []) (extinction : r.extinction = none)
    (changes : r.changes = [x]) : takeReports s v d r = levelChange v s x := by
  rw [takeReports, fired, acks, extinction, changes]
  rfl

/-- Settles O58: the level change by `levelChange_trips`; a frame's slot brings it once the Ring Master alone has
noted the slot (`exec_ringFrameReturn_of_run`), so with the level record and the group as they were. -/
theorem failedLevelBeyondRedundancyTrips : Obligations.FailedLevelBeyondRedundancyTrips := by
  intro s v level r g low high absent room spent below live tripped
  have fails : FailsBeyondRedundancy s v level := ⟨low, high, absent, room, spent, below, live⟩
  refine ⟨fails.levelChange_trips, ?_⟩
  intro n input bytes c m p row lineError turned slot frame enrolled served fired acks extinction changes
  subst served
  obtain ⟨ring, run⟩ := exec_ringFrameReturn_of_run n frame enrolled
  rw [takeReports_of_change _ _ _ fired acks extinction changes] at run
  have heard : FailsBeyondRedundancy ((s.at n).setRgm ring) row.valve level :=
    ⟨low, high, absent, room, spent, below, live⟩
  have only := heard.levelChange_only
  exact ⟨_, run, heard.levelChange_trips, only.pru (by decide), only.exm (by decide),
    only.tbs (by decide), only.pending (by decide),
    only.olp_but_sticky (by decide) (by decide) (by decide)⟩

end Sys2Proof.Machine
end

section
/-! PROOFS. When a TABLE_COMMIT is refused, and with what (O43). -/

namespace Sys2Proof.Machine

theorem bothBlocked_iff (s : State) :
    bothBlocked s = true ↔ ∀ g : Group, s.groups[g].state = .blocked := by
  rw [bothBlocked, Bool.and_eq_true, decide_eq_true_eq, decide_eq_true_eq]
  exact (Fin.forall_fin_two (p := fun g : Group => s.groups[g].state = .blocked)).symm

/-- The Converter, Station and Ring Tables alone wait for both groups (R177). -/
theorem needsBlocked_iff (id : TableId) :
    needsBlocked id = true ↔ id = .converter ∨ id = .station ∨ id = .ring := by
  cases id <;> decide

/-! ## The checks of a commit, in their order (R173, R174, R177) -/

theorem commitTable_of_unknown (s : State) {table : Byte} (unknown : tableOfCode table = none) :
    commitTable s table = (s, refuse .badTable table) := by
  rw [commitTable, unknown]

section
variable {s : State} {id : TableId}

theorem commitTable_of_unopened (unopened : hasShadow s.tbs id = false) :
    commitTable s (tableCode id) = (s, refuse .badTable (tableCode id)) := by
  rw [commitTable, tableOfCode_tableCode]
  exact if_pos (congrArg not unopened)

theorem commitTable_of_opened (opened : hasShadow s.tbs id = true) : commitTable s (tableCode id) =
    if needsBlocked id && !bothBlocked s then (s, refuse .state (tableCode id))
    else match failingRow s.tbs id with
      | some k => (s, badValue (tableCode id) k)
      | none => (takeCommit s id, ok (tableCode id)) := by
  rw [commitTable, tableOfCode_tableCode]
  exact if_neg (by rw [opened]; exact Bool.false_ne_true)

theorem commitTable_of_unblocked (opened : hasShadow s.tbs id = true)
    (waits : id = .converter ∨ id = .station ∨ id = .ring)
    (unblocked : ∃ g : Group, s.groups[g].state ≠ .blocked) :
    commitTable s (tableCode id) = (s, refuse .state (tableCode id)) := by
  have apart : bothBlocked s = false := by
    rw [← Bool.not_eq_true, bothBlocked_iff, not_forall]
    exact unblocked
  rw [commitTable_of_opened opened, (needsBlocked_iff id).mpr waits, apart]
  rfl

theorem commitTable_of_failing (opened : hasShadow s.tbs id = true)
    (may : id = .limits ∨ id = .overlap ∨ ∀ g : Group, s.groups[g].state = .blocked) {k : Nat}
    (fails : failingRow s.tbs id = some k) :
    commitTable s (tableCode id) = (s, badValue (tableCode id) k) := by
  have passes : (needsBlocked id && !bothBlocked s) = false := by
    rcases may with rfl | rfl | blocked
    · rfl
    · rfl
    · rw [(bothBlocked_iff s).mpr blocked, Bool.not_true, Bool.and_false]
  rw [commitTable_of_opened opened, passes, fails]
  rfl

end

/-- A commit that changes nothing is answered in the state that stood (R157, R168). -/
theorem exec_tableCommit_of_refused {s : State} (n : Time) (seq : Byte) {table : Byte} {a : Answer}
    (room : replyCount s.olp.queue < 3) (refused : commitTable (s.at n) table = (s.at n, a)) :
    exec (.tableCommit n seq table) s =
      .next (enqueue (s.at n) (.reply ⟨5#8, seq, a.result, a.subject, a.detail, a.contents⟩)) := by
  show Host.Outcome.next (request (s.at n) 5#8 seq fun u => commitTable u table) = _
  rw [request_of_room (s := s.at n) room, refused]

/-- Settles O43: one case for each check, in the order in which `commitTable` makes them. -/
theorem commitIsRefused : Obligations.CommitIsRefused := by
  intro s n seq room
  refine ⟨fun k unknown => ?unknown, fun id => ⟨fun unopened => ?unopened,
    fun opened waits unblocked => ?unblocked, fun opened may k fails => ?failing⟩⟩
  case unknown => exact exec_tableCommit_of_refused n seq room (commitTable_of_unknown _ unknown)
  case unopened =>
    exact exec_tableCommit_of_refused n seq room (commitTable_of_unopened (s := s.at n) unopened)
  case unblocked =>
    exact exec_tableCommit_of_refused n seq room
      (commitTable_of_unblocked (s := s.at n) opened waits unblocked)
  case failing =>
    exact exec_tableCommit_of_refused n seq room
      (commitTable_of_failing (s := s.at n) opened may fails)

end Sys2Proof.Machine
end

section
/-! PROOFS. An ORDER with BYPASS takes a BLOCKED group to BYPASSING (O37): what entry to BYPASSING writes in the
group's record, which stands against the notices of the records that the entry removes. -/

namespace Sys2Proof.Machine

/-! ## Entry to BYPASSING (R147) -/

/-- What entry to BYPASSING makes of the group's record: what follows in R147 is the Fire Schedule's. -/
theorem enterBypassing_group (s : State) (g : Group) (timed : Bool) :
    (enterBypassing s g timed).1.groups[g] = { s.groups[g] with
      state := .bypassing
      holdTimer := if timed then some (s.after (s.tbs.limits.bypassHold * Config.tbPerMs)) else none
      pairs := Vector.ofFn fun side => some (pairChoice s (groupBridge g side)) } := by
  let entered := (s.setGroupState g .bypassing).setHoldTimer g
    (if timed then some (s.after (s.tbs.limits.bypassHold * Config.tbPerMs)) else none)
  have rest : Only [.fsc] (entered.choosePairs g) (enterPattern entered g).1 :=
    (cancelDecision_only _ g).trans (Only.foldl _ bypassRequest_only _ _)
  show (enterPattern entered g).1.groups[g] = _
  rw [rest.groups (by decide)]
  simp only [entered, State.choosePairs, State.setHoldTimer, State.setGroupState,
    State.setGroup_groups, setAt_get]
  rfl

theorem enterBypassing_fromRemoval (s : State) (g : Group) (timed : Bool) :
    ∀ e ∈ (enterBypassing s g timed).2, FromRemoval g e := cancelDecision_fromRemoval _ g

/-- The group is in BYPASSING by its flags, with the pairs `legs` (R147). -/
structure Bypassing (r : GroupRecord) (legs : Fin 2 → Leg) : Prop where
  state : r.state = .bypassing
  untimed : r.holdTimer = none
  pairs : r.pairs = Vector.ofFn fun side => some (legs side)

theorem enterBypassing_bypassing (s : State) (g : Group) :
    Bypassing (enterBypassing s g false).1.groups[g] fun side => pairChoice s (groupBridge g side) := by
  rw [enterBypassing_group]
  exact ⟨rfl, rfl, rfl⟩

/-! ## BYPASSING under a BYPASS order (R142, R148) -/

theorem applyFlags_of_bypassing {s : State} {g : Group} (state : s.groups[g].state = .bypassing)
    (command : commandOf s.olp.order.flags[g] = .bypass) :
    applyFlags s g = (s.setHoldTimer g none, []) := by
  simp only [applyFlags, state, command]

/-- In BYPASSING a removed record has no effect of its own (R142, R151). -/
theorem ownEffect_of_bypassing {s : State} {g : Group} {e : Group × GroupEvent}
    (state : s.groups[g].state = .bypassing) (removal : FromRemoval g e) :
    ownEffect s g e.2 = (s, []) := by
  obtain ⟨-, ⟨v, normal, o, same⟩ | same⟩ := removal
  · simp only [same, ownEffect, outcomeEvent, state]
  · simp only [same, ownEffect, state, reduceCtorEq, if_false]

theorem handleEvent_of_bypassing {s : State} {g : Group} {e : Group × GroupEvent}
    (state : s.groups[g].state = .bypassing) (command : commandOf s.olp.order.flags[g] = .bypass)
    (removal : FromRemoval g e) :
    handleEvent s e.1 e.2 = ((evalInhibits s g).setHoldTimer g none, []) := by
  have flags := applyFlags_of_bypassing (s := evalInhibits s g) ((evalInhibits_state s g).trans state) command
  rw [removal.1, handleEvent_eq, ownEffect_of_bypassing state removal, flags, List.append_nil]

theorem runEvents_bypassing {g : Group} {legs : Fin 2 → Leg} (fuel : Nat) (ns : Notices) (s : State)
    (command : commandOf s.olp.order.flags[g] = .bypass) (removals : ∀ e ∈ ns, FromRemoval g e)
    (bypassing : Bypassing s.groups[g] legs) : Bypassing (runEvents fuel ns s).groups[g] legs := by
  induction fuel generalizing ns s with
  | zero => exact bypassing
  | succ fuel ih =>
    cases ns with
    | nil => exact bypassing
    | cons e rest =>
      rw [runEvents_cons, handleEvent_of_bypassing bypassing.state command (removals e List.mem_cons_self),
        List.append_nil]
      refine ih rest _ command (fun x later => removals x (List.mem_cons_of_mem _ later)) ?_
      rw [State.setHoldTimer, evalInhibits, State.setGroup_setGroup]
      simp only [State.setGroup_groups, setAt_get]
      exact ⟨bypassing.state, rfl, bypassing.pairs⟩

/-- An adopted BYPASS takes a BLOCKED group to BYPASSING, whatever the records that the entry removes hand
back (R142, R143). -/
theorem groupEvent_orderAdopted_bypassing {s : State} {g : Group}
    (blocked : s.groups[g].state = .blocked) (command : commandOf s.olp.order.flags[g] = .bypass) :
    Bypassing (groupEvent s g .orderAdopted).groups[g] fun side => pairChoice s (groupBridge g side) := by
  have flags : applyFlags (evalInhibits s g) g = enterBypassing (evalInhibits s g) g false := by
    have state : (evalInhibits s g).groups[g].state = .blocked := (evalInhibits_state s g).trans blocked
    have still : commandOf (evalInhibits s g).olp.order.flags[g] = .bypass := command
    simp only [applyFlags, state, still]
  have handled : handleEvent s g .orderAdopted = enterBypassing (evalInhibits s g) g false := flags
  have order := (enterBypassing_only (evalInhibits s g) g false).orders_stand (by decide)
  rw [groupEvent, Nat.add_comm, runEvents_cons, handled]
  refine runEvents_bypassing _ _ _ ?_ (enterBypassing_fromRemoval _ g false)
    (enterBypassing_bypassing (evalInhibits s g) g)
  rw [order.1.1]
  exact command

/-- Both groups are told of the order, each apart from the other. -/
theorem bothGroups_orderAdopted_bypassing {s : State} {g : Group}
    (blocked : s.groups[g].state = .blocked) (command : commandOf s.olp.order.flags[g] = .bypass) :
    Bypassing (bothGroups s .orderAdopted).groups[g] fun side => pairChoice s (groupBridge g side) := by
  unfold bothGroups
  by_cases first : g = 0
  · subst first
    rw [groupEvent_others _ _ (by decide)]
    exact groupEvent_orderAdopted_bypassing blocked command
  · have second : g = 1 := Fin.eq_one_of_ne_zero g first
    subst second
    have others := groupEvent_others s (g := 0) .orderAdopted (h := 1) (by decide)
    have order := (groupEvent_only s 0 .orderAdopted).orders_stand (by decide)
    have fired := (groupEvent_steps s 0 .orderAdopted).fscKept.lastFired
    have told := groupEvent_orderAdopted_bypassing (s := groupEvent s 0 .orderAdopted) (g := 1)
      (by rw [others]; exact blocked) (by rw [order.1.1]; exact command)
    simp only [pairChoice, fired] at told
    exact told

/-! ## The ORDER (R162, R164) -/

theorem detectAc_order (s : State) (u : Nat) : (detectAc s u).olp.order = s.olp.order := by
  unfold detectAc
  dsimp only
  split <;> rfl

/-- The AC-low detector has evaluated U, and the groups have not been told yet (R162, R164). -/
def orderTaken (s : State) (seq : Byte) (o : OrderValues) : State :=
  detectAc (takeOrderValues (noteClamp s o) seq (clampOrder o)) (clampOrder o).voltage

theorem adoptOrder_eq (s : State) (seq : Byte) (o : OrderValues) :
    adoptOrder s seq o = queueStatus (bothGroups (orderTaken s seq o) .orderAdopted) := rfl

theorem orderTaken_flags (s : State) (seq : Byte) (o : OrderValues) :
    (orderTaken s seq o).olp.order.flags = o.flags := by
  rw [orderTaken, detectAc_order]
  rfl

theorem orderTaken_only (s : State) (seq : Byte) (o : OrderValues) :
    Only [.sticky, .count, .order] s (orderTaken s seq o) :=
  Only.trans (.of (noteClamp_only s o) rfl) (Only.trans (.of (takeOrderValues_only _ _ _) rfl)
    (.of (detectAc_only _ _) rfl))

theorem commandOf_of_bypass {f : GroupFlags} (bypass : f.bypass = true) : commandOf f = .bypass :=
  if_pos bypass

theorem exec_order_of_new {s : State} (n : Time) {seq : Byte} {payload : List Byte}
    (length : payload.length = 8) (new : s.olp.lastSeq ≠ some seq) :
    exec (.order n seq payload) s =
      .next (adoptOrder (noteGap (s.at n) seq) seq (orderOfPayload payload)) :=
  congrArg Host.Outcome.next ((if_neg (not_not.mpr length)).trans (if_neg new))

/-- Settles O37: up to the groups the ORDER leaves their records and the last fired valves
(`orderTaken_only`); then the group is told (`bothGroups_orderAdopted_bypassing`). -/
theorem orderWithBypassEntersBypassing : Obligations.OrderWithBypassEntersBypassing := by
  intro s n seq payload g length new blocked bypass
  let o := orderOfPayload payload
  let taken := orderTaken (noteGap (s.at n) seq) seq o
  have gap := noteGap_only (s.at n) seq
  have only := orderTaken_only (noteGap (s.at n) seq) seq o
  have groups : taken.groups = s.groups := (only.groups (by decide)).trans (gap.groups (by decide))
  have fired : taken.fsc = s.fsc := (only.fsc (by decide)).trans (gap.fsc (by decide))
  have told := bothGroups_orderAdopted_bypassing (s := taken) (g := g) (by rw [groups]; exact blocked)
    (by rw [orderTaken_flags]; exact commandOf_of_bypass bypass)
  have queued := (queueStatus_only (bothGroups taken .orderAdopted)).groups (by decide)
  rw [← queued, ← adoptOrder_eq] at told
  refine ⟨_, exec_order_of_new n length new, told.state, told.untimed, fun side => ?_⟩
  show _ = some (pairChoice s (groupBridge g side))
  rw [told.pairs, ofFn_get, pairChoice, pairChoice, fired]

end Sys2Proof.Machine
end

section
/-! PROOFS. RESET_TRIP (O48): a cancel decision leaves no PLANNED record of its group, what the records that it
removes hand back neither trips a group nor sets a flag, and the state in which a TRIPPED group stops. -/

namespace Sys2Proof.Machine

/-! ## PLANNED records and the cancel decision (R69) -/

/-- The records that a cancel decision for the group removes. -/
def plannedOf (g : Group) (r : FireRecord) : Bool :=
  decide (valveGroup r.valve = g) && r.isRegular && decide (r.state = .planned)

theorem plannedOf_of_sent {r : FireRecord} (g : Group) (sent : r.state ≠ .planned) :
    plannedOf g r = false := by
  rw [plannedOf, decide_eq_false sent, Bool.and_false]

theorem plannedOf_eq_true {g : Group} {r : FireRecord} (planned : plannedOf g r = true) :
    valveGroup r.valve = g ∧ r.isRegular = true ∧ r.state = .planned := by
  simpa only [plannedOf, Bool.and_eq_true, decide_eq_true_eq, and_assoc] using planned

/-- The group has no PLANNED NORMAL or START record. -/
def NonePlanned (s : State) (g : Group) : Prop := ∀ r ∈ s.fsc.records, plannedOf g r = false

/-- The mark of a cancel decision is on sent records (R69). -/
theorem markCancelled_planned (g h : Group) (n : BitVec 32) (r : FireRecord) :
    plannedOf g (markCancelled h n r) = plannedOf g r := by
  unfold markCancelled
  split
  · next sent =>
    have waits : r.state ≠ .planned := fun planned => by simp [planned] at sent
    rw [plannedOf_of_sent g waits]
    exact plannedOf_of_sent g nofun
  · rfl

theorem markCancelled_of_planned {g : Group} {r : FireRecord} (planned : plannedOf g r = true) (h : Group)
    (n : BitVec 32) : markCancelled h n r = r := by
  simp [markCancelled, (plannedOf_eq_true planned).2.2]

theorem filter_map_markCancelled (g h : Group) (n : BitVec 32) (rs : List FireRecord) :
    (rs.map (markCancelled h n)).filter (plannedOf g) = rs.filter (plannedOf g) := by
  have same : plannedOf g ∘ markCancelled h n = plannedOf g := funext (markCancelled_planned g h n)
  rw [List.filter_map, same]
  refine (List.map_congr_left fun r mem => ?_).trans (List.map_id' _)
  exact markCancelled_of_planned (List.mem_filter.mp mem).2 h n

theorem tryBypass_planned (s : State) (v : Valve) (g : Group) :
    ((tryBypass s v).fsc.records.filter (plannedOf g)).Perm (s.fsc.records.filter (plannedOf g)) := by
  unfold tryBypass
  split
  · have placed : ¬ plannedOf g (newBypass v s.placingDue) = true :=
      Bool.eq_false_iff.mp (plannedOf_of_sent g nofun)
    exact ((insertBy_perm _ _ _).filter _).trans (.of_eq (List.filter_cons_of_neg placed))
  · exact .refl _

theorem retryWaiting_planned (s : State) (v : Valve) (g : Group) :
    ((retryWaiting s v).fsc.records.filter (plannedOf g)).Perm (s.fsc.records.filter (plannedOf g)) := by
  refine List.foldlRecOn _ retryOne (motive := fun t =>
    (t.fsc.records.filter (plannedOf g)).Perm (s.fsc.records.filter (plannedOf g)))
    (List.Perm.refl _) fun t kept w _ => ?_
  unfold retryOne
  split
  · exact (tryBypass_planned t w g).trans kept
  · exact kept

/-- The removals of a list of all PLANNED records leave none. -/
theorem foldl_cancelPlanned_nonePlanned {g : Group} (rs : List FireRecord) (x : State × Notices)
    (all : (x.1.fsc.records.filter (plannedOf g)).Perm rs) :
    NonePlanned (rs.foldl cancelPlanned x).1 g := by
  induction rs generalizing x with
  | nil =>
    intro r live
    exact Bool.eq_false_iff.mpr (List.filter_eq_nil_iff.mp all.eq_nil r live)
  | cons r rs ih =>
    refine ih (cancelPlanned x r) ((retryWaiting_planned _ _ g).trans ?_)
    have erased := all.erase r
    rw [List.erase_cons_head, List.erase_filter] at erased
    rw [closeRecord_records]
    exact erased

theorem cancelDecision_nonePlanned (s : State) (g : Group) : NonePlanned (cancelDecision s g).1 g :=
  foldl_cancelPlanned_nonePlanned _ (_, []) (.of_eq (filter_map_markCancelled g g _ _))

/-- Without PLANNED records a cancel decision marks, and removes nothing (R69). -/
theorem cancelDecision_of_nonePlanned {s : State} {g : Group} (none : NonePlanned s g) :
    cancelDecision s g = ((takeDecision s).setRecords
      (s.fsc.records.map (markCancelled g (s.fsc.decisionCount + 1#32))), []) := by
  have nothing : s.fsc.records.filter (plannedOf g) = [] :=
    List.filter_eq_nil_iff.mpr fun r live => Bool.eq_false_iff.mp (none r live)
  show (s.fsc.records.filter (plannedOf g)).foldl cancelPlanned _ = _
  rw [nothing]
  rfl

/-! ## No step of the Group Controller plans a record -/

theorem AddsDispatched.nonePlanned {s t : State} {g : Group} (adds : AddsDispatched s t)
    (none : NonePlanned s g) : NonePlanned t g := by
  intro r live
  rcases adds r live with old | new
  · exact none r old
  · exact plannedOf_of_sent g (by rw [new]; nofun)

theorem foldl_cancelPlanned_addsDispatched (rs : List FireRecord) (x : State × Notices) :
    AddsDispatched x.1 (rs.foldl cancelPlanned x).1 := by
  induction rs generalizing x with
  | nil => exact .of_records rfl
  | cons r rs ih =>
    have closed : AddsDispatched x.1 (closeRecord x.1 r (.cancelled false)) := fun y live =>
      .inl (List.mem_of_mem_erase (closeRecord_records x.1 r _ ▸ live))
    exact (closed.trans (retryWaiting_addsDispatched _ _)).trans (ih (cancelPlanned x r))

theorem GroupSteps.nonePlanned {s t : State} {g : Group} (steps : GroupSteps s t)
    (none : NonePlanned s g) : NonePlanned t g := by
  induction steps with
  | refl => exact none
  | tail _ step none =>
    cases step with
    | group h r => exact none
    | flag f => exact none
    | fac x => exact none
    | bypass v => exact (tryBypass_addsDispatched _ v).nonePlanned none
    | cancel h =>
      refine (foldl_cancelPlanned_addsDispatched _ (_, [])).nonePlanned fun r live => ?_
      obtain ⟨x, old, rfl⟩ := List.mem_map.mp live
      exact (markCancelled_planned g h _ x).trans (none x old)
    | release h =>
      intro r live
      obtain ⟨x, old, rfl⟩ := List.mem_map.mp live
      unfold markReleased
      split
      · exact plannedOf_of_sent g nofun
      · exact none x old

/-! ## What a cancel decision hands back (R68, R69) -/

/-- A notice that the removal of a PLANNED record of the group hands on (R68, R69). -/
def FromCancel (g : Group) (e : Group × GroupEvent) : Prop :=
  e.1 = g ∧ ((∃ v normal, e.2 = .outcome v normal (.cancelled false)) ∨ e.2 = .recordsEnded)

theorem noticesOf_fromCancel (s : State) (r : FireRecord) :
    ∀ e ∈ noticesOf s r (.cancelled false), FromCancel (valveGroup r.valve) e := by
  intro e mem
  simp only [noticesOf, List.mem_append, List.mem_ite_nil_right, List.mem_singleton] at mem
  rcases mem with ⟨-, rfl⟩ | ⟨-, rfl⟩
  · exact ⟨rfl, .inl ⟨_, _, rfl⟩⟩
  · exact ⟨rfl, .inr rfl⟩

theorem foldl_cancelPlanned_fromCancel {g : Group} (rs : List FireRecord) (x : State × Notices)
    (own : ∀ r ∈ rs, valveGroup r.valve = g) (old : ∀ e ∈ x.2, FromCancel g e) :
    ∀ e ∈ (rs.foldl cancelPlanned x).2, FromCancel g e := by
  induction rs generalizing x with
  | nil => exact old
  | cons r rs ih =>
    refine ih (cancelPlanned x r) (fun y later => own y (List.mem_cons_of_mem _ later)) ?_
    refine List.forall_mem_append.mpr ⟨old, ?_⟩
    rw [← own r List.mem_cons_self]
    exact noticesOf_fromCancel _ r

theorem cancelDecision_fromCancel (s : State) (g : Group) :
    ∀ e ∈ (cancelDecision s g).2, FromCancel g e :=
  foldl_cancelPlanned_fromCancel _ (_, [])
    (fun _ mem => (plannedOf_eq_true (List.mem_filter.mp mem).2).1) nofun

/-! ## A group whose trip is reset -/

/-- The group is not TRIPPED, holds no trip cause, and has bypass pairs in BYPASSING alone. -/
structure Untripped (r : GroupRecord) : Prop where
  state : r.state ≠ .tripped
  first : r.firstCause = none
  causes : r.tripCauses = fill 7 false
  pairs : r.state ≠ .bypassing → r.pairs = fill 2 none

/-- Another state but TRIPPED, with no pairs. -/
theorem Untripped.withState {r : GroupRecord} (clear : Untripped r) (unpaired : r.pairs = fill 2 none)
    {x : GroupState} (other : x ≠ .tripped) : Untripped { r with state := x } :=
  ⟨other, clear.first, clear.causes, fun _ => unpaired⟩

theorem enterBypassing_untripped {s : State} {g : Group} (clear : Untripped s.groups[g])
    (timed : Bool) : Untripped (enterBypassing s g timed).1.groups[g] := by
  rw [enterBypassing_group]
  exact ⟨nofun, clear.first, clear.causes, fun left => absurd rfl left⟩

theorem checkStopped_untripped {s : State} {g : Group} (clear : Untripped s.groups[g])
    (unpaired : s.groups[g].pairs = fill 2 none) : Untripped (checkStopped s g).groups[g] := by
  unfold checkStopped
  split
  · exact clear
  · simp only [State.setGroupState, State.setGroup_groups, setAt_get]
    exact clear.withState unpaired nofun

theorem stopDirect_untripped {s : State} {g : Group} (clear : Untripped s.groups[g])
    (unpaired : s.groups[g].pairs = fill 2 none) : Untripped (stopDirect s g).1.groups[g] := by
  let stopping := s.setGroupState g .stopping
  have groups : (cancelDecision stopping g).1.groups[g] = { s.groups[g] with state := .stopping } := by
    rw [(cancelDecision_only stopping g).groups (by decide)]
    exact setAt_get _ g _
  show Untripped (checkStopped (cancelDecision stopping g).1 g).groups[g]
  exact checkStopped_untripped (by rw [groups]; exact clear.withState unpaired nofun)
    (by rw [groups]; exact unpaired)

theorem stopBypass_untripped {s : State} {g : Group} (clear : Untripped s.groups[g]) :
    Untripped (stopBypass s g).groups[g] := by
  let stopping := ((s.setGroupState g .stopping).setHoldTimer g none).clearPairs g
  have groups : (releaseDecision stopping g).groups[g] =
      { s.groups[g] with state := .stopping, holdTimer := none, pairs := fill 2 none } := by
    show stopping.groups[g] = _
    simp only [stopping, State.clearPairs, State.setHoldTimer, State.setGroupState,
      State.setGroup_groups, setAt_get]
  exact checkStopped_untripped (s := releaseDecision stopping g)
    (by rw [groups]; exact ⟨nofun, clear.first, clear.causes, fun _ => rfl⟩) (by rw [groups])

theorem enterDeblocking_untripped {s : State} {g : Group} (clear : Untripped s.groups[g]) :
    Untripped (enterDeblocking s g).groups[g] := by
  unfold enterDeblocking
  dsimp only
  split
  · simp only [State.setFac_groups, State.clearPairs, State.setHoldTimer, State.setGroupState,
      State.setGroup_groups, setAt_get, (releaseDecision_only _ g).groups (by decide)]
    exact ⟨nofun, clear.first, clear.causes, fun _ => rfl⟩
  · next other =>
    simp only [State.setFac_groups, State.setGroupState, State.setGroup_groups, setAt_get]
    exact ⟨nofun, clear.first, clear.causes, fun _ => clear.pairs fun same => other (decide_eq_true same)⟩

/-- What an event with no trip can touch. -/
abbrev calmBlocks : List Block := [.fac, .fsc, .groups]

/-- From `s` the group comes to `x` without a trip, no flag is set, and what `x` hands back comes of PLANNED
records that were removed. -/
structure Calm (g : Group) (s : State) (x : State × Notices) : Prop where
  untripped : Untripped x.1.groups[g]
  only : Only calmBlocks s x.1
  notices : ∀ e ∈ x.2, FromCancel g e

/-- The flags bring no trip (R143). -/
theorem applyFlags_calm {s : State} {g : Group} (clear : Untripped s.groups[g]) :
    Calm g s (applyFlags s g) := by
  have both : Untripped (applyFlags s g).1.groups[g] ∧ ∀ e ∈ (applyFlags s g).2, FromCancel g e := by
    unfold applyFlags
    dsimp only
    split
    case h_1 | h_3 | h_4 =>
      exact ⟨enterBypassing_untripped clear false, cancelDecision_fromCancel _ g⟩
    case h_2 | h_9 =>
      split
      · exact ⟨enterDeblocking_untripped clear, nofun⟩
      · exact ⟨clear, nofun⟩
    case h_5 state _ | h_6 state _ =>
      split
      · exact ⟨stopDirect_untripped clear (clear.pairs (by rw [state]; nofun)),
          cancelDecision_fromCancel _ g⟩
      · exact ⟨enterBypassing_untripped clear true, cancelDecision_fromCancel _ g⟩
    case h_7 =>
      rw [State.setHoldTimer, State.setGroup_groups, setAt_get]
      exact ⟨⟨clear.state, clear.first, clear.causes, clear.pairs⟩, nofun⟩
    case h_8 =>
      split
      · exact ⟨stopBypass_untripped clear, nofun⟩
      · exact ⟨clear, nofun⟩
    case h_10 => exact ⟨clear, nofun⟩
  exact ⟨both.1, applyFlags_only s g, both.2⟩

/-- After a calm own effect the deblock conditions and the flags are calm too (R142). -/
theorem handleEvent_calm {s : State} {g : Group} {e : GroupEvent} (own : Calm g s (ownEffect s g e)) :
    Calm g s (handleEvent s g e) := by
  have clear : Untripped (evalInhibits (ownEffect s g e).1 g).groups[g] := by
    rw [evalInhibits, State.setGroup_groups, setAt_get]
    exact ⟨own.untripped.state, own.untripped.first, own.untripped.causes, own.untripped.pairs⟩
  have flags := applyFlags_calm clear
  rw [handleEvent_eq]
  exact ⟨flags.untripped, own.only.trans (Only.trans (.of (State.setGroup_only _ g _) rfl) flags.only),
    List.forall_mem_append.mpr ⟨own.notices, flags.notices⟩⟩

/-- A cancelled record trips no group, and without a record left STOPPING ends (R149, R151). -/
theorem ownEffect_calm {s : State} {g : Group} {e : Group × GroupEvent} (clear : Untripped s.groups[g])
    (cancel : FromCancel g e) : Calm g s (ownEffect s g e.2) := by
  obtain ⟨-, ⟨v, normal, same⟩ | same⟩ := cancel
  · have none : ownEffect s g e.2 = (s, []) := by
      rw [same]
      unfold ownEffect outcomeEvent
      cases s.groups[g].state <;> rfl
    rw [none]
    exact ⟨clear, .refl _ _, nofun⟩
  · rw [same, ownEffect]
    split
    · next stopping =>
      refine ⟨?_, .of (s.setGroup_only g _) rfl, nofun⟩
      rw [State.setGroupState, State.setGroup_groups, setAt_get]
      exact clear.withState (clear.pairs (by rw [stopping]; nofun)) nofun
    · exact ⟨clear, .refl _ _, nofun⟩

theorem runEvents_calm {g : Group} (fuel : Nat) (ns : Notices) {s : State}
    (clear : Untripped s.groups[g]) (cancels : ∀ e ∈ ns, FromCancel g e) :
    Calm g s (runEvents fuel ns s, []) := by
  induction fuel generalizing ns s with
  | zero => exact ⟨clear, .refl _ _, nofun⟩
  | succ fuel ih =>
    cases ns with
    | nil => exact ⟨clear, .refl _ _, nofun⟩
    | cons e rest =>
      obtain ⟨head, tail⟩ := List.forall_mem_cons.mp cancels
      have first : Calm g s (handleEvent s e.1 e.2) := by
        rw [head.1]
        exact handleEvent_calm (ownEffect_calm clear head)
      have later := ih _ first.untripped (List.forall_mem_append.mpr ⟨tail, first.notices⟩)
      exact ⟨later.untripped, first.only.trans later.only, nofun⟩

/-- An event whose own effect is calm stays so through the events that its removals hand back (R142). -/
theorem groupEvent_calm {s : State} {g : Group} {e : GroupEvent} (own : Calm g s (ownEffect s g e)) :
    Calm g s (groupEvent s g e, []) := by
  have first := handleEvent_calm own
  have later := runEvents_calm (2 * s.fsc.records.length) _ first.untripped first.notices
  rw [groupEvent, Nat.add_comm, runEvents_cons, List.nil_append]
  exact ⟨later.untripped, first.only.trans later.only, nofun⟩

/-! ## The reset (R155) -/

/-- The group stops with its trip taken back, before its records are decided on. -/
def tripCleared (s : State) (g : Group) : State :=
  s.setGroup g { s.groups[g] with
    state := .stopping, tripCauses := fill 7 false, firstCause := none, pairs := fill 2 none }

theorem tripCleared_group (s : State) (g : Group) : (tripCleared s g).groups[g] = { s.groups[g] with
    state := .stopping, tripCauses := fill 7 false, firstCause := none, pairs := fill 2 none } :=
  setAt_get _ g _

theorem resetTripped_eq (s : State) (g : Group) : resetTripped s g =
    (checkStopped (releaseDecision (cancelDecision (tripCleared s g) g).1 g) g,
      (cancelDecision (tripCleared s g) g).2) := rfl

theorem resetTripped_calm (s : State) (g : Group) : Calm g s (resetTripped s g) := by
  let decided := releaseDecision (cancelDecision (tripCleared s g) g).1 g
  have groups : decided.groups[g] = _ :=
    (congrArg (·[g]) ((cancelDecision_only (tripCleared s g) g).groups (by decide))).trans
      (tripCleared_group s g)
  refine ⟨?_, .of (resetTripped_only s g) rfl, cancelDecision_fromCancel _ g⟩
  exact checkStopped_untripped (s := decided)
    (by rw [groups]; exact ⟨nofun, rfl, rfl, fun _ => rfl⟩) (by rw [groups])

theorem ownEffect_resetTrip {s : State} {g : Group} (tripped : s.groups[g].state = .tripped) :
    ownEffect s g .resetTrip = resetTripped s g := if_pos tripped

/-- The cancel decision removes the PLANNED records, and what follows plans none. -/
theorem groupEvent_resetTrip_nonePlanned {s : State} {g : Group}
    (tripped : s.groups[g].state = .tripped) : NonePlanned (groupEvent s g .resetTrip) g := by
  let cancelled := (cancelDecision (tripCleared s g) g).1
  have reset : GroupSteps cancelled (resetTripped s g).1 :=
    (GroupStep.release cancelled g).steps.trans (checkStopped_steps _ g)
  have first : GroupSteps cancelled (handleEvent s g .resetTrip).1 := by
    rw [handleEvent_eq, ownEffect_resetTrip tripped]
    exact reset.trans ((GroupStep.group _ g _).steps.trans (applyFlags_steps _ g))
  rw [groupEvent, Nat.add_comm, runEvents_cons]
  exact GroupSteps.nonePlanned (first.trans (runEvents_steps _ _ _)) (cancelDecision_nonePlanned _ g)

/-! ## The whole next state without PLANNED records (R69, R73, R144, R149) -/

/-- The marks of the cancel decision `a` and of the release decision `b` after it. -/
def resetMark (g : Group) (a b : BitVec 32) (timeout : Time) (r : FireRecord) : FireRecord :=
  if valveGroup r.valve ≠ g then r
  else if r.isRegular = true ∧ (r.state = .dispatched ∨ r.state = .armed) then
    { r with state := .cancelling, decision := some a, firstCancel := none }
  else if r.isBypass = true ∧ r.state ≠ .releasing then
    { r with state := .releasing, decision := some b, firstCancel := none, releaseAt := some timeout }
  else r

theorem markReleased_markCancelled (g : Group) (a b : BitVec 32) (timeout : Time) (r : FireRecord) :
    markReleased g b timeout (markCancelled g a r) = resetMark g a b timeout r := by
  rw [markReleased_eq]
  unfold resetMark
  by_cases own : valveGroup r.valve = g
  · rw [if_neg (not_not.mpr own)]
    by_cases sent : r.isRegular = true ∧ (r.state = .dispatched ∨ r.state = .armed)
    · have marked : markCancelled g a r =
          { r with state := .cancelling, decision := some a, firstCancel := none } :=
        if_pos (by simpa [own] using sent)
      rw [if_pos sent, marked]
      have apart : r.isBypass = false := isBypass_of_isRegular sent.1
      exact if_neg fun ⟨_, bypass, _⟩ => Bool.false_ne_true (apart.symm.trans bypass)
    · have kept : markCancelled g a r = r := if_neg (by simpa [own] using sent)
      simp only [if_neg sent, kept, own, true_and]
  · have kept : markCancelled g a r = r := if_neg (by simp [own])
    simp only [own, kept, false_and, if_false, not_false_eq_true, if_true, ne_eq]

/-- The state that RESET_TRIP leaves at `n`, with the group in state `x` and its deblock conditions evaluated. -/
def resetStopped (s : State) (n : Time) (g : Group) (x : GroupState) : State := { s with
  now := n
  groups := setAt s.groups g { s.groups[g] with
    state := x, tripCauses := fill 7 false, firstCause := none, pairs := fill 2 none
    inhibits := inhibitSet s g }
  fsc := { s.fsc with
    decisionCount := s.fsc.decisionCount + 1#32 + 1#32
    records := s.fsc.records.map (resetMark g (s.fsc.decisionCount + 1#32)
      (s.fsc.decisionCount + 1#32 + 1#32) (addTb n s.tbs.ring.confirmTimeout))
    waiting := Vector.ofFn fun v => s.fsc.waiting[v] && !decide (valveGroup v = g) } }

/-- Marks that keep every record's valve and kind leave each group as busy as it was. -/
theorem groupBusy_of_marks {s t : State} (mark : FireRecord → FireRecord)
    (same : ∀ r, SameFiring r (mark r)) (records : t.fsc.records = s.fsc.records.map mark) (g : Group) :
    t.groupBusy g = s.groupBusy g := by
  rw [State.groupBusy, State.groupBusy, records, List.any_map]
  refine congrArg s.fsc.records.any (funext fun r => ?_)
  show (decide (valveGroup (mark r).valve = g) && !(mark r).isTest) = _
  rw [(same r).valve, FireRecord.isTest, (same r).body]
  rfl

theorem resetMark_same (g : Group) (a b : BitVec 32) (timeout : Time) (r : FireRecord) :
    SameFiring r (resetMark g a b timeout r) := by
  rw [← markReleased_markCancelled]
  have first := markCancelled_same g a r
  have second := markReleased_same g b timeout (markCancelled g a r)
  exact ⟨second.valve.trans first.valve, second.body.trans first.body, second.seq.trans first.seq⟩

theorem resetStopped_groupBusy (s : State) (n : Time) (g : Group) (x : GroupState) (h : Group) :
    (resetStopped s n g x).groupBusy h = s.groupBusy h :=
  groupBusy_of_marks _ (resetMark_same g _ _ _) rfl h

section
variable {s : State} {g : Group} (none : NonePlanned s g) (n : Time)
include none

/-- The two decisions of the reset. -/
theorem resetTrip_decisions : releaseDecision (cancelDecision (tripCleared (s.at n) g) g).1 g =
    (tripCleared (s.at n) g).setFsc (resetStopped s n g .stopping).fsc := by
  have marks : (s.fsc.records.map (markCancelled g (s.fsc.decisionCount + 1#32))).map
      (markReleased g (s.fsc.decisionCount + 1#32 + 1#32) (addTb n s.tbs.ring.confirmTimeout)) =
        (resetStopped s n g .stopping).fsc.records :=
    List.map_map.trans (List.map_congr_left fun r _ => markReleased_markCancelled g _ _ _ r)
  rw [cancelDecision_of_nonePlanned (s := tripCleared (s.at n) g) none]
  exact congrArg (fun rs => (tripCleared (s.at n) g).setFsc
    { (resetStopped s n g .stopping).fsc with records := rs }) marks

theorem evalInhibits_resetTripped : evalInhibits (resetTripped (s.at n) g).1 g =
    resetStopped s n g (if s.groupBusy g then .stopping else .blocked) := by
  have busy : ((tripCleared (s.at n) g).setFsc (resetStopped s n g .stopping).fsc).groupBusy g =
      s.groupBusy g := resetStopped_groupBusy s n g .stopping g
  rw [resetTripped_eq, resetTrip_decisions none n, checkStopped, busy]
  cases s.groupBusy g
  all_goals
    simp only [evalInhibits, tripCleared, State.setGroupState, State.setGroup, State.setFsc, setAt_setAt,
      setAt_get, if_true, if_false, Bool.false_eq_true]
    rfl

theorem handleEvent_resetTrip (tripped : s.groups[g].state = .tripped) :
    handleEvent (s.at n) g .resetTrip =
      applyFlags (resetStopped s n g (if s.groupBusy g then .stopping else .blocked)) g := by
  have quiet : (resetTripped (s.at n) g).2 = [] := by
    rw [resetTripped_eq, cancelDecision_of_nonePlanned (s := tripCleared (s.at n) g) none]
  rw [handleEvent_eq, ownEffect_resetTrip (s := s.at n) tripped, evalInhibits_resetTripped none n, quiet]
  rfl

/-- While a record is left the group is in STOPPING, which acts on no flags (R149). -/
theorem groupEvent_resetTrip_of_busy (tripped : s.groups[g].state = .tripped)
    (busy : s.groupBusy g = true) :
    groupEvent (s.at n) g .resetTrip = resetStopped s n g .stopping := by
  have state : (resetStopped s n g .stopping).groups[g].state = .stopping := by
    rw [resetStopped, setAt_get]
  have handled := handleEvent_resetTrip none n tripped
  rw [busy, if_pos rfl, applyFlags_of_stopping state] at handled
  rw [groupEvent_of_no_notice (by rw [handled]), handled]

/-- With none left it is BLOCKED, and takes the flags in force (R143, R149). -/
theorem groupEvent_resetTrip_of_idle (tripped : s.groups[g].state = .tripped)
    (idle : s.groupBusy g = false) :
    TakesFlags (resetStopped s n g .blocked) (groupEvent (s.at n) g .resetTrip) g := by
  have state : (resetStopped s n g .blocked).groups[g].state = .blocked := by
    rw [resetStopped, setAt_get]
  have handled := handleEvent_resetTrip none n tripped
  rw [idle, if_neg Bool.false_ne_true] at handled
  obtain ⟨taken, quiet⟩ := applyFlags_takesFlags state
    ((resetStopped_groupBusy s n g .blocked g).trans idle)
  rw [groupEvent_of_no_notice (by rw [handled]; exact quiet), handled]
  exact taken

end

/-! ## The command (R155, R157, R168) -/

theorem groupOfCode_of_group (g : Group) : groupOfCode (BitVec.ofNat 8 (g.val + 1)) = some g := by
  match g with
  | 0 | 1 => rfl

theorem groupOfCode_of_other {k : Byte} (first : k ≠ 1#8) (second : k ≠ 2#8) : groupOfCode k = none := by
  unfold groupOfCode
  split
  · next one => exact absurd (BitVec.eq_of_toNat_eq one) first
  · next two => exact absurd (BitVec.eq_of_toNat_eq two) second
  · rfl

theorem resetTrip_of_group (s : State) (g : Group) : resetTrip s (BitVec.ofNat 8 (g.val + 1)) =
    if s.groups[g].state = .tripped then (groupEvent s g .resetTrip, ok 6#8)
    else (s, refuse .state 6#8) := by
  rw [resetTrip, groupOfCode_of_group]
  rfl

theorem exec_resetTrip_of_answer {s t : State} (n : Time) (seq : Byte) {k : Byte} {a : Answer}
    (room : replyCount s.olp.queue < 3) (answer : resetTrip (s.at n) k = (t, a)) :
    exec (.resetTrip n seq k) s =
      .next (enqueue t (.reply ⟨8#8, seq, a.result, a.subject, a.detail, a.contents⟩)) := by
  show Host.Outcome.next (request (s.at n) 8#8 seq fun u => resetTrip u k) = _
  rw [request_of_room (s := s.at n) room, answer]

/-- Settles O48: no notice of the reset trips the group again (`groupEvent_calm`), no step after its cancel
decision plans a record, and without PLANNED records the state in which it stops is known. -/
theorem resetTripLeavesTripped : Obligations.ResetTripLeavesTripped := by
  intro s n seq room
  refine ⟨fun g tripped => ?reset, fun g other => ?state, fun k first second => ?index⟩
  case reset =>
    intro cancel release marked stopped
    have calm : Calm g (s.at n) (groupEvent (s.at n) g .resetTrip, []) :=
      groupEvent_calm (by rw [ownEffect_resetTrip (s := s.at n) tripped]; exact resetTripped_calm _ g)
    obtain ⟨untripped, only, -⟩ := calm
    have planned := groupEvent_resetTrip_nonePlanned (s := s.at n) tripped
    have link := only.olp_but_sticky (by decide) (by decide) (by decide)
    rw [only.sticky (by decide)] at link
    refine ⟨_, exec_resetTrip_of_answer n seq room
      ((resetTrip_of_group (s.at n) g).trans (if_pos tripped)), untripped.state, untripped.first,
      untripped.causes, untripped.pairs, fun r live own regular state => ?_, fun unplanned => ?_, link,
      only.pru (by decide), only.rgm (by decide), only.exm (by decide), only.lvm (by decide),
      only.tbs (by decide)⟩
    · have none := planned r live
      simp [plannedOf, own, regular, state] at none
    · have none : NonePlanned s g := fun r live => by
        by_cases own : valveGroup r.valve = g
        · exact plannedOf_of_sent g (unplanned r live own)
        · rw [plannedOf, decide_eq_false own, Bool.false_and, Bool.false_and]
      exact ⟨groupEvent_resetTrip_of_busy none n tripped, groupEvent_resetTrip_of_idle none n tripped⟩
  case state =>
    exact exec_resetTrip_of_answer n seq room ((resetTrip_of_group (s.at n) g).trans (if_neg other))
  case index =>
    have unknown : resetTrip (s.at n) k = (s.at n, badIndex 6#8 k) := by
      rw [resetTrip, groupOfCode_of_other first second]
      rfl
    exact exec_resetTrip_of_answer n seq room unknown

end Sys2Proof.Machine
end

section
/-! PROOFS. The requests of the Order Link (O4, O7, O34, O39, O40, O59): what a queued frame does to the
transmitter, the request that a frame spells, and the bytes of a frame read back. -/

namespace Sys2Proof.Machine

/-! ## The transmitter (R165, R166) -/

theorem kickTransmitter_of_waiting {s : State} {f : OutFrame} {rest : List OutFrame}
    (idle : s.olp.sending = none) (waits : s.olp.queue = f :: rest) : kickTransmitter s =
      s.setOlp { s.olp with
        queue := rest
        sending := some ⟨builtFrame s f, s.after (lineTime (builtFrame s f))⟩ } := by
  simp only [kickTransmitter, idle, waits]

theorem kickTransmitter_of_empty {s : State} (empty : s.olp.queue = []) : kickTransmitter s = s := by
  unfold kickTransmitter
  rw [empty]
  split
  · next waits => cases waits
  all_goals rfl

theorem kickTransmitter_of_sending {s : State} (busy : s.olp.sending ≠ none) : kickTransmitter s = s := by
  unfold kickTransmitter
  split
  · next idle _ => exact absurd idle busy
  all_goals rfl

/-- An idle transmitter with an empty queue sends the frame at once (R165). -/
theorem enqueue_of_idle {s : State} (idle : s.olp.sending = none) (empty : s.olp.queue = [])
    (f : OutFrame) : enqueue s f = s.setOlp { s.olp with
      queue := []
      sending := some ⟨builtFrame s f, s.after (lineTime (builtFrame s f))⟩ } := by
  have waits : s.olp.queue ++ [f] = f :: [] := by rw [empty]; rfl
  rw [enqueue, kickTransmitter_of_waiting (s := s.setOlp { s.olp with queue := s.olp.queue ++ [f] })
    idle waits]
  cases f <;> rfl

/-- A frame waits behind the one being sent (R166). -/
theorem enqueue_of_sending {s : State} (busy : s.olp.sending ≠ none) (f : OutFrame) :
    enqueue s f = s.setOlp { s.olp with queue := s.olp.queue ++ [f] } :=
  kickTransmitter_of_sending (s := s.setOlp { s.olp with queue := s.olp.queue ++ [f] }) busy

/-- Settles O39: the instant is reached, and the transmitter is idle. -/
theorem transmitEndTakesTheNextFrame : Obligations.TransmitEndTakesTheNextFrame := by
  intro s n x sending reached
  let ended := (s.at n).setOlp { s.olp with sending := none }
  have armed : sendingEnd (s.at n) = some x.ends := congrArg (Option.map Sending.ends) sending
  have taken : exec (.transmitEnd n) s = .next (kickTransmitter ended) :=
    congrArg Host.Outcome.next (takeIf_of_reached endSending armed reached)
  rw [taken]
  refine ⟨fun empty => ?_, fun f rest waits => ?_⟩
  · rw [kickTransmitter_of_empty (s := ended) empty]
    rfl
  · rw [kickTransmitter_of_waiting (s := ended) rfl waits]
    rfl

/-! ## The requests that frames spell (R166, R168) -/

theorem request_of_full {s : State} (full : 3 ≤ replyCount s.olp.queue) (type seq : Byte)
    (act : State → State × Answer) : request s type seq act = s.countBusyDrop :=
  if_pos (decide_eq_true full)

/-- What the acts of requests can touch: all but the orders, the output and, of the counters, the drops. -/
abbrev actBlocks : List Block :=
  [.pru, .plan, .fac, .fsc, .rgm, .exm, .lvm, .groups, .sticky, .clear, .count, .tbs]

/-- Every well-formed frame but an ORDER is a request, under its own type and number; an unknown one's
act does nothing (R160, R168). -/
theorem exec_of_frame {c : Instr} {n : Time} {type seq : Byte} {payload : List Byte} (s : State)
    (frame : frameOf c = some (type, seq, payload)) (time : c.time? = some n) (wf : c.wf = true)
    (other : type ≠ 1#8) : ∃ act : State → State × Answer,
      exec c s = .next (request (s.at n) type seq act) ∧ Only actBlocks (s.at n) (act (s.at n)).1 := by
  cases c
  case unknownFrame m type seq payload =>
    cases frame
    cases time
    simp only [Instr.wf, Bool.and_eq_true, Bool.not_eq_true'] at wf
    have asked : takeUnknown (s.at n) type seq payload =
        request (s.at n) type seq fun s => (s, badFrame) := by
      rw [takeUnknown, wf.2, if_neg Bool.false_ne_true, if_neg other]
    exact ⟨_, congrArg Host.Outcome.next asked, .refl _ _⟩
  case order => cases frame; exact absurd rfl other
  case tableWrite => cases frame; cases time; exact ⟨_, rfl, .of (writeTable_only _ _ _ _) rfl⟩
  case tableCommit => cases frame; cases time; exact ⟨_, rfl, .of (commitTable_only _ _) rfl⟩
  case tableDiscard => cases frame; cases time; exact ⟨_, rfl, .of (discardTable_only _ _) rfl⟩
  case clearFlags => cases frame; cases time; exact ⟨_, rfl, .of (clearFlags_only _ _) rfl⟩
  case clearCounters => cases frame; cases time; exact ⟨_, rfl, .of (clearCounters_only _) rfl⟩
  case clearRingStats => cases frame; cases time; exact ⟨_, rfl, .of (State.setRgm_only _ _) rfl⟩
  case clearLevelFaults => cases frame; cases time; exact ⟨_, rfl, .of (clearLevelFaults_only _ _) rfl⟩
  case testFire => cases frame; cases time; exact ⟨_, rfl, .of (testFire_only _ _) rfl⟩
  case resetTrip => cases frame; cases time; exact ⟨_, rfl, .of (resetTrip_only _ _) rfl⟩
  case ringRestart => cases frame; cases time; exact ⟨_, rfl, .of (ringRestartCommand_only _) rfl⟩
  case warmRestart => cases frame; cases time; exact ⟨_, rfl, .of (warmRestartCommand_only _) rfl⟩
  case tableRow | valveRecord | levelSet | stationRecord | schedule | captureHistory | counters
      | ringStats => cases frame; cases time; exact ⟨_, rfl, .refl _ _⟩
  all_goals cases frame

/-- Settles O40. -/
theorem busyQueueDropsEveryRequest : Obligations.BusyQueueDropsEveryRequest := by
  intro c s n type seq payload frame time wf other full
  obtain ⟨act, run, -⟩ := exec_of_frame s frame time wf other
  rw [run, request_of_full (s := s.at n) full]
  rfl

theorem takeOrder_of_length {s : State} {seq : Byte} {payload : List Byte}
    (length : payload.length ≠ 8) : takeOrder s seq payload = s.countOrderFormat := if_pos length

theorem lengthOk_order (payload : List Byte) : lengthOk 1#8 payload = (payload.length == 8) := rfl

/-- Settles O34. -/
theorem droppedAndUnknownFrames : Obligations.DroppedAndUnknownFrames := by
  intro s n cause type seq payload
  refine ⟨rfl, fun length => ⟨?_, ?_⟩, fun other unknown room => ?_⟩
  · exact congrArg Host.Outcome.next (takeOrder_of_length (s := s.at n) length)
  · have short : lengthOk 1#8 payload = false := (lengthOk_order payload).trans (beq_eq_false_iff_ne.mpr length)
    show Host.Outcome.next (takeUnknown (s.at n) 1#8 seq payload) = _
    rw [takeUnknown, short, if_neg Bool.false_ne_true, if_pos rfl]
    rfl
  · show Host.Outcome.next (takeUnknown (s.at n) type seq payload) = _
    rw [takeUnknown, unknown, if_neg Bool.false_ne_true, if_neg other, request_of_room (s := s.at n) room]
    rfl

/-! ## Queries and sticky flags (R166, R169, R179) -/

/-- The state but for the time, the output queue, the frame being sent and the drops. -/
def AnswersOnly (s t : State) : Prop := ∃ queue sending drops, t = { s with
  now := t.now, olp := { s.olp with queue := queue, sending := sending, busyDrop := drops } }

theorem kickTransmitter_answersOnly (s : State) : AnswersOnly s (kickTransmitter s) := by
  unfold kickTransmitter
  split <;> exact ⟨_, _, _, rfl⟩

theorem query_answersOnly (s : State) (seq : Byte) (answer : State → Answer) :
    AnswersOnly s (query s seq answer) := by
  refine request_ind (P := AnswersOnly s) ⟨_, _, _, rfl⟩ fun f => ?_
  obtain ⟨queue, sending, drops, same⟩ :=
    kickTransmitter_answersOnly (s.setOlp { s.olp with queue := s.olp.queue ++ [f] })
  exact ⟨queue, sending, drops, same⟩

/-- Settles O4: the act of a query leaves the state (`query_answersOnly`). -/
theorem queriesChangeNothing : Obligations.QueriesChangeNothing := by
  intro c s t kind run
  cases c
  case tableRow n _ _ _ _ | valveRecord n _ _ | levelSet n _ _ | stationRecord n _ _ | schedule n _ _
      | captureHistory n _ | counters n _ | ringStats n _ =>
    cases run
    exact query_answersOnly (s.at n) _ _
  all_goals cases kind

/-- Settles O7: the frame of every other command keeps set flags set. -/
theorem onlyClearFlagsClearsAFlag : Obligations.OnlyClearFlagsClearsAFlag := by
  intro c s t f run up other set
  cases time : c.time? with
  | none =>
    cases c with
    | powerUp => exact absurd rfl up
    | _ => cases time
  | some n =>
    obtain ⟨u, run', only⟩ := exec_touches c s n time
    cases run.symm.trans run'
    refine only.clear ?_ f.bit set
    cases c with
    | powerUp => cases time
    | clearFlags m seq mask => exact absurd rfl (other m seq mask)
    | _ => simp [touches]

/-! ## Frames read back (R159, R160) -/

/-- A frame whose payload fits is received whole, with its CRC. -/
theorem receiveFrame_frameBytes (t : Time) (type seq : Byte) {p : List Byte}
    (fits : p.length ≤ Config.maxPayload) :
    receiveFrame t (frameBytes type seq p) = ofFrame t type seq p := by
  let n := BitVec.ofNat 8 p.length
  let crc := crcBytes (type :: seq :: n :: p)
  have length : n.toNat = p.length :=
    Nat.mod_eq_of_lt (Nat.lt_of_le_of_lt fits (by decide))
  have whole : ¬ (p ++ crc).length < p.length + 2 := by
    rw [List.length_append, crcBytes_length]
    exact lt_irrefl _
  have payload : (p ++ crc).take p.length = p := List.take_left' rfl
  have check : ((p ++ crc).drop p.length).take 2 = crc := by
    rw [List.drop_left' rfl]
    exact List.take_of_length_le (by rw [crcBytes_length])
  show receiveFrame t (type :: seq :: n :: (p ++ crc)) = _
  simp only [receiveFrame, length, if_neg (Nat.not_lt.mpr fits), if_neg whole, payload, check]
  exact if_pos rfl

end Sys2Proof.Machine

namespace Sys2Proof.Laws

/-- Every command's frame fits and spells it. -/
theorem framed (i : Instr) : Framed.Statement i :=
  match i with
  | .powerUp => Framed.powerUp
  | .comparatorEdge t line rising => Framed.comparatorEdge t line rising
  | .captureWatch t => Framed.captureWatch t
  | .cycleMarker t => Framed.cycleMarker t
  | .planningInstant t v => Framed.planningInstant t v
  | .ringCycleStart t => Framed.ringCycleStart t
  | .ringFrameReturn t input bytes => Framed.ringFrameReturn t input bytes
  | .latenessInstant t v => Framed.latenessInstant t v
  | .confirmInstant t v => Framed.confirmInstant t v
  | .holdInstant t v => Framed.holdInstant t v
  | .releaseTimeout t v => Framed.releaseTimeout t v
  | .deadlineInstant t v => Framed.deadlineInstant t v
  | .bypassHoldTimer t g => Framed.bypassHoldTimer t g
  | .linkFrameDropped t cause => Framed.linkFrameDropped t cause
  | .unknownFrame t type seq payload => Framed.unknownFrame t type seq payload
  | .order t seq payload => Framed.order t seq payload
  | .orderWatchdog t => Framed.orderWatchdog t
  | .holdTimer t => Framed.holdTimer t
  | .transmitEnd t => Framed.transmitEnd t
  | .tableWrite t seq table row contents => Framed.tableWrite t seq table row contents
  | .tableCommit t seq table => Framed.tableCommit t seq table
  | .tableDiscard t seq table => Framed.tableDiscard t seq table
  | .tableRow t seq table row selector => Framed.tableRow t seq table row selector
  | .valveRecord t seq valve => Framed.valveRecord t seq valve
  | .levelSet t seq valve => Framed.levelSet t seq valve
  | .stationRecord t seq position => Framed.stationRecord t seq position
  | .schedule t seq offset => Framed.schedule t seq offset
  | .captureHistory t seq => Framed.captureHistory t seq
  | .counters t seq => Framed.counters t seq
  | .ringStats t seq => Framed.ringStats t seq
  | .clearFlags t seq mask => Framed.clearFlags t seq mask
  | .clearCounters t seq => Framed.clearCounters t seq
  | .clearRingStats t seq => Framed.clearRingStats t seq
  | .clearLevelFaults t seq valve => Framed.clearLevelFaults t seq valve
  | .testFire t seq valve => Framed.testFire t seq valve
  | .resetTrip t seq group => Framed.resetTrip t seq group
  | .ringRestart t seq => Framed.ringRestart t seq
  | .warmRestart t seq => Framed.warmRestart t seq

end Sys2Proof.Laws

namespace Sys2Proof.Machine

/-- Settles O59: the frame is received whole, and its type and payload spell the command. -/
theorem linkFramesReadBack : Obligations.LinkFramesReadBack := by
  intro i t type seq payload wf frame time
  obtain ⟨fits, spells⟩ := Laws.framed i t type seq payload wf frame time
  exact (receiveFrame_frameBytes t type seq fits).trans spells

end Sys2Proof.Machine
end

section
/-! PROOFS. The orders (O35, O36, O38): the sequence of ORDER frames, what an adopted ORDER writes, and the
expiry of the order watchdog and of the hold timer. -/

namespace Sys2Proof.Machine

/-! ## Sequence numbers (R161) -/

theorem takeOrder_of_duplicate {s : State} {seq : Byte} {payload : List Byte}
    (length : payload.length = 8) (last : s.olp.lastSeq = some seq) :
    takeOrder s seq payload = s.countDuplicate := by
  rw [takeOrder, if_neg (not_not.mpr length), if_pos last]

/-- The gap counter of an ORDER that is adopted: the first one, and one that follows the last number,
counts no gap (R161). -/
theorem noteGap_eq (s : State) (seq : Byte) : noteGap s seq = { s with
    olp := { s.olp with gap := match s.olp.lastSeq with
      | none => s.olp.gap
      | some last => if seq = last + 1#8 then s.olp.gap else satInc s.olp.gap } } := by
  let counted (x : Count16) : State := { s with olp := { s.olp with gap := x } }
  suffices h : noteGap s seq = counted (match s.olp.lastSeq with
      | none => s.olp.gap
      | some last => if seq = last + 1#8 then s.olp.gap else satInc s.olp.gap) from h
  unfold noteGap
  cases s.olp.lastSeq with
  | none => rfl
  | some last => by_cases follows : seq = last + 1#8 <;> simp only [follows, if_true, if_false] <;> rfl

/-- A REPLY to a request at an idle transmitter is sent at once, with the request's number (R165, R168). -/
theorem request_of_idle {s : State} {type seq : Byte} {act : State → State × Answer}
    (output : (act s).1.olp.output = s.olp.output) (idle : s.olp.sending = none)
    (empty : s.olp.queue = []) : ∃ r : Reply, r.type = type ∧ r.seq = seq ∧
      (request s type seq act).olp.sending.map Sending.bytes = some (frameBytes 3#8 seq r.payload) := by
  obtain ⟨queue, sending⟩ := Prod.mk.inj output
  rw [request_of_room (by rw [empty]; decide),
    enqueue_of_idle (sending.trans idle) (queue.trans empty)]
  exact ⟨_, rfl, rfl, rfl⟩

/-! ## What an adopted ORDER writes (R162, R164) -/

/-- A frame that clears no sticky flag. -/
theorem Only.hasFlag {bs : List Block} {s t : State} (only : Only bs s t) (clear : Block.clear ∉ bs)
    {f : StickyFlag} (set : s.hasFlag f = true) : t.hasFlag f = true := only.clear clear f.bit set

/-- A quantity is above its range. -/
def AboveRange (o : OrderValues) : Prop := 18000 < o.alpha ∨ 2047 < o.current ∨ 1500 < o.voltage

theorem clampOrder_eq_self_iff (o : OrderValues) : clampOrder o = o ↔ ¬ AboveRange o := by
  obtain ⟨alpha, current, voltage, flags⟩ := o
  simp only [clampOrder, OrderValues.mk.injEq, and_true, AboveRange, not_or, Nat.not_lt, min_eq_left_iff]

theorem detectAc_ac (s : State) (u : Nat) :
    (detectAc s u).olp.ac = acAfter s.tbs.limits s.olp.ac u := by
  unfold detectAc
  dsimp only
  split
  · next same => exact same.symm
  · rfl

/-- A change of the AC state is flagged (R164). -/
theorem detectAc_flag {s : State} {u : Nat} (change : (detectAc s u).olp.ac ≠ s.olp.ac) :
    (detectAc s u).hasFlag .acLowChange = true := by
  rw [detectAc_ac] at change
  unfold detectAc
  dsimp only
  rw [if_neg change, State.setFlag_hasFlag, decide_eq_true rfl, Bool.or_true]

theorem noteClamp_ac (s : State) (o : OrderValues) : (noteClamp s o).olp.ac = s.olp.ac := by
  unfold noteClamp
  split <;> rfl

/-- The orders once an ORDER is adopted, up to the evaluation of its flags by the groups (R162, R164). -/
theorem orderTaken_orders (s : State) (seq : Byte) (o : OrderValues) :
    (orderTaken s seq o).olp.orders = (clampOrder o, some seq, .ok,
      some (s.after (s.tbs.limits.orderWatchdog * Config.tbPerUs)), none,
      acAfter s.tbs.limits s.olp.ac (clampOrder o).voltage) := by
  have noted := noteClamp_only s o
  have now := noted.now (by decide)
  have tbs := noted.tbs (by decide)
  have ac : (orderTaken s seq o).olp.ac = acAfter s.tbs.limits s.olp.ac (clampOrder o).voltage := by
    rw [orderTaken, detectAc_ac]
    show acAfter (noteClamp s o).tbs.limits (noteClamp s o).olp.ac _ = _
    rw [tbs, noteClamp_ac]
  have rest (u : Nat) (t : State) : (detectAc t u).olp.orders = (t.olp.order, t.olp.lastSeq,
      t.olp.orderState, t.olp.watchdog, t.olp.holdTimer, (detectAc t u).olp.ac) := by
    unfold detectAc
    dsimp only
    split <;> rfl
  rw [← ac, orderTaken, rest]
  simp only [takeOrderValues, State.setOlp_olp, State.after, now, tbs]

/-- The groups and the STATUS leave the orders and the counters. -/
theorem adoptOrder_told_only (s : State) (seq : Byte) (o : OrderValues) :
    Only (.queue :: groupBlocks) (orderTaken s seq o) (adoptOrder s seq o) :=
  Only.trans ((bothGroups_only _ _).mono (by simp)) (.of (queueStatus_only _) rfl)

/-- What an ORDER writes when it is adopted (R162, R164). -/
theorem adoptOrder_writes {s t : State} {seq : Byte} {o : OrderValues} (adopted : adoptOrder s seq o = t) :
    t.olp.order = clampOrder o ∧ t.olp.lastSeq = some seq ∧ t.olp.orderState = .ok ∧
      t.olp.watchdog = some (addTb s.now (s.tbs.limits.orderWatchdog * 40 : Nat)) ∧
      t.olp.holdTimer = none ∧
      t.olp.ac = acAfter s.tbs.limits s.olp.ac (clampOrder o).voltage := by
  have orders := ((adoptOrder_told_only s seq o).order (by decide)).trans (orderTaken_orders s seq o)
  rw [adopted] at orders
  simp only [Olp.orders, Prod.mk.injEq] at orders
  obtain ⟨order, lastSeq, state, watchdog, hold, ac⟩ := orders
  exact ⟨order, lastSeq, state, watchdog, hold, ac⟩

theorem orderTaken_counts (s : State) (seq : Byte) (o : OrderValues) :
    (orderTaken s seq o).olp.counts = (noteClamp s o).olp.counts :=
  ((detectAc_only _ _).count (by decide)).trans ((takeOrderValues_only _ _ _).count (by decide))

theorem adoptOrder_counts (s : State) (seq : Byte) (o : OrderValues) :
    (adoptOrder s seq o).olp.counts = (noteClamp s o).olp.counts :=
  ((adoptOrder_told_only s seq o).count (by decide)).trans (orderTaken_counts s seq o)

theorem noteClamp_counts (s : State) (o : OrderValues) : (noteClamp s o).olp.counts =
    (s.olp.linkCrc, s.olp.orderFormat, s.olp.duplicate, s.olp.gap,
      if clampOrder o = o then s.olp.clamp else satInc s.olp.clamp, s.olp.busyDrop) := by
  by_cases within : clampOrder o = o
  · rw [noteClamp, if_pos within, if_pos within]
    rfl
  · rw [noteClamp, if_neg within, if_neg within]
    rfl

/-- A clamped quantity is flagged (R162). -/
theorem adoptOrder_clampFlag {s : State} (seq : Byte) {o : OrderValues} (above : clampOrder o ≠ o) :
    (adoptOrder s seq o).hasFlag .clamp = true := by
  have flagged : (noteClamp s o).hasFlag .clamp = true := by
    rw [noteClamp, if_neg above]
    show (s.setFlag .clamp).hasFlag .clamp = true
    rw [State.setFlag_hasFlag, decide_eq_true rfl, Bool.or_true]
  have taken : Only [.sticky, .order] (noteClamp s o) (orderTaken s seq o) :=
    Only.trans (.of (takeOrderValues_only _ _ _) rfl) (.of (detectAc_only _ _) rfl)
  exact (adoptOrder_told_only s seq o).hasFlag (by decide) (taken.hasFlag (by decide) flagged)

theorem adoptOrder_flag {s : State} {seq : Byte} {o : OrderValues}
    (change : (adoptOrder s seq o).olp.ac ≠ s.olp.ac) :
    (adoptOrder s seq o).hasFlag .acLowChange = true := by
  have ac : (adoptOrder s seq o).olp.ac = (orderTaken s seq o).olp.ac :=
    ((adoptOrder_told_only s seq o).orders_stand (by decide)).1.2.2
  have before : (takeOrderValues (noteClamp s o) seq (clampOrder o)).olp.ac = s.olp.ac := noteClamp_ac s o
  refine (adoptOrder_told_only s seq o).hasFlag (by decide) (detectAc_flag ?_)
  rw [before]
  exact ac ▸ change

/-! ## The STATUS (R165 to R167) -/

theorem queueStatus_of_idle {s : State} (idle : s.olp.sending = none) (empty : s.olp.queue = []) :
    queueStatus s = s.setOlp { s.olp with
      queue := []
      sending := some ⟨builtFrame s .status, s.after (lineTime (builtFrame s .status))⟩ } := by
  have none : (s.olp.queue.any fun f => decide (f = .status)) = false := by rw [empty]; rfl
  rw [queueStatus, none, if_neg Bool.false_ne_true, enqueue_of_idle idle empty]

theorem queueStatus_of_sending {s : State} (busy : s.olp.sending ≠ none) :
    .status ∈ (queueStatus s).olp.queue ∧ (queueStatus s).olp.sending = s.olp.sending := by
  unfold queueStatus
  split
  · next waits =>
    obtain ⟨f, mem, status⟩ := List.any_eq_true.mp waits
    exact ⟨of_decide_eq_true status ▸ mem, rfl⟩
  · rw [enqueue_of_sending busy]
    exact ⟨List.mem_append_right _ List.mem_cons_self, rfl⟩

/-- An idle transmitter builds the STATUS at once, with the last accepted number (R165, R167). -/
theorem queueStatus_sends {s : State} {seq : Byte} (last : s.olp.lastSeq = some seq)
    (idle : s.olp.sending = none) (empty : s.olp.queue = []) : (queueStatus s).olp.queue = [] ∧
      let bytes := frameBytes 2#8 seq (statusPayload (queueStatus s))
      (queueStatus s).olp.sending = some ⟨bytes, addTb s.now (8 * (bytes.length + 1) : Nat)⟩ := by
  have built : builtFrame s .status = frameBytes 2#8 seq (statusPayload s) := by
    rw [builtFrame, last]
    rfl
  rw [queueStatus_of_idle idle empty, built]
  exact ⟨rfl, rfl⟩

/-- The state in which the STATUS of an adopted ORDER is queued. -/
theorem toldOfOrder (s : State) (seq : Byte) (o : OrderValues) : ∃ told : State,
    adoptOrder s seq o = queueStatus told ∧ told.now = s.now ∧ told.olp.lastSeq = some seq ∧
      told.olp.output = s.olp.output := by
  have groups := bothGroups_only (orderTaken s seq o) .orderAdopted
  have taken := orderTaken_only s seq o
  have orders := (groups.order (by decide)).trans (orderTaken_orders s seq o)
  exact ⟨_, adoptOrder_eq s seq o, (groups.now (by decide)).trans (taken.now (by decide)),
    congrArg (fun x => x.2.1) orders, (groups.queue (by decide)).trans (taken.queue (by decide))⟩

/-- Settles O35: an ORDER by its own number; a management frame is a request (`exec_of_frame`), whose act
leaves orders and output. -/
theorem orderSequenceHandling : Obligations.OrderSequenceHandling := by
  refine ⟨fun s n seq payload length => ⟨fun last => ?duplicate, fun new => ?adopted⟩,
    fun s t c type seq payload frame wf other run => ?managed⟩
  case duplicate => exact congrArg Host.Outcome.next (takeOrder_of_duplicate (s := s.at n) length last)
  case adopted =>
    obtain ⟨-, lastSeq, state, -⟩ :=
      adoptOrder_writes (s := noteGap (s.at n) seq) (seq := seq) (o := orderOfPayload payload) rfl
    refine ⟨_, exec_order_of_new n length new, ?_, lastSeq, state⟩
    rw [noteGap_eq]
    rfl
  case managed =>
    obtain ⟨n, time⟩ : ∃ n, c.time? = some n := by
      cases c with
      | powerUp => cases frame
      | _ => exact ⟨_, rfl⟩
    obtain ⟨act, requested, acts⟩ := exec_of_frame s frame time wf other
    cases run.symm.trans requested
    refine ⟨?_, request_of_idle (acts.queue (by decide))⟩
    exact ((request_only (s.at n) type seq act acts).orders_stand (by decide)).1.2.1

/-- The four counters that an adopted ORDER leaves, and CLAMP (R162). -/
theorem adoptOrder_counted {s t : State} {seq : Byte} {o : OrderValues} (adopted : adoptOrder s seq o = t) :
    t.olp.linkCrc = s.olp.linkCrc ∧ t.olp.orderFormat = s.olp.orderFormat ∧
      t.olp.duplicate = s.olp.duplicate ∧ t.olp.busyDrop = s.olp.busyDrop ∧
      t.olp.clamp = if clampOrder o = o then s.olp.clamp else satInc s.olp.clamp := by
  have counts := (adoptOrder_counts s seq o).trans (noteClamp_counts s o)
  rw [adopted] at counts
  simp only [Olp.counts, Prod.mk.injEq] at counts
  obtain ⟨crc, format, duplicate, -, clamp, drop⟩ := counts
  exact ⟨crc, format, duplicate, drop, clamp⟩

/-- The gap counter alone changes before an ORDER is adopted (R161). -/
theorem noteGap_counted {s t : State} {seq : Byte} (noted : noteGap s seq = t) :
    t.olp.linkCrc = s.olp.linkCrc ∧ t.olp.orderFormat = s.olp.orderFormat ∧
      t.olp.duplicate = s.olp.duplicate ∧ t.olp.busyDrop = s.olp.busyDrop ∧
      t.olp.clamp = s.olp.clamp := by
  rw [← noted, noteGap_eq]
  exact ⟨rfl, rfl, rfl, rfl, rfl⟩

/-- Settles O36: the orders and the counters stand after the values are taken, the groups touch neither
them nor the output, and the STATUS is queued last. -/
theorem acceptedOrderIsAdopted : Obligations.AcceptedOrderIsAdopted := by
  intro s n seq payload length new o u clamped lt
  have run := exec_order_of_new n length new
  have gap := noteGap_only (s.at n) seq
  generalize noted : noteGap (s.at n) seq = v at run gap
  generalize adopted : adoptOrder v seq (orderOfPayload payload) = t at run
  have now : v.now = n := gap.now (by decide)
  have tbs : v.tbs = s.tbs := gap.tbs (by decide)
  have ac : v.olp.ac = s.olp.ac := (gap.orders_stand (by decide)).1.2.2
  obtain ⟨order, lastSeq, orderState, watchdog, holdTimer, acState⟩ := adoptOrder_writes adopted
  obtain ⟨crc, format, duplicate, drop, clamp⟩ := adoptOrder_counted adopted
  obtain ⟨crcNoted, formatNoted, duplicateNoted, dropNoted, clampNoted⟩ := noteGap_counted noted
  obtain ⟨told, queued, toldNow, toldLast, toldOutput⟩ := toldOfOrder v seq (orderOfPayload payload)
  obtain ⟨queue, sending⟩ := Prod.mk.inj (toldOutput.trans (gap.queue (by decide)))
  rw [now, tbs] at watchdog
  rw [tbs, ac] at acState
  have frame : Only (.queue :: .count :: .order :: groupBlocks) (s.at n) t := by
    rw [← adopted]
    exact Only.trans (.of gap rfl) (Only.trans (.of (orderTaken_only v seq _) rfl)
      (.of (adoptOrder_told_only v seq _) rfl))
  refine ⟨t, run, order, lastSeq, orderState, holdTimer, watchdog,
    fun above => ⟨?_, ?_⟩, fun within => ?_, fun before => ?_, fun before => ?_, fun change => ?_,
    fun idle empty => ?_, fun busy => ?_, crc.trans crcNoted, format.trans formatNoted,
    duplicate.trans duplicateNoted, drop.trans dropNoted, frame.pru (by decide), frame.rgm (by decide),
    frame.exm (by decide), frame.lvm (by decide), frame.tbs (by decide), frame.pending (by decide)⟩
  · rw [clamp, if_neg fun same => (clampOrder_eq_self_iff _).mp same above, clampNoted]
    rfl
  · rw [← adopted]
    exact adoptOrder_clampFlag seq fun same => (clampOrder_eq_self_iff _).mp same above
  · rw [clamp, if_pos ((clampOrder_eq_self_iff _).mpr within), clampNoted]
    rfl
  · rw [acState, before]
    rfl
  · rw [acState, before]
    rfl
  · rw [← adopted]
    exact adoptOrder_flag (by rw [adopted, ac]; exact change)
  · have sent := queueStatus_sends toldLast (sending.trans idle) (queue.trans empty)
    rw [← queued, adopted, toldNow, now] at sent
    exact sent
  · have waits := queueStatus_of_sending (s := told) (by rw [sending]; exact busy)
    rw [← queued, adopted, sending] at waits
    exact waits

/-! ## The order watchdog and the hold timer (R151, R152, R163) -/

/-- ORDER_LOST trips a group that fires (Table 9-5). -/
theorem groupEvent_orderLost {s : State} {g : Group}
    (fires : s.groups[g].state = .deblocking ∨ s.groups[g].state = .running) :
    TrippedBy (groupEvent s g (.orderState true)) g .orderLost := by
  refine groupEvent_trippedBy (tripEvent_of_trips ?_)
  rcases fires with deblocking | running
  · rw [deblocking]; rfl
  · rw [running]; rfl

theorem bothGroups_orderLost {s : State} {g : Group}
    (fires : s.groups[g].state = .deblocking ∨ s.groups[g].state = .running) :
    TrippedBy (bothGroups s (.orderState true)) g .orderLost := by
  unfold bothGroups
  by_cases first : g = 0
  · subst first
    exact (groupEvent_orderLost fires).groupEvent _ (by decide)
  · have second : g = 1 := Fin.eq_one_of_ne_zero g first
    subst second
    refine groupEvent_orderLost ?_
    rwa [groupEvent_others s _ (by decide)]

theorem holdExpired_trippedBy {s : State} {g : Group}
    (fires : s.groups[g].state = .deblocking ∨ s.groups[g].state = .running) :
    TrippedBy (holdExpired s) g .orderLost :=
  bothGroups_orderLost (s := s.setOlp { s.olp with orderState := .lost, holdTimer := none }) fires

/-- With the same sticky flags the Order Link Port stands outside the orders, the output and the counters. -/
theorem Only.olp_with_sticky {bs : List Block} {s t : State} (only : Only bs s t)
    (order : Block.order ∉ bs) (queue : Block.queue ∉ bs) (count : Block.count ∉ bs) (x : BoolSet 16) :
    { t.olp with sticky := x } = { s.olp with sticky := x } := by
  rw [only.olp_but_sticky order queue count]

/-- The hold timer's expiry leaves of the Order Link Port all but the order state and the sticky flags. -/
theorem holdExpired_olp (s : State) : { (holdExpired s).olp with sticky := s.olp.sticky } =
    { s.olp with orderState := .lost, holdTimer := none } :=
  (bothGroups_only _ _).olp_with_sticky (by decide) (by decide) (by decide) _

/-- A group that fires acts on BLOCK and BYPASS alone (Table 9-3). -/
theorem applyFlags_of_serving {s : State} {g : Group}
    (fires : s.groups[g].state = .deblocking ∨ s.groups[g].state = .running)
    (block : commandOf s.olp.order.flags[g] ≠ .block)
    (bypass : commandOf s.olp.order.flags[g] ≠ .bypass) : applyFlags s g = (s, []) := by
  unfold applyFlags
  dsimp only
  cases command : commandOf s.olp.order.flags[g] with
  | block => exact absurd command block
  | bypass => exact absurd command bypass
  | deblock | none => rcases fires with state | state <;> rw [state]

/-- A group that fires keeps its state when ORDER_HOLD is told, unless the command in force stops it (R143). -/
theorem groupEvent_orderHold {s : State} {g : Group}
    (fires : s.groups[g].state = .deblocking ∨ s.groups[g].state = .running)
    (block : commandOf s.olp.order.flags[g] ≠ .block)
    (bypass : commandOf s.olp.order.flags[g] ≠ .bypass) :
    (groupEvent s g (.orderState false)).groups[g].state = s.groups[g].state := by
  have state := evalInhibits_state s g
  have handled : handleEvent s g (.orderState false) = (evalInhibits s g, []) :=
    applyFlags_of_serving (s := evalInhibits s g) (by rwa [state]) block bypass
  rw [groupEvent_of_no_notice (by rw [handled]), handled]
  exact state

theorem bothGroups_orderHold {s : State} {g : Group}
    (fires : s.groups[g].state = .deblocking ∨ s.groups[g].state = .running)
    (block : commandOf s.olp.order.flags[g] ≠ .block)
    (bypass : commandOf s.olp.order.flags[g] ≠ .bypass) :
    (bothGroups s (.orderState false)).groups[g].state = s.groups[g].state := by
  unfold bothGroups
  by_cases first : g = 0
  · subst first
    rw [groupEvent_others _ _ (by decide)]
    exact groupEvent_orderHold fires block bypass
  · have second : g = 1 := Fin.eq_one_of_ne_zero g first
    subst second
    have same := groupEvent_others s (g := 0) (h := 1) (.orderState false) (by decide)
    have order := ((groupEvent_only s 0 (.orderState false)).orders_stand (by decide)).1.1
    rw [groupEvent_orderHold (by rwa [same]) (by rwa [order]) (by rwa [order]), same]

/-- The state in which the groups are told of ORDER_HOLD. -/
def orderHeld (s : State) (hold : Time) : State :=
  (s.setOlp { s.olp with orderState := .hold, watchdog := none, holdTimer := some hold }).setFlag .orderHold

/-- The watchdog's expiry: the groups are told, and a hold window that ends at once is taken (R163). -/
theorem watchdogExpired_eq (s : State) {hold : Time}
    (window : hold = addTb s.now (s.tbs.limits.holdWindow * 40000 : Nat)) :
    watchdogExpired s = if passed s.now hold then
      holdExpired (bothGroups (orderHeld s hold) (.orderState false))
      else bothGroups (orderHeld s hold) (.orderState false) := by
  subst window
  let hold := addTb s.now (s.tbs.limits.holdWindow * 40000 : Nat)
  have only := bothGroups_only (orderHeld s hold) (.orderState false)
  obtain ⟨-, -, -, timer⟩ := only.orders_stand (by decide)
  have now := only.now (by decide)
  have reached : (bothGroups (orderHeld s hold) (.orderState false)).reached
      (bothGroups (orderHeld s hold) (.orderState false)).olp.holdTimer = passed s.now hold := by
    rw [timer]
    exact congrArg (fun n => passed n hold) now
  show (if State.reached _ _ = true then _ else _) = _
  rw [← reached]
  rfl

/-- What the watchdog's expiry writes before the hold timer is looked at (R163). -/
theorem toldOfHold (s : State) (hold : Time) {t : State}
    (told : bothGroups (orderHeld s hold) (.orderState false) = t) : t.olp.orderState = .hold ∧
      t.olp.watchdog = none ∧ t.olp.holdTimer = some hold ∧ t.hasFlag .orderHold = true := by
  subst told
  have only := bothGroups_only (orderHeld s hold) (.orderState false)
  obtain ⟨-, state, watchdog, timer⟩ := only.orders_stand (by decide)
  refine ⟨state, watchdog, timer, only.hasFlag (by decide) ?_⟩
  rw [orderHeld, State.setFlag_hasFlag, decide_eq_true rfl, Bool.or_true]

/-- What the hold timer's expiry writes (R163). -/
theorem holdExpired_writes (s : State) : (holdExpired s).olp.orderState = .lost ∧
    (holdExpired s).olp.watchdog = s.olp.watchdog ∧ (holdExpired s).olp.holdTimer = none :=
  ((bothGroups_only _ _).orders_stand (by decide)).2

/-- Settles O38: at each expiry the groups are told after the order state is written; a group that stays in
DEBLOCKING or RUNNING when ORDER_HOLD is told is tripped by ORDER_LOST. -/
theorem orderTimersExpire : Obligations.OrderTimersExpire := by
  intro s n i reached
  refine ⟨fun state armed => ?watchdog, fun state armed => ?hold⟩
  case watchdog =>
    have due : watchdogOf (s.at n) = some i := (if_pos state).trans armed
    have only := watchdogExpired_only (s.at n)
    have stands := watchdogExpired_orderStands (s.at n)
    intro hold
    have same := watchdogExpired_eq (s.at n) (hold := hold) rfl
    rw [State.at_now] at same
    have firing (g : Group) := bothGroups_orderHold (s := orderHeld (s.at n) hold) (g := g)
    generalize told : bothGroups (orderHeld (s.at n) hold) (.orderState false) = t at same firing
    obtain ⟨toldState, toldWatchdog, toldTimer, toldFlag⟩ := toldOfHold (s.at n) hold told
    obtain ⟨lostState, lostWatchdog, lostTimer⟩ := holdExpired_writes t
    have written : (watchdogExpired (s.at n)).olp.watchdog = none ∧
        (watchdogExpired (s.at n)).hasFlag .orderHold = true := by
      rw [same]
      split
      · exact ⟨lostWatchdog.trans toldWatchdog, (holdExpired_only t).hasFlag (by decide) toldFlag⟩
      · exact ⟨toldWatchdog, toldFlag⟩
    obtain ⟨queue, sending⟩ := Prod.mk.inj (only.queue (by decide))
    refine ⟨_, congrArg Host.Outcome.next (takeIf_of_reached watchdogExpired due reached),
      ⟨stands.1, only.pru (by decide), only.rgm (by decide), only.exm (by decide), only.lvm (by decide),
        only.tbs (by decide), only.pending (by decide)⟩, written.1, fun stays => ?_, fun closed => ?_,
      written.2, stands.2.1, stands.2.2, queue, sending⟩
    · rw [same, if_neg (Bool.eq_false_iff.mp stays)]
      exact ⟨toldState, toldTimer⟩
    · rw [same, if_pos closed]
      refine ⟨lostState, lostTimer, fun g fires block bypass => holdExpired_trippedBy ?_⟩
      rw [firing g fires block bypass]
      exact fires
  case hold =>
    have due : holdTimerOf (s.at n) = some i := (if_pos state).trans armed
    have only := holdExpired_only (s.at n)
    exact ⟨_, congrArg Host.Outcome.next (takeIf_of_reached holdExpired due reached),
      ⟨(holdExpired_orderStands (s.at n)).1, only.pru (by decide), only.rgm (by decide),
        only.exm (by decide), only.lvm (by decide), only.tbs (by decide), only.pending (by decide)⟩,
      holdExpired_olp (s.at n), fun g fires => holdExpired_trippedBy fires⟩

end Sys2Proof.Machine
end

section
/-! PROOFS. The clearing commands (O46): the level records after a clear of one valve and of all, and the flags,
counters and ring statistics. -/

namespace Sys2Proof.Machine

/-! ## A valve's level record is cleared (R136 to R138) -/

/-- A level record with no failed level and no overflow, HEALTHY. -/
def healedRecord (r : LevelRecord) : LevelRecord := { clearedRecord r with state := .healthy }

theorem clearLevel_lvm (s : State) (v : Valve) (restored : Bool) :
    (clearLevel s v restored).lvm = (s.setLevel v (healedRecord s.lvm.levels[v])).lvm := by
  rw [clearLevel, updateLevel_lvm, levelStateOf_clearedRecord]
  rfl

theorem clearFaultsOf_lvm (s : State) (v : Valve) :
    (clearFaultsOf s v).lvm = (s.setLevel v (healedRecord s.lvm.levels[v])).lvm := by
  rw [← clearLevel_lvm s v true]
  unfold clearFaultsOf
  dsimp only
  split
  · rfl
  · split
    · exact (State.createItem_only _ _ _).lvm (by decide)
    · rfl

theorem clearFaultsOf_levels (s : State) (v w : Valve) : (clearFaultsOf s v).lvm.levels[w] =
    if v = w then healedRecord s.lvm.levels[w] else s.lvm.levels[w] := by
  rw [clearFaultsOf_lvm, State.setLevel_lvm_levels, setAt_get_eq]
  split
  · next same => rw [same]
  · rfl

/-- Clears of several valves heal their records, however often each is named. -/
theorem foldl_clearFaultsOf_levels (vs : List Valve) (s : State) (w : Valve) :
    (vs.foldl clearFaultsOf s).lvm.levels[w] =
      if w ∈ vs then healedRecord s.lvm.levels[w] else s.lvm.levels[w] := by
  induction vs generalizing s with
  | nil => rfl
  | cons v vs ih =>
    rw [List.foldl_cons, ih, clearFaultsOf_levels]
    by_cases own : v = w
    · rw [if_pos own, if_pos (List.mem_cons.mpr (.inl own.symm))]
      split <;> rfl
    · rw [if_neg own]
      simp only [List.mem_cons, Ne.symm own, false_or]

theorem clearAllFaults_levels (s : State) (w : Valve) :
    (clearAllFaults s).lvm.levels[w] = healedRecord s.lvm.levels[w] := by
  rw [clearAllFaults, foldl_clearFaultsOf_levels, if_pos (List.mem_finRange w)]

/-- A change of the level state is flagged (R137). -/
theorem updateLevel_flag {s : State} {v : Valve} {r : LevelRecord} (restored : Bool)
    (change : levelStateOf r ≠ s.lvm.levels[v].state) :
    (updateLevel s v r restored).hasFlag .levelChange = true := by
  let noted := (s.setLevel v { r with state := levelStateOf r }).setFlag .levelChange
  have set : noted.hasFlag .levelChange = true := by
    rw [State.setFlag_hasFlag, decide_eq_true rfl, Bool.or_true]
  have event (u : State) (e : GroupEvent) (told : u.hasFlag .levelChange = true) :
      (groupEvent u (valveGroup v) e).hasFlag .levelChange = true :=
    (groupEvent_only _ _ _).hasFlag (by decide) told
  unfold updateLevel
  dsimp only
  rw [if_neg change]
  split
  · refine event _ _ ?_
    split
    · exact (noted.setFlag_only .levelLimit).hasFlag (by decide) set
    · exact set
  · have limit : (if levelStateOf r = .atLimit ∨ levelStateOf r = .overLimit then
        noted.setFlag .levelLimit else noted).hasFlag .levelChange = true := by
      split
      · exact (noted.setFlag_only .levelLimit).hasFlag (by decide) set
      · exact set
    split
    · exact event _ _ limit
    · exact limit

theorem clearFaultsOf_flag {s : State} {v : Valve} (faulty : s.lvm.levels[v].state ≠ .healthy) :
    (clearFaultsOf s v).hasFlag .levelChange = true := by
  have cleared : (clearLevel s v true).hasFlag .levelChange = true :=
    updateLevel_flag true (by rw [levelStateOf_clearedRecord]; exact faulty.symm)
  unfold clearFaultsOf
  dsimp only
  split
  · exact cleared
  · split
    · exact (State.createItem_only _ _ _).hasFlag (by decide) cleared
    · exact cleared

/-- The clear of a valve with an ENROLLED station has a LEVEL_RESYNC item (R138). -/
theorem clearFaultsOf_itemPending {s : State} {v : Valve} {p : RingPos}
    (position : positionOf s v = some p) (enrolled : s.rgm.stations[p].state = .enrolled) :
    (clearFaultsOf s v).itemPending p .levelResync = true := by
  have only := clearLevel_only s v true
  have place : positionOf (clearLevel s v true) v = some p := by
    rw [positionOf, only.tbs (by decide)]
    exact position
  have serves : valveEnrolled (clearLevel s v true) v = true := by
    rw [valveEnrolled, stationOf, place, only.rgm (by decide)]
    exact decide_eq_true enrolled
  unfold clearFaultsOf
  simp only [place, serves, if_true]
  rw [State.createItem_itemPending, decide_eq_true rfl, decide_eq_true rfl, Bool.and_true, Bool.or_true]

/-! ## The commands (R168, R169, R180) -/

/-- A COMMAND that is not dropped is acted on and answered. -/
theorem command_of_room {s t : State} {a : Answer} {act : State → State × Answer} (seq : Byte)
    (room : replyCount s.olp.queue < 3) (acts : act s = (t, a)) : command s seq act =
      enqueue t (.reply ⟨8#8, seq, a.result, a.subject, a.detail, a.contents⟩) := by
  rw [command, request_of_room room, acts]

theorem clearLevelFaults_of_all (s : State) :
    clearLevelFaults s 0#8 = (clearAllFaults s, ok kindClearLevelFaults) := if_pos rfl

theorem clearLevelFaults_of_valve (s : State) (v : Valve) : clearLevelFaults s (BitVec.ofNat 8 (v.val + 1)) =
    (clearFaultsOf s v, ok kindClearLevelFaults) := by
  have named : BitVec.ofNat 8 (v.val + 1) ≠ 0#8 := by
    revert v
    decide
  rw [clearLevelFaults, if_neg named, valveOfIndex_of_valve]

theorem clearLevelFaults_of_above (s : State) {k : Byte} (above : 24 < k.toNat) :
    clearLevelFaults s k = (s, badIndex kindClearLevelFaults k) := by
  have named : k ≠ 0#8 := fun zero => absurd above (by rw [zero]; decide)
  rw [clearLevelFaults, if_neg named, valveOfIndex_of_outside (.inr above)]

/-- Settles O46: each command's act, on a queue with room; a clear of level faults writes the level records
named (`clearFaultsOf_levels`). -/
theorem clearingCommands : Obligations.ClearingCommands := by
  intro s n seq mask v room
  have answered {u : State} {a : Answer} (act : State → State × Answer) (acts : act (s.at n) = (u, a)) :
      (.next (command (s.at n) seq act) : Outcome) =
        .next (enqueue u (.reply ⟨8#8, seq, a.result, a.subject, a.detail, a.contents⟩)) :=
    congrArg Host.Outcome.next (command_of_room (s := s.at n) seq room acts)
  refine ⟨answered (fun s => (clearFlags s mask, ok kindClearFlags)) rfl,
    answered (fun s => (clearCounters s, ok kindClearCounters)) rfl,
    answered (fun s => (clearRingStats s, ok kindClearRingStats)) rfl, fun k above => ?_, ?_, ?_⟩
  · exact answered (clearLevelFaults · k) (clearLevelFaults_of_above (s.at n) above)
  · have only := clearAllFaults_only (s.at n)
    exact ⟨_, answered (clearLevelFaults · 0#8) (clearLevelFaults_of_all (s.at n)), clearAllFaults_levels (s.at n),
      only.pru (by decide), only.exm (by decide), only.tbs (by decide),
      only.olp_but_sticky (by decide) (by decide) (by decide)⟩
  · have only := clearFaultsOf_only (s.at n) v
    exact ⟨_, answered (clearLevelFaults · _) (clearLevelFaults_of_valve (s.at n) v),
      (clearFaultsOf_levels (s.at n) v v).trans (if_pos rfl),
      fun w other => (clearFaultsOf_levels (s.at n) v w).trans (if_neg other.symm),
      clearFaultsOf_flag (s := s.at n), fun p => clearFaultsOf_itemPending (s := s.at n),
      only.pru (by decide), only.exm (by decide), only.tbs (by decide),
      by rw [clearFaultsOf_lvm]; rfl,
      only.olp_but_sticky (by decide) (by decide) (by decide)⟩

end Sys2Proof.Machine
end

section
/-! PROOFS. What the Group Controller can do with an event, said once: the cases of an event's own effect and of
the flags in force, and the record that each gives the group. The laws of pairs, hold timers and trip causes at
an event. -/

namespace Sys2Proof.Machine

/-! ## The group's record after each transition (R145 to R155) -/

/-- The group is in DEBLOCKING or RUNNING. -/
def Fires (s : State) (g : Group) : Prop :=
  s.groups[g].state = .deblocking ∨ s.groups[g].state = .running

theorem not_fires_of {s : State} {g : Group} {x : GroupState} (state : s.groups[g].state = x)
    (deblocking : x ≠ .deblocking) (running : x ≠ .running) : ¬ Fires s g := by
  rintro (fires | fires)
  · exact deblocking (state.symm.trans fires)
  · exact running (state.symm.trans fires)

/-- A change of the groups' records alone leaves every group as busy as it was. -/
theorem State.setGroup_groupBusy (s : State) (g h : Group) (r : GroupRecord) :
    (s.setGroup g r).groupBusy h = s.groupBusy h := rfl

theorem checkStopped_group {s : State} {g : Group} (stopping : s.groups[g].state = .stopping) :
    (checkStopped s g).groups[g] = { s.groups[g] with
      state := if (checkStopped s g).groupBusy g then .stopping else .blocked } := by
  unfold checkStopped
  cases busy : s.groupBusy g
  · simp only [Bool.false_eq_true, if_false, State.setGroupState, State.setGroup_groupBusy, busy,
      State.setGroup_groups, setAt_get]
  · simp only [if_true, busy, ← stopping]

theorem stopDirect_group (s : State) (g : Group) : (stopDirect s g).1.groups[g] = { s.groups[g] with
    state := if (stopDirect s g).1.groupBusy g then .stopping else .blocked } := by
  let stopping := s.setGroupState g .stopping
  have groups : (cancelDecision stopping g).1.groups[g] = { s.groups[g] with state := .stopping } := by
    rw [(cancelDecision_only stopping g).groups (by decide)]
    exact setAt_get _ g _
  refine (checkStopped_group (s := (cancelDecision stopping g).1) (by rw [groups])).trans ?_
  rw [groups]
  rfl

theorem stopBypass_group (s : State) (g : Group) : (stopBypass s g).groups[g] = { s.groups[g] with
    state := if (stopBypass s g).groupBusy g then .stopping else .blocked
    holdTimer := none, pairs := fill 2 none } := by
  let stopping := ((s.setGroupState g .stopping).setHoldTimer g none).clearPairs g
  have groups : (releaseDecision stopping g).groups[g] =
      { s.groups[g] with state := .stopping, holdTimer := none, pairs := fill 2 none } := by
    show stopping.groups[g] = _
    simp only [stopping, State.clearPairs, State.setHoldTimer, State.setGroupState,
      State.setGroup_groups, setAt_get]
  refine (checkStopped_group (s := releaseDecision stopping g) (by rw [groups])).trans ?_
  rw [groups]
  rfl

theorem resetTripped_group (s : State) (g : Group) : (resetTripped s g).1.groups[g] = { s.groups[g] with
    state := if (resetTripped s g).1.groupBusy g then .stopping else .blocked
    tripCauses := fill 7 false, firstCause := none, pairs := fill 2 none } := by
  let decided := releaseDecision (cancelDecision (tripCleared s g) g).1 g
  have groups : decided.groups[g] = _ :=
    (congrArg (·[g]) ((cancelDecision_only (tripCleared s g) g).groups (by decide))).trans
      (tripCleared_group s g)
  refine (checkStopped_group (s := decided) (by rw [groups])).trans ?_
  rw [groups]
  rfl

theorem enterDeblocking_group (s : State) (g : Group) : (enterDeblocking s g).groups[g] =
    { s.groups[g] with
      state := .deblocking
      fired := BoolSet.empty 12
      holdTimer := if s.groups[g].state = .bypassing then none else s.groups[g].holdTimer
      pairs := if s.groups[g].state = .bypassing then fill 2 none else s.groups[g].pairs } := by
  unfold enterDeblocking
  by_cases bypassing : s.groups[g].state = .bypassing
  · simp only [bypassing, decide_true, if_true, State.setFac_groups, State.clearPairs,
      State.setHoldTimer, State.setGroupState, State.setGroup_groups, setAt_get,
      (releaseDecision_only _ g).groups (by decide)]
  · simp only [bypassing, decide_false, Bool.false_eq_true, if_false, State.setFac_groups,
      State.setGroupState, State.setGroup_groups, setAt_get]

theorem addFired_group (s : State) (g : Group) (v : Valve) : (addFired s g v).groups[g] =
    { s.groups[g] with
      fired := setAt s.groups[g].fired (placeInGroup v) true
      state := if BoolSet.full (setAt s.groups[g].fired (placeInGroup v) true) then .running
        else s.groups[g].state } :=
  setAt_get _ g _

/-- A FIRED outcome keeps a group in DEBLOCKING or takes it to RUNNING (R146). -/
theorem addFired_fires {s : State} {g : Group} (state : s.groups[g].state = .deblocking) (v : Valve) :
    Fires (addFired s g v) g := by
  rw [Fires, addFired_group]
  dsimp only
  split
  · exact .inr rfl
  · exact .inl state

theorem tripCauses_state {s : State} {g : Group} (state : s.groups[g].state = .tripped) (causes : BoolSet 7) :
    (s.setGroup g { s.groups[g] with tripCauses := causes }).groups[g].state = .tripped := by
  rw [State.setGroup_groups, setAt_get]
  exact state

/-! ## The cases of an event (R142) -/

/-- What the flags in force can do at a group (Table 9-3). -/
inductive FlagsTaken (s : State) (g : Group) : State × Notices → Prop where
  | nothing (idle : s.groups[g].state = .blocked → commandOf s.olp.order.flags[g] ≠ .bypass)
      (serving : Fires s g → commandOf s.olp.order.flags[g] ≠ .block ∧
        commandOf s.olp.order.flags[g] ≠ .bypass) : FlagsTaken s g (s, [])
  | bypassing (command : commandOf s.olp.order.flags[g] = .bypass)
      (source : s.groups[g].state = .blocked ∨ Fires s g) : FlagsTaken s g (enterBypassing s g false)
  | timed (command : commandOf s.olp.order.flags[g] = .block) (fires : Fires s g) :
      FlagsTaken s g (enterBypassing s g true)
  | stop (command : commandOf s.olp.order.flags[g] = .block) (fires : Fires s g) :
      FlagsTaken s g (stopDirect s g)
  | deblock (command : commandOf s.olp.order.flags[g] = .deblock)
      (source : s.groups[g].state = .blocked ∨ s.groups[g].state = .bypassing)
      (ready : BoolSet.any s.groups[g].inhibits = false) : FlagsTaken s g (enterDeblocking s g, [])
  | untimed (state : s.groups[g].state = .bypassing)
      (command : commandOf s.olp.order.flags[g] = .bypass) : FlagsTaken s g (s.setHoldTimer g none, [])
  | release (state : s.groups[g].state = .bypassing)
      (command : commandOf s.olp.order.flags[g] = .block) (untimed : s.groups[g].holdTimer = none) :
      FlagsTaken s g (stopBypass s g, [])

theorem applyFlags_taken (s : State) (g : Group) : FlagsTaken s g (applyFlags s g) := by
  unfold applyFlags
  dsimp only
  split
  case h_1 state command => exact .bypassing command (.inl state)
  case h_3 state command => exact .bypassing command (.inr (.inl state))
  case h_4 state command => exact .bypassing command (.inr (.inr state))
  case h_2 state command =>
    split
    · next ready => exact .deblock command (.inl state) (by simpa using ready)
    · exact .nothing (fun _ => by rw [command]; nofun) fun fires => absurd fires (not_fires_of state nofun nofun)
  case h_9 state command =>
    split
    · next ready => exact .deblock command (.inr state) (by simpa using ready)
    · exact .nothing (fun blocked => absurd (state.symm.trans blocked) nofun)
        fun fires => absurd fires (not_fires_of state nofun nofun)
  case h_5 state command =>
    split
    · exact .stop command (.inl state)
    · exact .timed command (.inl state)
  case h_6 state command =>
    split
    · exact .stop command (.inr state)
    · exact .timed command (.inr state)
  case h_7 state command => exact .untimed state command
  case h_8 state command =>
    split
    · next untimed => exact .release state command (Option.isNone_iff_eq_none.mp untimed)
    · exact .nothing (fun blocked => absurd (state.symm.trans blocked) nofun)
        fun fires => absurd fires (not_fires_of state nofun nofun)
  case h_10 other =>
    refine .nothing (fun blocked bypass => ?_) fun fires => ?_
    · simp_all
    · rcases fires with state | state
      all_goals exact ⟨fun block => by simp_all, fun bypass => by simp_all⟩

/-- What an event's own effect on a group can be (R142, R146, R149, R151, R155). -/
inductive OwnEffect (s : State) (g : Group) : GroupEvent → State × Notices → Prop where
  | nothing (e : GroupEvent) (untripped : e = .stationFault ∨ e = .levelLimit → ¬ Fires s g) :
      OwnEffect s g e (s, [])
  | trip (e : GroupEvent) (c : TripCause) (trips : trips c s.groups[g].state = true)
      (reset : e ≠ .resetTrip) : OwnEffect s g e (trip s g c)
  | adds (e : GroupEvent) (c : TripCause) (tripped : s.groups[g].state = .tripped) :
      OwnEffect s g e (s.setGroup g { s.groups[g] with
        tripCauses := setAt s.groups[g].tripCauses c.bit true }, [])
  | fired (e : GroupEvent) (v : Valve) (other : e ≠ .stationFault ∧ e ≠ .levelLimit)
      (state : s.groups[g].state = .deblocking) : OwnEffect s g e (addFired s g v, [])
  | ended (state : s.groups[g].state = .stopping) :
      OwnEffect s g .recordsEnded (s.setGroupState g .blocked, [])
  | expired (state : s.groups[g].state = .bypassing) : OwnEffect s g .holdExpiry (stopBypass s g, [])
  | reset (state : s.groups[g].state = .tripped) : OwnEffect s g .resetTrip (resetTripped s g)

/-- A station that leaves ENROLLED and a valve that becomes OVER_LIMIT trip a group that fires (Table 9-5). -/
theorem trips_of_fires {s : State} {g : Group} {c : TripCause} (fires : Fires s g)
    (cause : c = .stationFault ∨ c = .levelLimit) : trips c s.groups[g].state = true := by
  rcases cause with rfl | rfl <;> rcases fires with state | state <;> rw [state] <;> rfl

theorem tripEvent_effect (s : State) (g : Group) {e : GroupEvent} {c : TripCause}
    (cause : e = .stationFault ∨ e = .levelLimit → c = .stationFault ∨ c = .levelLimit)
    (reset : e ≠ .resetTrip) : OwnEffect s g e (tripEvent s g c) := by
  unfold tripEvent
  dsimp only
  by_cases tripped : trips c s.groups[g].state = true
  · rw [if_pos tripped]
    exact .trip e c tripped reset
  · rw [if_neg tripped]
    split
    · next further => exact .adds e c (of_decide_eq_true (Bool.and_eq_true_iff.mp further).1)
    · exact .nothing e fun own fires => tripped (trips_of_fires fires (cause own))

theorem outcomeEvent_effect (s : State) (g : Group) (v : Valve) (normal : Bool) (o : RecordOutcome) :
    OwnEffect s g (.outcome v normal o) (outcomeEvent s g v normal o) := by
  have none : OwnEffect s g (.outcome v normal o) (s, []) := .nothing _ (by simp)
  unfold outcomeEvent
  split
  · next state => exact .fired _ v ⟨nofun, nofun⟩ state
  · exact tripEvent_effect s g (by simp) nofun
  · split
    · exact tripEvent_effect s g (by simp) nofun
    · exact none
  · exact none

theorem ownEffect_effect (s : State) (g : Group) (e : GroupEvent) : OwnEffect s g e (ownEffect s g e) := by
  have none (e : GroupEvent) (other : e ≠ .stationFault ∧ e ≠ .levelLimit) : OwnEffect s g e (s, []) :=
    .nothing e fun own => by rcases own with own | own <;> simp [own] at other
  cases e with
  | orderState lost | lockChange lost =>
    cases lost
    · exact none _ ⟨nofun, nofun⟩
    · exact tripEvent_effect s g (by simp) nofun
  | stationFault => exact tripEvent_effect s g (fun _ => .inl rfl) nofun
  | levelLimit => exact tripEvent_effect s g (fun _ => .inr rfl) nofun
  | repeatedCf => exact tripEvent_effect s g (by simp) nofun
  | outcome v normal o => exact outcomeEvent_effect s g v normal o
  | recordsEnded =>
    unfold ownEffect
    dsimp only
    split
    · next state => exact .ended state
    · exact none _ ⟨nofun, nofun⟩
  | holdExpiry =>
    unfold ownEffect
    dsimp only
    split
    · next state => exact .expired state
    · exact none _ ⟨nofun, nofun⟩
  | resetTrip =>
    unfold ownEffect
    dsimp only
    split
    · next state => exact .reset state
    · exact none _ ⟨nofun, nofun⟩
  | orderAdopted | ringStatus | stationEnrolled | levelRestored | tableCommit | testFire =>
    exact none _ ⟨nofun, nofun⟩

/-! ## Pairs, hold timers and trip causes (R147, R148, R152, R155) -/

/-- A transition between states other than TRIPPED that leaves the causes alone. -/
theorem GroupHeld.moved {r r' : GroupRecord} (held : GroupHeld r) (live : r.state ≠ .tripped)
    (other : r'.state ≠ .tripped) (first : r'.firstCause = r.firstCause)
    (causes : r'.tripCauses = r.tripCauses) (pairs : r'.state ≠ .bypassing → r'.pairs = fill 2 none)
    (timer : r'.holdTimer.isSome = true → r'.state = .bypassing) : GroupHeld r' := by
  obtain ⟨-, -, firstIff, causesIff⟩ := held
  refine ⟨fun apart _ => pairs apart, timer, ?_, ?_⟩
  · rw [first, firstIff, iff_false_left live]
    exact other
  · rw [causes, causesIff, iff_false_left live]
    exact other

theorem GroupHeld.untimed {r : GroupRecord} (held : GroupHeld r) (apart : r.state ≠ .bypassing) :
    r.holdTimer = none :=
  Option.not_isSome_iff_eq_none.mp fun armed => apart (held.2.1 armed)

theorem BoolSet.any_setAt {n : Nat} (v : BoolSet n) (i : Fin n) : BoolSet.any (setAt v i true) = true := by
  have entry : (setAt v i true)[i] = true := setAt_get v i true
  exact List.any_eq_true.mpr ⟨_, Vector.mem_toList_iff.mpr (Vector.getElem_mem i.isLt), entry⟩

theorem GroupHeld.of_tripped {r : GroupRecord} (state : r.state = .tripped)
    (first : r.firstCause.isSome = true) (causes : BoolSet.any r.tripCauses = true)
    (timer : r.holdTimer = none) : GroupHeld r :=
  ⟨fun _ apart => absurd state apart, by simp [timer], by simp [first, state], by simp [causes, state]⟩

/-- STOPPING or BLOCKED, as the check of R149 decides. -/
theorem stoppedState {busy : Bool} {P : GroupState → Prop} (stopping : P .stopping) (blocked : P .blocked) :
    P (if busy then .stopping else .blocked) := by
  cases busy
  · exact blocked
  · exact stopping

theorem applyFlags_held {s : State} {g : Group} (held : GroupHeld s.groups[g]) :
    GroupHeld (applyFlags s g).1.groups[g] := by
  have pairs := held.1
  have enter (timed : Bool) (live : s.groups[g].state ≠ .tripped) :
      GroupHeld (enterBypassing s g timed).1.groups[g] := by
    rw [enterBypassing_group]
    exact held.moved live nofun rfl rfl (fun apart => absurd rfl apart) fun _ => rfl
  have firing (fires : Fires s g) : s.groups[g].state ≠ .tripped ∧ s.groups[g].state ≠ .bypassing := by
    rcases fires with state | state <;> rw [state] <;> exact ⟨nofun, nofun⟩
  generalize taken : applyFlags s g = x
  cases taken ▸ applyFlags_taken s g with
  | nothing => exact held
  | bypassing command source =>
    refine enter false ?_
    rcases source with state | fires
    · rw [state]; nofun
    · exact (firing fires).1
  | timed command fires => exact enter true (firing fires).1
  | stop command fires =>
    obtain ⟨live, apart⟩ := firing fires
    rw [stopDirect_group]
    refine held.moved live ?_ rfl rfl (fun _ => pairs apart live) ?_
    · exact stoppedState (P := (· ≠ .tripped)) nofun nofun
    · exact fun armed => absurd (held.2.1 armed) apart
  | deblock command source ready =>
    have live : s.groups[g].state ≠ .tripped := by rcases source with state | state <;> rw [state] <;> nofun
    rw [enterDeblocking_group]
    by_cases bypassing : s.groups[g].state = .bypassing
    · simp only [bypassing, if_true]
      exact held.moved live nofun rfl rfl (fun _ => rfl) nofun
    · simp only [bypassing, if_false]
      exact held.moved live nofun rfl rfl (fun _ => pairs bypassing live)
        fun armed => absurd (held.2.1 armed) bypassing
  | untimed state command =>
    rw [State.setHoldTimer, State.setGroup_groups, setAt_get]
    exact ⟨held.1, nofun, held.2.2⟩
  | release state command untimed =>
    rw [stopBypass_group]
    refine held.moved (by rw [state]; nofun) ?_ rfl rfl (fun _ => rfl) nofun
    exact stoppedState (P := (· ≠ .tripped)) nofun nofun

theorem trip_held (s : State) (g : Group) (c : TripCause) : GroupHeld (trip s g c).1.groups[g] := by
  obtain ⟨state, first, causes, -⟩ := trip_trippedBy s g c
  refine .of_tripped state (by rw [first]; rfl) ?_ (trip_holdTimer s g c)
  rw [causes]
  exact BoolSet.any_setAt _ _

theorem ownEffect_held {s : State} {g : Group} (e : GroupEvent) (held : GroupHeld s.groups[g]) :
    GroupHeld (ownEffect s g e).1.groups[g] := by
  have pairs := held.1
  generalize taken : ownEffect s g e = x
  cases taken ▸ ownEffect_effect s g e with
  | nothing => exact held
  | trip _ c => exact trip_held s g c
  | adds _ c tripped =>
    have apart : s.groups[g].state ≠ .bypassing := by rw [tripped]; nofun
    rw [State.setGroup_groups, setAt_get]
    exact .of_tripped tripped (held.2.2.1.mpr tripped) (BoolSet.any_setAt _ _) (held.untimed apart)
  | fired _ v _ state =>
    have apart : s.groups[g].state ≠ .bypassing := by rw [state]; nofun
    have live : s.groups[g].state ≠ .tripped := by rw [state]; nofun
    rw [addFired_group]
    refine held.moved live ?_ rfl rfl (fun _ => pairs apart live) fun armed => absurd (held.2.1 armed) apart
    dsimp only
    split
    · nofun
    · exact live
  | ended state =>
    have apart : s.groups[g].state ≠ .bypassing := by rw [state]; nofun
    have live : s.groups[g].state ≠ .tripped := by rw [state]; nofun
    rw [State.setGroupState, State.setGroup_groups, setAt_get]
    exact held.moved live nofun rfl rfl (fun _ => pairs apart live) fun armed => absurd (held.2.1 armed) apart
  | expired state =>
    rw [stopBypass_group]
    refine held.moved (by rw [state]; nofun) ?_ rfl rfl (fun _ => rfl) nofun
    exact stoppedState (P := (· ≠ .tripped)) nofun nofun
  | reset state =>
    have apart : s.groups[g].state ≠ .bypassing := by rw [state]; nofun
    rw [resetTripped_group]
    refine ⟨fun _ _ => rfl, fun armed => absurd (held.2.1 armed) apart, ?_, ?_⟩
    · exact stoppedState (P := fun x => (none : Option TripCause).isSome = true ↔ x = .tripped)
        ⟨nofun, nofun⟩ ⟨nofun, nofun⟩
    · exact stoppedState (P := fun x => BoolSet.any (fill 7 false) = true ↔ x = .tripped)
        ⟨by decide, nofun⟩ ⟨by decide, nofun⟩

theorem handleEvent_held {s : State} {g : Group} (e : GroupEvent) (held : GroupHeld s.groups[g]) :
    GroupHeld (handleEvent s g e).1.groups[g] := by
  rw [handleEvent_eq]
  refine applyFlags_held ?_
  rw [evalInhibits, State.setGroup_groups, setAt_get]
  exact ownEffect_held e held

theorem runEvents_held {g : Group} (fuel : Nat) (ns : Notices) {s : State}
    (held : GroupHeld s.groups[g]) (own : ∀ e ∈ ns, e.1 = g) :
    GroupHeld (runEvents fuel ns s).groups[g] := by
  induction fuel generalizing ns s with
  | zero => exact held
  | succ fuel ih =>
    cases ns with
    | nil => exact held
    | cons e rest =>
      obtain rfl := own e List.mem_cons_self
      exact ih _ (handleEvent_held e.2 held) (List.forall_mem_append.mpr
        ⟨fun x later => own x (List.mem_cons_of_mem _ later), (handleEvent_actsAt s e.1 e.2).notices⟩)

theorem groupEvent_groupsHeld {s : State} (g : Group) (e : GroupEvent) (held : GroupsHeld s) :
    GroupsHeld (groupEvent s g e) := by
  intro h
  by_cases own : h = g
  · subst own
    exact runEvents_held _ _ (held h) fun x one => by rw [List.mem_singleton.mp one]
  · rw [groupEvent_others s e own]
    exact held h

end Sys2Proof.Machine
end

section
/-! PROOFS. What the Group Controller asks of the Fire Schedule at one group: the records and the waiting bypasses
of the other group stand, no bypass begins to wait at a cancel decision, and which records it leaves. -/

namespace Sys2Proof.Machine

/-! ## Valves of one group -/

theorem valveGroup_of_bridge {v w : Valve} (bridge : valveBridge v = valveBridge w) :
    valveGroup v = valveGroup w := by
  simp only [valveBridge, valveGroup, Fin.mk.injEq] at bridge ⊢
  omega

theorem mem_bridgeValves {b : Bridge} {v : Valve} : v ∈ bridgeValves b ↔ valveBridge v = b := by
  simp [bridgeValves]

theorem predecessor_group (v : Valve) : valveGroup (predecessor v) = valveGroup v := by
  simp only [valveGroup, Fin.ext_iff, predecessor, valveAt, valveBridge, valvePosition]
  omega

/-- The valves whose waiting bypasses are tried again for a valve are of its group (R68). -/
theorem retried_group {v w : Valve} (mem : w ∈ v :: bridgeValves (valveBridge v)) :
    valveGroup w = valveGroup v := by
  rcases List.mem_cons.mp mem with rfl | mem
  · rfl
  · exact valveGroup_of_bridge (mem_bridgeValves.mp mem)

theorem legValves_bridge (b : Bridge) (l : Leg) : ∀ v ∈ legValves b l, valveBridge v = b := by
  revert b
  cases l <;> decide

theorem valveGroup_of_groupBridge {g : Group} {side : Fin 2} {v : Valve}
    (bridge : valveBridge v = groupBridge g side) : valveGroup v = g := by
  simp only [valveBridge, groupBridge, valveGroup, Fin.ext_iff] at bridge ⊢
  omega

theorem pairValves_group (s : State) (g : Group) : ∀ v ∈ pairValves s g, valveGroup v = g := by
  intro v mem
  obtain ⟨side, -, mem⟩ := List.mem_flatMap.mp mem
  split at mem
  · cases mem
  · exact valveGroup_of_groupBridge (legValves_bridge _ _ v mem)

/-! ## The other group stands -/

/-- From `s` to `t` no record of the groups but `g` comes in, and their waiting bypasses stand. -/
structure SparesOthers (g : Group) (s t : State) : Prop where
  records : ∀ r ∈ t.fsc.records, valveGroup r.valve ≠ g → r ∈ s.fsc.records
  waiting : ∀ v, valveGroup v ≠ g → t.fsc.waiting[v] = s.fsc.waiting[v]

theorem SparesOthers.refl (g : Group) (s : State) : SparesOthers g s s := ⟨fun _ mem _ => mem, fun _ _ => rfl⟩

theorem SparesOthers.of_fsc {g : Group} {s t : State} (same : t.fsc = s.fsc) : SparesOthers g s t :=
  ⟨fun r mem _ => by rwa [same] at mem, fun v _ => by rw [same]⟩

theorem SparesOthers.trans {g : Group} {a b c : State} (h : SparesOthers g a b) (k : SparesOthers g b c) :
    SparesOthers g a c :=
  ⟨fun r mem other => h.records r (k.records r mem other) other,
    fun v other => (k.waiting v other).trans (h.waiting v other)⟩

theorem SparesOthers.foldl {g : Group} {α : Type} {f : State → α → State} (xs : List α)
    (each : ∀ x ∈ xs, ∀ s, SparesOthers g s (f s x)) (s : State) : SparesOthers g s (xs.foldl f s) := by
  induction xs generalizing s with
  | nil => exact .refl g s
  | cons x xs ih =>
    exact (each x List.mem_cons_self s).trans
      (ih (fun y later => each y (List.mem_cons_of_mem _ later)) _)

theorem State.setWaiting_sparesOthers (s : State) (v : Valve) (x : Bool) :
    SparesOthers (valveGroup v) s (s.setWaiting v x) := by
  refine ⟨fun _ mem _ => mem, fun w other => ?_⟩
  rw [State.setWaiting_fsc_waiting]
  exact setAt_get_ne _ v w _ fun same => other (same ▸ rfl)

theorem tryBypass_sparesOthers (s : State) (v : Valve) : SparesOthers (valveGroup v) s (tryBypass s v) := by
  have placed : SparesOthers (valveGroup v) s (s.addRecord (newBypass v s.placingDue)) := by
    refine ⟨fun r mem other => ?_, fun _ _ => rfl⟩
    rcases (mem_insertBy _ _ _ _).mp mem with rfl | old
    · exact absurd rfl other
    · exact old
  unfold tryBypass
  split
  · exact placed.trans (State.setWaiting_sparesOthers _ v false)
  · exact s.setWaiting_sparesOthers v true

theorem bypassRequest_sparesOthers (s : State) (v : Valve) :
    SparesOthers (valveGroup v) s (bypassRequest s v) := by
  unfold bypassRequest
  split
  · exact .refl _ s
  · exact tryBypass_sparesOthers s v

theorem retryWaiting_sparesOthers (s : State) (v : Valve) :
    SparesOthers (valveGroup v) s (retryWaiting s v) := by
  refine .foldl _ (fun w mem t => ?_) s
  rw [← retried_group mem]
  unfold retryOne
  split
  · exact tryBypass_sparesOthers t w
  · exact .refl _ t

theorem closeRecord_waiting (s : State) (r : FireRecord) (o : RecordOutcome) :
    (closeRecord s r o).fsc.waiting = s.fsc.waiting := by
  unfold closeRecord noteFired
  split <;> rfl

theorem closeRecord_sparesOthers (s : State) (g : Group) (r : FireRecord) (o : RecordOutcome) :
    SparesOthers g s (closeRecord s r o) :=
  ⟨fun x mem _ => List.mem_of_mem_erase (closeRecord_records s r o ▸ mem),
    fun v _ => by rw [closeRecord_waiting]⟩

theorem foldl_cancelPlanned_sparesOthers {g : Group} (rs : List FireRecord) (x : State × Notices)
    (own : ∀ r ∈ rs, valveGroup r.valve = g) : SparesOthers g x.1 (rs.foldl cancelPlanned x).1 := by
  induction rs generalizing x with
  | nil => exact .refl g _
  | cons r rs ih =>
    have retried := retryWaiting_sparesOthers (closeRecord x.1 r (.cancelled false)) r.valve
    rw [own r List.mem_cons_self] at retried
    exact ((closeRecord_sparesOthers x.1 g r _).trans retried).trans
      (ih (cancelPlanned x r) fun y later => own y (List.mem_cons_of_mem _ later))

theorem markCancelled_other {g : Group} {r : FireRecord} (other : valveGroup r.valve ≠ g) (n : BitVec 32) :
    markCancelled g n r = r := by simp [markCancelled, other]

theorem markReleased_other {g : Group} {r : FireRecord} (other : valveGroup r.valve ≠ g) (n : BitVec 32)
    (t : Time) : markReleased g n t r = r := by simp [markReleased, other]

/-- The records that a cancel decision removes. -/
theorem cancelDecision_eq (s : State) (g : Group) : cancelDecision s g =
    (s.fsc.records.filter (plannedOf g)).foldl cancelPlanned ((takeDecision s).setRecords
      (s.fsc.records.map (markCancelled g (s.fsc.decisionCount + 1#32))), []) := rfl

theorem cancelDecision_sparesOthers (s : State) (g : Group) : SparesOthers g s (cancelDecision s g).1 := by
  rw [cancelDecision_eq]
  refine .trans (b := (takeDecision s).setRecords _) ⟨fun r mem other => ?_, fun _ _ => rfl⟩
    (foldl_cancelPlanned_sparesOthers _ (_, []) fun r mem => ?_)
  · obtain ⟨x, live, rfl⟩ := List.mem_map.mp mem
    rw [(markCancelled_same g _ x).valve] at other
    rwa [markCancelled_other other]
  · exact (plannedOf_eq_true (List.mem_filter.mp mem).2).1

theorem releaseDecision_waiting (s : State) (g : Group) (v : Valve) :
    (releaseDecision s g).fsc.waiting[v] = (s.fsc.waiting[v] && !decide (valveGroup v = g)) :=
  ofFn_get _ v

theorem releaseDecision_sparesOthers (s : State) (g : Group) : SparesOthers g s (releaseDecision s g) := by
  refine ⟨fun r mem other => ?_, fun v other => ?_⟩
  · obtain ⟨x, live, rfl⟩ := List.mem_map.mp mem
    rw [(markReleased_same g _ _ x).valve] at other
    rwa [markReleased_other other]
  · rw [releaseDecision_waiting, decide_eq_false other, Bool.not_false, Bool.and_true]

theorem enterPattern_sparesOthers (s : State) (g : Group) : SparesOthers g s (enterPattern s g).1 := by
  refine .trans (b := (cancelDecision (s.choosePairs g) g).1)
    (.trans (b := s.choosePairs g) (.of_fsc rfl) (cancelDecision_sparesOthers _ g)) ?_
  refine .foldl _ (fun v mem t => ?_) _
  rw [← pairValves_group _ g v mem]
  exact bypassRequest_sparesOthers t v

theorem enterBypassing_sparesOthers (s : State) (g : Group) (timed : Bool) :
    SparesOthers g s (enterBypassing s g timed).1 :=
  .trans (b := (s.setGroupState g .bypassing).setHoldTimer g _) (.of_fsc rfl) (enterPattern_sparesOthers _ g)

theorem checkStopped_fsc (s : State) (g : Group) : (checkStopped s g).fsc = s.fsc := by
  unfold checkStopped
  split <;> rfl

theorem stopDirect_sparesOthers (s : State) (g : Group) : SparesOthers g s (stopDirect s g).1 :=
  .trans (.trans (b := s.setGroupState g .stopping) (.of_fsc rfl) (cancelDecision_sparesOthers _ g))
    (.of_fsc (checkStopped_fsc _ g))

theorem stopBypass_sparesOthers (s : State) (g : Group) : SparesOthers g s (stopBypass s g) :=
  .trans (.trans (b := ((s.setGroupState g .stopping).setHoldTimer g none).clearPairs g) (.of_fsc rfl)
    (releaseDecision_sparesOthers _ g)) (.of_fsc (checkStopped_fsc _ g))

/-- Entry to DEBLOCKING touches the Fire Schedule by a release decision out of BYPASSING alone (R145). -/
theorem enterDeblocking_fsc (s : State) (g : Group) : (enterDeblocking s g).fsc =
    if s.groups[g].state = .bypassing then (releaseDecision s g).fsc else s.fsc := by
  unfold enterDeblocking
  by_cases bypassing : s.groups[g].state = .bypassing
  · simp only [bypassing, decide_true, if_true]
    rfl
  · simp only [bypassing, decide_false, Bool.false_eq_true, if_false]
    rfl

theorem enterDeblocking_sparesOthers (s : State) (g : Group) : SparesOthers g s (enterDeblocking s g) := by
  have fsc := enterDeblocking_fsc s g
  split at fsc
  · exact (releaseDecision_sparesOthers s g).trans (.of_fsc fsc)
  · exact .of_fsc fsc

theorem trip_sparesOthers (s : State) (g : Group) (c : TripCause) : SparesOthers g s (trip s g c).1 := by
  have marked : SparesOthers g s (markTripped s g c) := .of_fsc rfl
  refine marked.trans ?_
  unfold trip
  dsimp only
  split
  · split
    · exact .refl g _
    · exact enterPattern_sparesOthers _ g
  · have cleared : SparesOthers g (markTripped s g c) ((markTripped s g c).clearPairs g) := .of_fsc rfl
    exact (cleared.trans (cancelDecision_sparesOthers _ g)).trans (releaseDecision_sparesOthers _ g)

theorem resetTripped_sparesOthers (s : State) (g : Group) : SparesOthers g s (resetTripped s g).1 :=
  .trans (.trans (.trans (b := tripCleared s g) (.of_fsc rfl) (cancelDecision_sparesOthers _ g))
    (releaseDecision_sparesOthers _ g)) (.of_fsc (checkStopped_fsc _ g))

theorem ownEffect_sparesOthers (s : State) (g : Group) (e : GroupEvent) :
    SparesOthers g s (ownEffect s g e).1 := by
  generalize taken : ownEffect s g e = x
  cases taken ▸ ownEffect_effect s g e with
  | nothing => exact .refl g s
  | trip _ c => exact trip_sparesOthers s g c
  | adds | fired | ended => exact .of_fsc rfl
  | expired => exact stopBypass_sparesOthers s g
  | reset => exact resetTripped_sparesOthers s g

theorem applyFlags_sparesOthers (s : State) (g : Group) : SparesOthers g s (applyFlags s g).1 := by
  generalize taken : applyFlags s g = x
  cases taken ▸ applyFlags_taken s g with
  | nothing => exact .refl g s
  | bypassing => exact enterBypassing_sparesOthers s g false
  | timed => exact enterBypassing_sparesOthers s g true
  | stop => exact stopDirect_sparesOthers s g
  | deblock => exact enterDeblocking_sparesOthers s g
  | untimed => exact .of_fsc rfl
  | release => exact stopBypass_sparesOthers s g

theorem handleEvent_sparesOthers (s : State) (g : Group) (e : GroupEvent) :
    SparesOthers g s (handleEvent s g e).1 := by
  have evaluated : SparesOthers g (ownEffect s g e).1 (evalInhibits (ownEffect s g e).1 g) := .of_fsc rfl
  exact ((ownEffect_sparesOthers s g e).trans evaluated).trans (applyFlags_sparesOthers _ g)

theorem runEvents_sparesOthers {g : Group} (fuel : Nat) (ns : Notices) (s : State)
    (own : ∀ e ∈ ns, e.1 = g) : SparesOthers g s (runEvents fuel ns s) := by
  induction fuel generalizing ns s with
  | zero => exact .refl g s
  | succ fuel ih =>
    cases ns with
    | nil => exact .refl g s
    | cons e rest =>
      obtain rfl := own e List.mem_cons_self
      exact (handleEvent_sparesOthers s e.1 e.2).trans (ih _ _ (List.forall_mem_append.mpr
        ⟨fun x later => own x (List.mem_cons_of_mem _ later), (handleEvent_actsAt s e.1 e.2).notices⟩))

theorem groupEvent_sparesOthers (s : State) (g : Group) (e : GroupEvent) :
    SparesOthers g s (groupEvent s g e) :=
  runEvents_sparesOthers _ _ s fun x one => by rw [List.mem_singleton.mp one]

/-! ## Waiting bypasses (R68, R71, R73) -/

/-- No bypass waits in `t` that does not wait in `s`. -/
def WaitsWithin (s t : State) : Prop := ∀ v : Valve, t.fsc.waiting[v] = true → s.fsc.waiting[v] = true

theorem WaitsWithin.of_waiting {s t : State} (same : t.fsc.waiting = s.fsc.waiting) : WaitsWithin s t :=
  fun v waits => by rwa [same] at waits

theorem WaitsWithin.trans {a b c : State} (h : WaitsWithin a b) (k : WaitsWithin b c) : WaitsWithin a c :=
  fun v waits => h v (k v waits)

theorem retryOne_waitsWithin (s : State) (v : Valve) : WaitsWithin s (retryOne s v) := by
  unfold retryOne
  split
  · next waits =>
    have kept (t : State) (x : Bool) (same : t.fsc.waiting = s.fsc.waiting) :
        WaitsWithin s (t.setWaiting v x) := by
      intro w
      rw [State.setWaiting_fsc_waiting, setAt_get_eq, same]
      split
      · next own => exact fun _ => own ▸ waits
      · exact id
    unfold tryBypass
    split
    · exact kept _ false rfl
    · exact kept _ true rfl
  · exact .of_waiting rfl

theorem retryWaiting_waitsWithin (s : State) (v : Valve) : WaitsWithin s (retryWaiting s v) :=
  List.foldlRecOn _ retryOne (motive := WaitsWithin s) (.of_waiting rfl)
    fun t kept w _ => kept.trans (retryOne_waitsWithin t w)

theorem foldl_cancelPlanned_waitsWithin (rs : List FireRecord) (x : State × Notices) :
    WaitsWithin x.1 (rs.foldl cancelPlanned x).1 := by
  induction rs generalizing x with
  | nil => exact .of_waiting rfl
  | cons r rs ih =>
    exact ((WaitsWithin.of_waiting (closeRecord_waiting x.1 r _)).trans (retryWaiting_waitsWithin _ _)).trans
      (ih (cancelPlanned x r))

theorem cancelDecision_waitsWithin (s : State) (g : Group) : WaitsWithin s (cancelDecision s g).1 := by
  rw [cancelDecision_eq]
  exact .trans (b := (takeDecision s).setRecords _) (.of_waiting rfl) (foldl_cancelPlanned_waitsWithin _ (_, []))

/-- No bypass waits at the group. -/
def NoneWaits (s : State) (g : Group) : Prop := ∀ v : Valve, valveGroup v = g → s.fsc.waiting[v] = false

theorem WaitsWithin.noneWaits {s t : State} {g : Group} (within : WaitsWithin s t) (none : NoneWaits s g) :
    NoneWaits t g :=
  fun v own => Bool.eq_false_iff.mpr fun waits => Bool.eq_false_iff.mp (none v own) (within v waits)

theorem releaseDecision_noneWaits (s : State) (g : Group) : NoneWaits (releaseDecision s g) g := by
  intro v own
  rw [releaseDecision_waiting, decide_eq_true own, Bool.not_true, Bool.and_false]

/-- Without a bypass that waits nothing is tried again (R68). -/
theorem retryWaiting_of_noneWaits {s : State} {v : Valve} (none : NoneWaits s (valveGroup v)) :
    retryWaiting s v = s := by
  have still (ws : List Valve) (own : ∀ w ∈ ws, valveGroup w = valveGroup v) : ws.foldl retryOne s = s := by
    induction ws with
    | nil => rfl
    | cons w ws ih =>
      have one : retryOne s w = s := by
        rw [retryOne, none w (own w List.mem_cons_self), if_neg Bool.false_ne_true]
      rw [List.foldl_cons, one]
      exact ih fun y later => own y (List.mem_cons_of_mem _ later)
  exact still _ fun w mem => retried_group mem

/-! ## The records-ended notice of a cancel decision (R68, R69) -/

theorem closeRecord_groupBusy {s : State} {g : Group} (idle : s.groupBusy g = false) (r : FireRecord)
    (o : RecordOutcome) : (closeRecord s r o).groupBusy g = false := by
  rw [groupBusy_eq_false_iff] at idle ⊢
  intro x mem own
  rw [closeRecord_records] at mem
  exact idle x (List.mem_of_mem_erase mem) own

/-- A records-ended notice comes of a group without a NORMAL, START or BYPASS record (R68). -/
theorem noticesOf_recordsEnded {s : State} {r : FireRecord} {o : RecordOutcome} {h : Group}
    (mem : (h, GroupEvent.recordsEnded) ∈ noticesOf s r o) :
    valveGroup r.valve = h ∧ s.groupBusy h = false := by
  simp only [noticesOf, List.mem_append, List.mem_ite_nil_right, List.mem_singleton, Prod.mk.injEq,
    reduceCtorEq, and_false, false_or, Bool.and_eq_true, Bool.not_eq_true'] at mem
  obtain ⟨⟨-, idle⟩, rfl, -⟩ := mem
  exact ⟨rfl, idle⟩

theorem foldl_cancelPlanned_recordsEnded {g : Group} (rs : List FireRecord) (x : State × Notices)
    (own : ∀ r ∈ rs, valveGroup r.valve = g) (none : NoneWaits x.1 g)
    (told : (g, GroupEvent.recordsEnded) ∈ x.2 → x.1.groupBusy g = false)
    (ended : (g, GroupEvent.recordsEnded) ∈ (rs.foldl cancelPlanned x).2) :
    (rs.foldl cancelPlanned x).1.groupBusy g = false := by
  induction rs generalizing x with
  | nil => exact told ended
  | cons r rs ih =>
    have group := own r List.mem_cons_self
    have closed : NoneWaits (closeRecord x.1 r (.cancelled false)) g :=
      WaitsWithin.noneWaits (.of_waiting (closeRecord_waiting x.1 r _)) none
    have still : (cancelPlanned x r).1 = closeRecord x.1 r (.cancelled false) :=
      retryWaiting_of_noneWaits (group ▸ closed)
    refine ih (cancelPlanned x r) (fun y later => own y (List.mem_cons_of_mem _ later)) (still ▸ closed)
      (fun mem => ?_) ended
    rw [still]
    rcases List.mem_append.mp mem with old | new
    · exact closeRecord_groupBusy (told old) r _
    · exact (noticesOf_recordsEnded new).2

theorem cancelDecision_recordsEnded {s : State} {g : Group} (none : NoneWaits s g)
    (ended : (g, GroupEvent.recordsEnded) ∈ (cancelDecision s g).2) :
    (cancelDecision s g).1.groupBusy g = false := by
  rw [cancelDecision_eq] at ended ⊢
  exact foldl_cancelPlanned_recordsEnded _ (_, [])
    (fun r mem => (plannedOf_eq_true (List.mem_filter.mp mem).2).1) none nofun ended

end Sys2Proof.Machine
end

section
/-! PROOFS. What an event at a group keeps of the laws of PLANNED records and of the groups' fit to records,
stations, levels and orders. -/

namespace Sys2Proof.Machine

/-! ## PLANNED records (R36, R56, R69) -/

/-- No step of the Group Controller plans a record. -/
theorem AddsDispatched.planned {s t : State} (adds : AddsDispatched s t) :
    ∀ r ∈ t.fsc.records, r.state = .planned → r ∈ s.fsc.records := by
  intro r live planned
  rcases adds r live with old | new
  · exact old
  · rw [planned] at new
    cases new

theorem markCancelled_of_state {g : Group} {n : BitVec 32} {r : FireRecord}
    (planned : (markCancelled g n r).state = .planned) : markCancelled g n r = r := by
  unfold markCancelled at planned ⊢
  split
  · next marked =>
    rw [if_pos marked] at planned
    cases planned
  · rfl

theorem markReleased_of_state {g : Group} {n : BitVec 32} {t : Time} {r : FireRecord}
    (planned : (markReleased g n t r).state = .planned) : markReleased g n t r = r := by
  unfold markReleased at planned ⊢
  split
  · next marked =>
    rw [if_pos marked] at planned
    cases planned
  · rfl

theorem GroupStep.planned {s t : State} (step : GroupStep s t) :
    ∀ r ∈ t.fsc.records, r.state = .planned → r ∈ s.fsc.records := by
  intro r live planned
  cases step with
  | group | flag | fac => exact live
  | bypass v => exact (tryBypass_addsDispatched s v).planned r live planned
  | cancel h =>
    rw [cancelDecision_eq] at live
    have old := (foldl_cancelPlanned_addsDispatched _ (_, [])).planned r live planned
    obtain ⟨x, mem, rfl⟩ := List.mem_map.mp old
    rwa [markCancelled_of_state planned]
  | release h =>
    obtain ⟨x, mem, rfl⟩ := List.mem_map.mp live
    rwa [markReleased_of_state planned]

theorem GroupSteps.planned {s t : State} (steps : GroupSteps s t) :
    ∀ r ∈ t.fsc.records, r.state = .planned → r ∈ s.fsc.records := by
  induction steps with
  | refl => exact fun _ live _ => live
  | tail _ step ih => exact fun r live planned => ih r (step.planned r live planned) planned

theorem plannedOf_of_normal {r : FireRecord} (normal : r.isNormal = true) (planned : r.state = .planned) :
    plannedOf (valveGroup r.valve) r = true := by
  have regular : r.isRegular = true := by
    cases body : r.body <;> simp_all [FireRecord.isNormal, FireRecord.isRegular]
  simp [plannedOf, regular, planned]

/-- The law of PLANNED records is kept when none is planned and each group that ceases to fire has none left. -/
theorem plannedFits_of {s t : State} (old : ∀ r ∈ t.fsc.records, r.state = .planned → r ∈ s.fsc.records)
    (leaves : ∀ g, Fires s g → Fires t g ∨ NonePlanned t g) (fits : PlannedFits s) : PlannedFits t := by
  intro r live planned
  obtain ⟨normal, fires⟩ := fits r (old r live planned) planned
  refine ⟨normal, (leaves _ fires).resolve_right fun none => ?_⟩
  exact Bool.eq_false_iff.mp (none r live) (plannedOf_of_normal normal planned)

/-- A group that does not fire has no PLANNED record. -/
theorem PlannedFits.nonePlanned {s : State} {g : Group} (fits : PlannedFits s) (idle : ¬ Fires s g) :
    NonePlanned s g := by
  intro r live
  refine Bool.eq_false_iff.mpr fun planned => ?_
  obtain ⟨own, -, state⟩ := plannedOf_eq_true planned
  exact idle (own ▸ (fits r live state).2)

theorem enterPattern_nonePlanned (s : State) (g : Group) : NonePlanned (enterPattern s g).1 g :=
  (GroupSteps.foldl _ bypassRequest_steps _ _).nonePlanned (cancelDecision_nonePlanned (s.choosePairs g) g)

theorem enterBypassing_nonePlanned (s : State) (g : Group) (timed : Bool) :
    NonePlanned (enterBypassing s g timed).1 g := enterPattern_nonePlanned _ g

theorem stopDirect_nonePlanned (s : State) (g : Group) : NonePlanned (stopDirect s g).1 g :=
  (checkStopped_steps _ g).nonePlanned (cancelDecision_nonePlanned (s.setGroupState g .stopping) g)

theorem trip_nonePlanned {s : State} {g : Group} (c : TripCause) (fires : Fires s g) :
    NonePlanned (trip s g c).1 g := by
  have apart : decide (s.groups[g].state = .bypassing) = false :=
    decide_eq_false fun bypassing => not_fires_of bypassing nofun nofun fires
  unfold trip
  simp only [apart, Bool.false_eq_true, if_false]
  split
  · exact enterPattern_nonePlanned _ g
  · exact (GroupStep.release _ g).steps.nonePlanned (cancelDecision_nonePlanned _ g)

theorem ownEffect_leaves {s : State} {g : Group} (e : GroupEvent) (fires : Fires s g) :
    Fires (ownEffect s g e).1 g ∨ NonePlanned (ownEffect s g e).1 g := by
  generalize taken : ownEffect s g e = x
  cases taken ▸ ownEffect_effect s g e with
  | nothing => exact .inl fires
  | trip _ c => exact .inr (trip_nonePlanned c fires)
  | adds _ c state | ended state | expired state | reset state =>
    exact absurd fires (not_fires_of state nofun nofun)
  | fired _ v other state => exact .inl (addFired_fires state v)

theorem applyFlags_leaves {s : State} {g : Group} (fires : Fires s g) :
    Fires (applyFlags s g).1 g ∨ NonePlanned (applyFlags s g).1 g := by
  generalize taken : applyFlags s g = x
  cases taken ▸ applyFlags_taken s g with
  | nothing => exact .inl fires
  | bypassing | timed => exact .inr (enterBypassing_nonePlanned s g _)
  | stop => exact .inr (stopDirect_nonePlanned s g)
  | deblock => exact .inl (.inl (by rw [enterDeblocking_group]))
  | untimed state | release state => exact absurd fires (not_fires_of state nofun nofun)

/-- A group leaves DEBLOCKING and RUNNING with a cancel decision only (R146, R147, R152). -/
theorem handleEvent_leaves {s : State} {g : Group} (e : GroupEvent) (fires : Fires s g) :
    Fires (handleEvent s g e).1 g ∨ NonePlanned (handleEvent s g e).1 g := by
  rw [handleEvent_eq]
  rcases ownEffect_leaves e fires with still | none
  · refine applyFlags_leaves ?_
    rw [Fires, evalInhibits_state]
    exact still
  · exact .inr (GroupSteps.nonePlanned ((GroupStep.group _ g _).steps.trans (applyFlags_steps _ g)) none)

theorem handleEvent_plannedFits {s : State} (g : Group) (e : GroupEvent) (fits : PlannedFits s) :
    PlannedFits (handleEvent s g e).1 := by
  refine plannedFits_of (handleEvent_steps s g e).planned (fun h fires => ?_) fits
  by_cases own : h = g
  · subst own
    exact handleEvent_leaves e fires
  · rw [Fires, (handleEvent_actsAt s g e).others h own]
    exact .inl fires

theorem runEvents_plannedFits (fuel : Nat) (ns : Notices) {s : State} (fits : PlannedFits s) :
    PlannedFits (runEvents fuel ns s) := by
  induction fuel generalizing ns s with
  | zero => exact fits
  | succ fuel ih =>
    cases ns with
    | nil => exact fits
    | cons e rest => exact ih _ (handleEvent_plannedFits e.1 e.2 fits)

theorem groupEvent_plannedFits {s : State} (g : Group) (e : GroupEvent) (fits : PlannedFits s) :
    PlannedFits (groupEvent s g e) := runEvents_plannedFits _ _ fits

/-! ## The parts of a group's fit (R109, R137, R143, R150) -/

/-- A BLOCKED group has no live record but TEST records, and a bypass waits in BYPASSING or TRIPPED only. -/
structure Tended (s : State) (g : Group) : Prop where
  idle : s.groups[g].state = .blocked → s.groupBusy g = false
  waits : ∀ v : Valve, valveGroup v = g → s.fsc.waiting[v] = true →
    s.groups[g].state = .bypassing ∨ s.groups[g].state = .tripped

/-- The stations of the group's valves are ENROLLED, and none of its valves is OVER_LIMIT. -/
def Sound (s : State) (g : Group) : Prop := ∀ v : Valve, valveGroup v = g →
  valveEnrolled s v = true ∧ s.lvm.levels[v].state ≠ .overLimit

/-- A group fires with sound valves only. -/
def Serves (s : State) (g : Group) : Prop := Fires s g → Sound s g

/-- The command in force is not BYPASS in BLOCKED, nor BLOCK or BYPASS in DEBLOCKING and RUNNING. -/
structure Obeys (s : State) (g : Group) : Prop where
  blocked : s.groups[g].state = .blocked → commandOf s.olp.order.flags[g] ≠ .bypass
  firing : Fires s g → commandOf s.olp.order.flags[g] ≠ .block ∧ commandOf s.olp.order.flags[g] ≠ .bypass

theorem groupFits_iff (s : State) (g : Group) : GroupFits s g ↔ Tended s g ∧ Serves s g ∧ Obeys s g := by
  constructor
  · intro ⟨blocked, firing, waits⟩
    exact ⟨⟨fun state => (groupBusy_eq_false_iff s g).mpr (blocked state).2, waits⟩,
      fun fires => (firing fires).2.2, fun state => (blocked state).1,
      fun fires => ⟨(firing fires).1, (firing fires).2.1⟩⟩
  · intro ⟨⟨idle, waits⟩, sound, ⟨blocked, firing⟩⟩
    exact ⟨fun state => ⟨blocked state, (groupBusy_eq_false_iff s g).mp (idle state)⟩,
      fun fires => ⟨(firing fires).1, (firing fires).2, sound fires⟩, waits⟩

/-- In BYPASSING and TRIPPED nothing is asked of a group. -/
theorem groupFits_of_apart {s : State} {g : Group}
    (state : s.groups[g].state = .bypassing ∨ s.groups[g].state = .tripped) : GroupFits s g := by
  have none {x : GroupState} (bypassing : x ≠ .bypassing) (tripped : x ≠ .tripped) :
      s.groups[g].state ≠ x := by
    rcases state with state | state <;> rw [state]
    · exact bypassing.symm
    · exact tripped.symm
  exact ⟨fun blocked => absurd blocked (none nofun nofun),
    fun fires => fires.elim (fun x => absurd x (none nofun nofun)) fun x => absurd x (none nofun nofun),
    fun _ _ _ => state⟩

theorem Tended.of_noneWaits {s : State} {g : Group} (none : NoneWaits s g)
    (idle : s.groups[g].state = .blocked → s.groupBusy g = false) : Tended s g :=
  ⟨idle, fun v own waits => absurd waits (Bool.eq_false_iff.mp (none v own))⟩

theorem Tended.noneWaits {s : State} {g : Group} (tended : Tended s g)
    (bypassing : s.groups[g].state ≠ .bypassing) (tripped : s.groups[g].state ≠ .tripped) : NoneWaits s g :=
  fun v own => Bool.eq_false_iff.mpr fun waits => (tended.waits v own waits).elim bypassing tripped

theorem Tended.noneWaits_of_fires {s : State} {g : Group} (tended : Tended s g) (fires : Fires s g) :
    NoneWaits s g := by
  rcases fires with state | state
  all_goals exact tended.noneWaits (by rw [state]; nofun) (by rw [state]; nofun)

theorem Serves.of_state {s : State} {g : Group} {x : GroupState} (state : s.groups[g].state = x)
    (deblocking : x ≠ .deblocking) (running : x ≠ .running) : Serves s g :=
  fun fires => absurd fires (not_fires_of state deblocking running)

/-- The deblock conditions 3 and 4 of Table 9-4: without an inhibit cause the valves are sound (R144). -/
theorem sound_of_ready {s : State} {g : Group} (ready : BoolSet.any (inhibitSet s g) = false) : Sound s g := by
  have met (i : Fin 6) : unmet s g inhibitCauses[i] = false := by
    refine Bool.eq_false_iff.mpr fun set => Bool.eq_false_iff.mp ready ?_
    have entry : (inhibitSet s g)[i] = true := (ofFn_get _ i).trans set
    exact List.any_eq_true.mpr ⟨_, Vector.mem_toList_iff.mpr (Vector.getElem_mem i.isLt), entry⟩
  have stations : unmet s g .stationNotEnrolled = false := met 2
  have levels : unmet s g .levelLimit = false := met 3
  simp only [unmet, Bool.not_eq_false', List.all_eq_true, List.any_eq_false, decide_eq_true_eq] at stations levels
  intro v own
  have mem : v ∈ groupValves g := List.mem_filter.mpr ⟨List.mem_finRange v, decide_eq_true own⟩
  exact ⟨stations v mem, levels v mem⟩

/-! ## The flags in force keep a group fit (R143 to R149) -/

/-- While the records-ended notice is on its way the group has records in none of the states in which the notice,
or the release of an untimed BYPASSING, would make it BLOCKED. -/
structure Judged (s : State) (g : Group) : Prop where
  stopping : s.groups[g].state = .stopping → s.groupBusy g = false
  untimed : s.groups[g].state = .bypassing → commandOf s.olp.order.flags[g] = .block →
    s.groups[g].holdTimer = none → s.groupBusy g = false

theorem Judged.of_state {s : State} {g : Group} {x : GroupState} (state : s.groups[g].state = x)
    (stopping : x ≠ .stopping) (bypassing : x ≠ .bypassing) : Judged s g :=
  ⟨fun same => absurd (state.symm.trans same) stopping, fun same => absurd (state.symm.trans same) bypassing⟩

theorem Judged.of_idle {s : State} {g : Group} (idle : s.groupBusy g = false) : Judged s g :=
  ⟨fun _ => idle, fun _ _ _ => idle⟩

/-- The check of R149 leaves a BLOCKED group without records. -/
theorem tended_of_checked {s : State} {g : Group} (none : NoneWaits s g)
    (checked : s.groups[g].state = if s.groupBusy g then .stopping else .blocked) :
    Tended s g ∧ ¬ Fires s g := by
  cases busy : s.groupBusy g
  · rw [busy, if_neg Bool.false_ne_true] at checked
    exact ⟨.of_noneWaits none fun _ => busy, not_fires_of checked nofun nofun⟩
  · rw [busy, if_pos rfl] at checked
    exact ⟨.of_noneWaits none fun blocked => absurd (checked.symm.trans blocked) nofun,
      not_fires_of checked nofun nofun⟩

theorem noneWaits_of_fsc {s t : State} {g : Group} (same : t.fsc = s.fsc) (none : NoneWaits s g) :
    NoneWaits t g := fun v own => by rw [same]; exact none v own

theorem stopBypass_noneWaits (s : State) (g : Group) : NoneWaits (stopBypass s g) g :=
  noneWaits_of_fsc (checkStopped_fsc _ g)
    (releaseDecision_noneWaits (((s.setGroupState g .stopping).setHoldTimer g none).clearPairs g) g)

theorem stopBypass_tended (s : State) (g : Group) :
    Tended (stopBypass s g) g ∧ ¬ Fires (stopBypass s g) g :=
  tended_of_checked (stopBypass_noneWaits s g) (by rw [stopBypass_group])

theorem resetTripped_tended (s : State) (g : Group) :
    Tended (resetTripped s g).1 g ∧ ¬ Fires (resetTripped s g).1 g := by
  refine tended_of_checked ?_ (by rw [resetTripped_group])
  exact noneWaits_of_fsc (checkStopped_fsc _ g) (releaseDecision_noneWaits (cancelDecision (tripCleared s g) g).1 g)

theorem stopDirect_noneWaits {s : State} {g : Group} (none : NoneWaits s g) :
    NoneWaits (stopDirect s g).1 g :=
  noneWaits_of_fsc (checkStopped_fsc _ g)
    ((cancelDecision_waitsWithin (s.setGroupState g .stopping) g).noneWaits none)

theorem stopDirect_tended {s : State} {g : Group} (none : NoneWaits s g) :
    Tended (stopDirect s g).1 g ∧ ¬ Fires (stopDirect s g).1 g :=
  tended_of_checked (stopDirect_noneWaits none) (by rw [stopDirect_group])

theorem applyFlags_order (s : State) (g : Group) :
    (applyFlags s g).1.olp.order = s.olp.order :=
  ((applyFlags_only s g).orders_stand (by decide)).1.1

/-- The flags in force are obeyed after they are taken (R143). -/
theorem applyFlags_fits {s : State} {g : Group} (tended : Tended s g) (serves : Serves s g)
    (evaluated : s.groups[g].inhibits = inhibitSet s g) : GroupFits (applyFlags s g).1 g := by
  have order := applyFlags_order s g
  generalize taken : applyFlags s g = x at order
  have stopped (calm : Tended x.1 g ∧ ¬ Fires x.1 g) (command : commandOf s.olp.order.flags[g] = .block) :
      GroupFits x.1 g := by
    refine (groupFits_iff _ _).mpr ⟨calm.1, fun fires => absurd fires calm.2, fun _ => ?_,
      fun fires => absurd fires calm.2⟩
    rw [order, command]
    nofun
  cases taken ▸ applyFlags_taken s g with
  | nothing idle serving => exact (groupFits_iff s g).mpr ⟨tended, serves, ⟨idle, serving⟩⟩
  | bypassing | timed => exact groupFits_of_apart (.inl (by rw [enterBypassing_group]))
  | stop command fires => exact stopped (stopDirect_tended (tended.noneWaits_of_fires fires)) command
  | release _ command => exact stopped (stopBypass_tended s g) command
  | untimed state =>
    refine groupFits_of_apart (.inl ?_)
    rw [State.setHoldTimer, State.setGroup_groups, setAt_get]
    exact state
  | deblock command source ready =>
    have state : (enterDeblocking s g).groups[g].state = .deblocking := by rw [enterDeblocking_group]
    have none : NoneWaits (enterDeblocking s g) g := by
      have fsc := enterDeblocking_fsc s g
      split at fsc
      · exact noneWaits_of_fsc fsc (releaseDecision_noneWaits s g)
      · next apart =>
        refine noneWaits_of_fsc fsc (tended.noneWaits apart ?_)
        rcases source with state | state <;> rw [state] <;> nofun
    have only := enterDeblocking_only s g
    have sound : Sound (enterDeblocking s g) g := by
      have before := sound_of_ready (evaluated ▸ ready)
      intro v own
      rw [only.lvm (by decide), valveEnrolled, stationOf, positionOf, only.tbs (by decide),
        only.rgm (by decide)]
      exact before v own
    refine (groupFits_iff _ _).mpr ⟨.of_noneWaits none fun blocked => absurd (state.symm.trans blocked) nofun,
      fun _ => sound, fun blocked => absurd (state.symm.trans blocked) nofun, fun _ => ?_⟩
    rw [order, command]
    exact ⟨nofun, nofun⟩

/-- After flags that make a group BYPASSING, or stop it without a record left, the records-ended notice does no
harm (R142). -/
theorem applyFlags_judged {s : State} {g : Group} (tended : Tended s g)
    (ended : (g, GroupEvent.recordsEnded) ∈ (applyFlags s g).2) : Judged (applyFlags s g).1 g := by
  have order := applyFlags_order s g
  generalize taken : applyFlags s g = x at ended order
  cases taken ▸ applyFlags_taken s g with
  | nothing | deblock | untimed | release => cases ended
  | bypassing command =>
    refine ⟨fun stopping => ?_, fun _ block => ?_⟩
    · rw [enterBypassing_group] at stopping
      cases stopping
    · rw [order, command] at block
      cases block
  | timed =>
    refine ⟨fun stopping => ?_, fun _ _ untimed => ?_⟩
    · rw [enterBypassing_group] at stopping
      cases stopping
    · rw [enterBypassing_group] at untimed
      cases untimed
  | stop command fires =>
    refine .of_idle ?_
    have none := tended.noneWaits_of_fires fires
    have idle := cancelDecision_recordsEnded (s := s.setGroupState g .stopping) none ended
    rw [stopDirect, State.groupBusy, checkStopped_fsc]
    exact idle

/-! ## An event's own effect -/

theorem trip_state (s : State) (g : Group) (c : TripCause) : (trip s g c).1.groups[g].state = .tripped :=
  (trip_trippedBy s g c).1

theorem Tended.of_state {s : State} {g : Group}
    (state : s.groups[g].state = .bypassing ∨ s.groups[g].state = .tripped) : Tended s g :=
  ((groupFits_iff s g).mp (groupFits_of_apart state)).1

/-- An event's own effect keeps a group tended and serving; a station that leaves ENROLLED or a valve that becomes
OVER_LIMIT trips the group that fires. -/
theorem ownEffect_fits {s : State} {g : Group} {e : GroupEvent} (tended : Tended s g)
    (serves : Serves s g ∨ e = .stationFault ∨ e = .levelLimit)
    (judged : e = .recordsEnded → Judged s g) :
    Tended (ownEffect s g e).1 g ∧ Serves (ownEffect s g e).1 g := by
  generalize taken : ownEffect s g e = x
  cases taken ▸ ownEffect_effect s g e with
  | nothing _ untripped =>
    refine ⟨tended, fun fires => ?_⟩
    rcases serves with serves | beyond
    · exact serves fires
    · exact absurd fires (untripped beyond)
  | trip _ c =>
    have state := trip_state s g c
    exact ⟨.of_state (.inr state), .of_state state nofun nofun⟩
  | adds _ c tripped =>
    have state := tripCauses_state tripped (setAt s.groups[g].tripCauses c.bit true)
    exact ⟨.of_state (.inr state), .of_state state nofun nofun⟩
  | fired _ v other state =>
    have none := tended.noneWaits_of_fires (.inl state)
    have sound : Sound s g := serves.resolve_right (by rintro (rfl | rfl); exacts [other.1 rfl, other.2 rfl]) (.inl state)
    exact ⟨.of_noneWaits none fun blocked => absurd (addFired_fires state v) (not_fires_of blocked nofun nofun),
      fun _ => sound⟩
  | ended state =>
    have blocked : (s.setGroupState g .blocked).groups[g].state = .blocked := by
      rw [State.setGroupState, State.setGroup_groups, setAt_get]
    have none := tended.noneWaits (by rw [state]; nofun) (by rw [state]; nofun)
    exact ⟨.of_noneWaits none fun _ => (judged rfl).stopping state, .of_state blocked nofun nofun⟩
  | expired state =>
    obtain ⟨calm, idle⟩ := stopBypass_tended s g
    exact ⟨calm, fun fires => absurd fires idle⟩
  | reset state =>
    obtain ⟨calm, idle⟩ := resetTripped_tended s g
    exact ⟨calm, fun fires => absurd fires idle⟩

/-- Only a trip or the reset of a trip hands back notices in an event's own effect. -/
theorem ownEffect_notices {s : State} {g : Group} {e : GroupEvent}
    (unplanned : e = .resetTrip → s.groups[g].state = .tripped → NonePlanned s g)
    (ended : (g, GroupEvent.recordsEnded) ∈ (ownEffect s g e).2) :
    (ownEffect s g e).1.groups[g].state = .tripped := by
  generalize taken : ownEffect s g e = x at ended
  cases taken ▸ ownEffect_effect s g e with
  | nothing | adds | fired | ended | expired => cases ended
  | trip _ c => exact trip_state s g c
  | reset state =>
    have none : NonePlanned (tripCleared s g) g := unplanned rfl state
    rw [resetTripped_eq, cancelDecision_of_nonePlanned none] at ended
    cases ended

end Sys2Proof.Machine
end

section
/-! PROOFS. An event at a group, with the events that its removals hand back, keeps the laws of both groups. -/

namespace Sys2Proof.Machine

/-! ## One event (R142) -/

theorem evalInhibits_tended {s : State} {g : Group} (tended : Tended s g) : Tended (evalInhibits s g) g := by
  obtain ⟨idle, waits⟩ := tended
  refine ⟨fun blocked => idle ?_, fun v own waiting => ?_⟩
  · rwa [evalInhibits_state] at blocked
  · rw [evalInhibits_state]
    exact waits v own waiting

theorem evalInhibits_serves {s : State} {g : Group} (serves : Serves s g) : Serves (evalInhibits s g) g := by
  intro fires
  rw [Fires, evalInhibits_state] at fires
  exact serves fires

theorem evalInhibits_evaluated (s : State) (g : Group) :
    (evalInhibits s g).groups[g].inhibits = inhibitSet (evalInhibits s g) g := by
  rw [evalInhibits, inhibitSet_setGroup, State.setGroup_groups, setAt_get]

section
variable {s : State} {g : Group} {e : GroupEvent} (tended : Tended s g)
  (serves : Serves s g ∨ e = .stationFault ∨ e = .levelLimit) (judged : e = .recordsEnded → Judged s g)
include tended serves judged

theorem handleEvent_fits : GroupFits (handleEvent s g e).1 g := by
  obtain ⟨calm, sound⟩ := ownEffect_fits tended serves judged
  exact applyFlags_fits (evalInhibits_tended calm) (evalInhibits_serves sound) (evalInhibits_evaluated _ g)

/-- The records-ended notice of an event does no harm after it. -/
theorem handleEvent_notice (unplanned : e = .resetTrip → s.groups[g].state = .tripped → NonePlanned s g)
    (ended : (g, GroupEvent.recordsEnded) ∈ (handleEvent s g e).2) : Judged (handleEvent s g e).1 g := by
  rw [handleEvent_eq] at ended ⊢
  rcases List.mem_append.mp ended with own | flags
  · have state : (evalInhibits (ownEffect s g e).1 g).groups[g].state = .tripped :=
      (evalInhibits_state _ g).trans (ownEffect_notices unplanned own)
    rw [applyFlags_of_tripped state]
    exact .of_state state nofun nofun
  · exact applyFlags_judged (evalInhibits_tended (ownEffect_fits tended serves judged).1) flags

end

/-! ## The events that follow a removed record, and a repeated commutation failure -/

/-- The group is in DEBLOCKING, RUNNING or TRIPPED. -/
def Active (s : State) (g : Group) : Prop := Fires s g ∨ s.groups[g].state = .tripped

theorem Active.not_blocked {s : State} {g : Group} (active : Active s g) : s.groups[g].state ≠ .blocked := by
  rcases active with (state | state) | state <;> rw [state] <;> nofun

/-- The event is the outcome of a record, the records-ended notice, or a repeated commutation failure. -/
def Ensues (e : GroupEvent) : Prop :=
  (∃ v normal o, e = .outcome v normal o) ∨ e = .recordsEnded ∨ e = .repeatedCf

theorem Ensues.of_fromRemoval {g : Group} {e : Group × GroupEvent} (removal : FromRemoval g e) : Ensues e.2 :=
  removal.2.elim .inl fun ended => .inr (.inl ended)

theorem Ensues.ne_resetTrip {e : GroupEvent} (ensues : Ensues e) : e ≠ .resetTrip := by
  rcases ensues with ⟨v, normal, o, rfl⟩ | rfl | rfl <;> nofun

theorem Ensues.ne_holdExpiry {e : GroupEvent} (ensues : Ensues e) : e ≠ .holdExpiry := by
  rcases ensues with ⟨v, normal, o, rfl⟩ | rfl | rfl <;> nofun

/-- A group that obeys its command and fires takes no flags (Table 9-3). -/
theorem applyFlags_of_obeys {s : State} {g : Group} (fires : Fires s g) (obeys : Obeys s g) :
    applyFlags s g = (s, []) :=
  applyFlags_of_serving fires (obeys.firing fires).1 (obeys.firing fires).2

theorem evalInhibits_obeys {s : State} {g : Group} (obeys : Obeys s g) : Obeys (evalInhibits s g) g := by
  obtain ⟨blocked, firing⟩ := obeys
  refine ⟨fun state => blocked ?_, fun fires => firing ?_⟩
  · rwa [evalInhibits_state] at state
  · rwa [Fires, evalInhibits_state] at fires

theorem stopBypass_groupBusy (s : State) (g : Group) : (stopBypass s g).groupBusy g = s.groupBusy g := by
  rw [stopBypass, State.groupBusy, checkStopped_fsc]
  exact releaseDecision_groupBusy (((s.setGroupState g .stopping).setHoldTimer g none).clearPairs g) g g

/-- The flags taken by a group in another state than BLOCKED that obeys its command keep it judged. -/
theorem applyFlags_keeps_judged {s : State} {g : Group}
    (firing : Fires s g → commandOf s.olp.order.flags[g] ≠ .block) (judged : Judged s g) :
    Judged (applyFlags s g).1 g := by
  have order := applyFlags_order s g
  generalize taken : applyFlags s g = x at order
  cases taken ▸ applyFlags_taken s g with
  | nothing => exact judged
  | bypassing command =>
    refine ⟨fun stopping => ?_, fun _ block => ?_⟩
    · rw [enterBypassing_group] at stopping
      cases stopping
    · rw [order, command] at block
      cases block
  | timed command fires | stop command fires => exact absurd command (firing fires)
  | deblock =>
    exact .of_state (x := .deblocking) (by rw [enterDeblocking_group]) nofun nofun
  | untimed state command =>
    have same : (s.setHoldTimer g none).groups[g].state = .bypassing := by
      rw [State.setHoldTimer, State.setGroup_groups, setAt_get]
      exact state
    refine ⟨fun stopping => absurd (same.symm.trans stopping) nofun, fun _ block => ?_⟩
    rw [order, command] at block
    cases block
  | release state command untimed =>
    refine .of_idle ?_
    rw [stopBypass_groupBusy]
    exact judged.untimed state command untimed

theorem evalInhibits_judged {s : State} {g : Group} (judged : Judged s g) : Judged (evalInhibits s g) g := by
  obtain ⟨stopping, untimed⟩ := judged
  refine ⟨fun state => stopping ?_, fun state command timer => untimed ?_ command ?_⟩
  · rwa [evalInhibits_state] at state
  · rwa [evalInhibits_state] at state
  · rwa [evalInhibits_holdTimer] at timer

section
variable {s : State} {g : Group} {e : GroupEvent} (ensues : Ensues e) (fits : GroupFits s g)
include ensues fits

/-- What ensues on a removed record leaves a judged group judged: of the order's commands BYPASS alone can take it
out of its state. -/
theorem handleEvent_judged (judged : Judged s g) : Judged (handleEvent s g e).1 g := by
  obtain ⟨-, -, obeys⟩ := (groupFits_iff s g).mp fits
  rw [handleEvent_eq]
  generalize taken : ownEffect s g e = x
  cases taken ▸ ownEffect_effect s g e with
  | nothing =>
    exact applyFlags_keeps_judged (fun fires => ((evalInhibits_obeys obeys).firing fires).1) (evalInhibits_judged judged)
  | trip _ c =>
    have state := (evalInhibits_state (trip s g c).1 g).trans (trip_state s g c)
    rw [applyFlags_of_tripped state]
    exact .of_state state nofun nofun
  | adds _ c tripped =>
    have state := (evalInhibits_state _ g).trans
      (tripCauses_state tripped (setAt s.groups[g].tripCauses c.bit true))
    rw [applyFlags_of_tripped state]
    exact .of_state state nofun nofun
  | fired _ v other state =>
    refine applyFlags_keeps_judged (fun _ => (obeys.firing (.inl state)).1) (evalInhibits_judged ?_)
    rcases addFired_fires state v with fires | fires <;> exact .of_state fires nofun nofun
  | ended state =>
    have blocked : (s.setGroupState g .blocked).groups[g].state = .blocked := by
      rw [State.setGroupState, State.setGroup_groups, setAt_get]
    have idle := not_fires_of ((evalInhibits_state _ g).trans blocked) nofun nofun
    exact applyFlags_keeps_judged (fun fires => absurd fires idle)
      (evalInhibits_judged (.of_state blocked nofun nofun))
  | expired => exact absurd rfl ensues.ne_holdExpiry
  | reset => exact absurd rfl ensues.ne_resetTrip

/-- What ensues on a removed record leaves a group that fires firing, or trips it. -/
theorem handleEvent_active (active : Active s g) : Active (handleEvent s g e).1 g := by
  obtain ⟨-, -, obeys⟩ := (groupFits_iff s g).mp fits
  have tripped {t : State} (state : t.groups[g].state = .tripped) :
      Active (applyFlags (evalInhibits t g) g).1 g := by
    have same := (evalInhibits_state t g).trans state
    rw [applyFlags_of_tripped same]
    exact .inr same
  have firing {t : State} (fires : Fires t g) (obeys : Obeys t g) :
      Active (applyFlags (evalInhibits t g) g).1 g := by
    have same : Fires (evalInhibits t g) g := by rwa [Fires, evalInhibits_state]
    rw [applyFlags_of_obeys same (evalInhibits_obeys obeys)]
    exact .inl same
  rw [handleEvent_eq]
  generalize taken : ownEffect s g e = x
  cases taken ▸ ownEffect_effect s g e with
  | nothing => exact active.elim (fun fires => firing fires obeys) tripped
  | trip _ c => exact tripped (trip_state s g c)
  | adds _ c state => exact tripped (tripCauses_state state _)
  | fired _ v other state =>
    refine firing (addFired_fires state v) ⟨fun blocked => ?_, fun _ => ?_⟩
    · exact absurd (addFired_fires state v) (not_fires_of blocked nofun nofun)
    · exact obeys.firing (.inl state)
  | ended state =>
    rcases active with fires | trip
    · exact absurd fires (not_fires_of state nofun nofun)
    · exact absurd (state.symm.trans trip) nofun
  | expired => exact absurd rfl ensues.ne_holdExpiry
  | reset => exact absurd rfl ensues.ne_resetTrip

end

theorem ownEffect_fromRemoval (s : State) (g : Group) (e : GroupEvent) :
    ∀ x ∈ (ownEffect s g e).2, FromRemoval g x := by
  generalize taken : ownEffect s g e = y
  cases taken ▸ ownEffect_effect s g e with
  | nothing | adds | fired | ended | expired => nofun
  | trip _ c => exact trip_fromRemoval s g c
  | reset => exact cancelDecision_fromRemoval _ g

theorem applyFlags_fromRemoval (s : State) (g : Group) : ∀ x ∈ (applyFlags s g).2, FromRemoval g x := by
  generalize taken : applyFlags s g = y
  cases taken ▸ applyFlags_taken s g with
  | nothing | deblock | untimed | release => nofun
  | bypassing | timed => exact enterBypassing_fromRemoval s g _
  | stop => exact cancelDecision_fromRemoval (s.setGroupState g .stopping) g

theorem handleEvent_fromRemoval (s : State) (g : Group) (e : GroupEvent) :
    ∀ x ∈ (handleEvent s g e).2, FromRemoval g x :=
  List.forall_mem_append.mpr ⟨ownEffect_fromRemoval s g e, applyFlags_fromRemoval _ g⟩

theorem handleEvent_ensues (s : State) (g : Group) (e : GroupEvent) :
    ∀ x ∈ (handleEvent s g e).2, x.1 = g ∧ Ensues x.2 := fun x mem =>
  have removal := handleEvent_fromRemoval s g e x mem
  ⟨removal.1, .of_fromRemoval removal⟩

/-- Events that ensue keep a group fit, once the records-ended notice among them is judged; they keep it judged and
active too. -/
theorem runEvents_fits {g : Group} (fuel : Nat) (ns : Notices) {s : State} (fits : GroupFits s g)
    (own : ∀ e ∈ ns, e.1 = g ∧ Ensues e.2) (ended : (g, GroupEvent.recordsEnded) ∈ ns → Judged s g) :
    GroupFits (runEvents fuel ns s) g ∧ (Judged s g → Judged (runEvents fuel ns s) g) ∧
      (Active s g → Active (runEvents fuel ns s) g) := by
  induction fuel generalizing ns s with
  | zero => exact ⟨fits, id, id⟩
  | succ fuel ih =>
    cases ns with
    | nil => exact ⟨fits, id, id⟩
    | cons e rest =>
      obtain ⟨h, e⟩ := e
      obtain ⟨rfl, ensues⟩ := own _ List.mem_cons_self
      obtain ⟨tended, serves, -⟩ := (groupFits_iff s h).mp fits
      have first (same : e = .recordsEnded) : Judged s h := ended (same ▸ List.mem_cons_self)
      have later := ih (rest ++ (handleEvent s h e).2) (handleEvent_fits tended (.inl serves) first)
        (List.forall_mem_append.mpr
          ⟨fun x mem => own x (List.mem_cons_of_mem _ mem), handleEvent_ensues s h e⟩) (fun mem => ?_)
      · rw [runEvents_cons]
        exact ⟨later.1, fun judged => later.2.1 (handleEvent_judged ensues fits judged),
          fun active => later.2.2 (handleEvent_active ensues fits active)⟩
      · rcases List.mem_append.mp mem with old | new
        · exact handleEvent_judged ensues fits (ended (List.mem_cons_of_mem _ old))
        · exact handleEvent_notice tended (.inl serves) first (fun reset => absurd reset ensues.ne_resetTrip) new

theorem groupEvent_eq (s : State) (g : Group) (e : GroupEvent) : groupEvent s g e =
    runEvents (2 * s.fsc.records.length) (handleEvent s g e).2 (handleEvent s g e).1 := by
  rw [groupEvent, Nat.add_comm, runEvents_cons, List.nil_append]

/-- An event with all that follows from it leaves its group fit. -/
theorem groupEvent_fits {s : State} {g : Group} {e : GroupEvent} (tended : Tended s g)
    (serves : Serves s g ∨ e = .stationFault ∨ e = .levelLimit)
    (judged : e = .recordsEnded → Judged s g)
    (unplanned : e = .resetTrip → s.groups[g].state = .tripped → NonePlanned s g) :
    GroupFits (groupEvent s g e) g := by
  rw [groupEvent_eq]
  exact (runEvents_fits _ _ (handleEvent_fits tended serves judged) (handleEvent_ensues s g e)
    (handleEvent_notice tended serves judged unplanned)).1

/-- An event that ensues on a removed record, at a fit group. -/
theorem groupEvent_ensues {s : State} {g : Group} {e : GroupEvent} (ensues : Ensues e) (fits : GroupFits s g)
    (judged : e = .recordsEnded → Judged s g) : GroupFits (groupEvent s g e) g ∧
      (Judged s g → Judged (groupEvent s g e) g) ∧ (Active s g → Active (groupEvent s g e) g) :=
  runEvents_fits _ _ fits (List.forall_mem_singleton.mpr ⟨rfl, ensues⟩)
    fun mem => judged (Prod.mk.inj (List.mem_singleton.mp mem)).2.symm

/-! ## The other group -/

/-- From `s` to `t` no part changes that a group's fit speaks of, but that records of the group may go. -/
structure Undisturbed (h : Group) (s t : State) : Prop where
  group : t.groups[h] = s.groups[h]
  records : ∀ r ∈ t.fsc.records, valveGroup r.valve = h → r ∈ s.fsc.records
  waiting : ∀ v, valveGroup v = h → t.fsc.waiting[v] = s.fsc.waiting[v]
  rgm : t.rgm = s.rgm
  lvm : t.lvm = s.lvm
  tbs : t.tbs = s.tbs
  order : t.olp.order = s.olp.order

theorem groupEvent_undisturbed (s : State) {g h : Group} (e : GroupEvent) (other : h ≠ g) :
    Undisturbed h s (groupEvent s g e) := by
  have only := groupEvent_only s g e
  have spares := groupEvent_sparesOthers s g e
  exact ⟨groupEvent_others s e other, fun r mem own => spares.records r mem (own ▸ other),
    fun v own => spares.waiting v (own ▸ other), only.rgm (by decide), only.lvm (by decide),
    only.tbs (by decide), (only.orders_stand (by decide)).1.1⟩

theorem Undisturbed.fires {h : Group} {s t : State} (same : Undisturbed h s t) : Fires t h ↔ Fires s h := by
  rw [Fires, same.group, Fires]

theorem Undisturbed.tended {h : Group} {s t : State} (same : Undisturbed h s t) (tended : Tended s h) :
    Tended t h := by
  refine ⟨fun blocked => ?_, fun v own waits => ?_⟩
  · rw [same.group] at blocked
    have idle := (groupBusy_eq_false_iff s h).mp (tended.idle blocked)
    exact (groupBusy_eq_false_iff t h).mpr fun r mem own => idle r (same.records r mem own) own
  · rw [same.group]
    exact tended.waits v own (same.waiting v own ▸ waits)

theorem Undisturbed.serves {h : Group} {s t : State} (same : Undisturbed h s t) (serves : Serves s h) :
    Serves t h := by
  intro fires v own
  rw [valveEnrolled, stationOf, positionOf, same.tbs, same.rgm, same.lvm]
  exact serves (same.fires.mp fires) v own

theorem Undisturbed.obeys {h : Group} {s t : State} (same : Undisturbed h s t) (obeys : Obeys s h) :
    Obeys t h := by
  refine ⟨fun blocked => ?_, fun fires => ?_⟩
  · rw [same.order]
    exact obeys.blocked (same.group ▸ blocked)
  · rw [same.order]
    exact obeys.firing (same.fires.mp fires)

theorem Undisturbed.fits {h : Group} {s t : State} (same : Undisturbed h s t) (fits : GroupFits s h) :
    GroupFits t h := by
  obtain ⟨tended, serves, obeys⟩ := (groupFits_iff s h).mp fits
  exact (groupFits_iff t h).mpr ⟨same.tended tended, same.serves serves, same.obeys obeys⟩

end Sys2Proof.Machine
end

section
/-! PROOFS. From one state to the next the laws of the groups and of PLANNED records are kept: what a change outside
the groups must not do, and what an event at a group does. -/

namespace Sys2Proof.Machine

/-- PLANNED records fit, and so do both groups. -/
structure Lawful (s : State) : Prop where
  planned : PlannedFits s
  groups : GroupsFit s

/-- From `s` to `t` the laws of the groups' records, of the PLANNED records and, with these, of the groups' fit are
kept. -/
structure LawsKept (s t : State) : Prop where
  held : GroupsHeld s → GroupsHeld t
  planned : PlannedFits s → PlannedFits t
  fits : Lawful s → GroupsFit t

/-- Moreover a group that fires goes on to fire, or trips. -/
structure FiringKept (s t : State) : Prop extends LawsKept s t where
  active : Lawful s → ∀ g, Active s g → Active t g

/-- Moreover a group that is judged stays so. -/
structure JudgedKept (s t : State) : Prop extends FiringKept s t where
  judged : Lawful s → ∀ g, Judged s g → Judged t g

theorem LawsKept.lawful {s t : State} (kept : LawsKept s t) (lawful : Lawful s) : Lawful t :=
  ⟨kept.planned lawful.planned, kept.fits lawful⟩

theorem LawsKept.refl (s : State) : LawsKept s s := ⟨id, id, Lawful.groups⟩

theorem LawsKept.trans {a b c : State} (h : LawsKept a b) (k : LawsKept b c) : LawsKept a c :=
  ⟨fun held => k.held (h.held held), fun planned => k.planned (h.planned planned),
    fun lawful => k.fits (h.lawful lawful)⟩

theorem FiringKept.refl (s : State) : FiringKept s s := ⟨.refl s, fun _ _ => id⟩

theorem FiringKept.trans {a b c : State} (h : FiringKept a b) (k : FiringKept b c) : FiringKept a c :=
  ⟨h.toLawsKept.trans k.toLawsKept,
    fun lawful g active => k.active (h.lawful lawful) g (h.active lawful g active)⟩

theorem JudgedKept.refl (s : State) : JudgedKept s s := ⟨.refl s, fun _ _ => id⟩

theorem JudgedKept.trans {a b c : State} (h : JudgedKept a b) (k : JudgedKept b c) : JudgedKept a c :=
  ⟨h.toFiringKept.trans k.toFiringKept,
    fun lawful g judged => k.judged (h.lawful lawful) g (h.judged lawful g judged)⟩

theorem LawsKept.foldl {α : Type} {f : State → α → State} (xs : List α)
    (each : ∀ x ∈ xs, ∀ s, LawsKept s (f s x)) (s : State) : LawsKept s (xs.foldl f s) := by
  induction xs generalizing s with
  | nil => exact .refl s
  | cons x xs ih =>
    exact (each x List.mem_cons_self s).trans (ih (fun y later => each y (List.mem_cons_of_mem _ later)) _)

/-! ## Changes outside the groups -/

/-- A change outside the groups and their orders: a PLANNED record was one before, or is a NORMAL one of a group that
fires; a record of another kind than TEST had one before it, or is of an active group; no bypass begins to wait. -/
structure Changes (s t : State) : Prop where
  groups : t.groups = s.groups
  order : t.olp.order = s.olp.order
  planned : ∀ r ∈ t.fsc.records, r.state = .planned →
    (∃ x ∈ s.fsc.records, x.valve = r.valve ∧ x.state = .planned ∧ x.isNormal = r.isNormal) ∨
      r.isNormal = true ∧ Fires s (valveGroup r.valve)
  regular : ∀ r ∈ t.fsc.records, r.isTest = false →
    (∃ x ∈ s.fsc.records, x.valve = r.valve ∧ x.isTest = false) ∨ Active s (valveGroup r.valve)
  waiting : WaitsWithin s t

/-- A group that fires with sound valves keeps them sound. -/
def SoundKept (s t : State) (g : Group) : Prop := Fires s g → Sound s g → Sound t g

theorem SoundKept.of_only {bs : List Block} {s t : State} (only : Only bs s t) (rgm : Block.rgm ∉ bs)
    (lvm : Block.lvm ∉ bs) (tbs : Block.tbs ∉ bs) (g : Group) : SoundKept s t g := by
  intro _ sound v own
  rw [valveEnrolled, stationOf, positionOf, only.tbs tbs, only.rgm rgm, only.lvm lvm]
  exact sound v own

theorem valveEnrolled_iff {s : State} {v : Valve} : valveEnrolled s v = true ↔
    ∃ p, positionOf s v = some p ∧ s.rgm.stations[p].state = .enrolled := by
  unfold valveEnrolled stationOf
  cases positionOf s v <;> simp

/-- Stations that were ENROLLED, and valves that were not OVER_LIMIT, stay so. -/
theorem SoundKept.of_stations {s t : State} {g : Group} (station : t.tbs.station = s.tbs.station)
    (enrolled : ∀ v p, valveGroup v = g → positionOf s v = some p →
      s.rgm.stations[p].state = .enrolled → t.rgm.stations[p].state = .enrolled)
    (levels : ∀ v, valveGroup v = g → s.lvm.levels[v].state ≠ .overLimit →
      t.lvm.levels[v].state ≠ .overLimit) : SoundKept s t g := by
  intro _ sound v own
  obtain ⟨serves, below⟩ := sound v own
  obtain ⟨p, position, state⟩ := valveEnrolled_iff.mp serves
  refine ⟨valveEnrolled_iff.mpr ⟨p, ?_, enrolled v p own position state⟩, levels v own below⟩
  rw [positionOf, station]
  exact position

section
variable {s t : State} (changes : Changes s t)
include changes

theorem Changes.fires (g : Group) : Fires t g ↔ Fires s g := by
  rw [Fires, changes.groups, Fires]

theorem Changes.active (g : Group) (active : Active s g) : Active t g := by
  rw [Active, changes.fires, changes.groups]
  exact active

/-- A group in a state that is not active has no record of another kind than TEST that it had not before. -/
theorem Changes.groupBusy {g : Group} (idle : s.groupBusy g = false) (inactive : ¬ Active s g) :
    t.groupBusy g = false := by
  refine (groupBusy_eq_false_iff t g).mpr fun r live own => ?_
  by_contra other
  rcases changes.regular r live (Bool.eq_false_iff.mpr other) with ⟨x, old, valve, regular⟩ | active
  · have test := (groupBusy_eq_false_iff s g).mp idle x old (valve ▸ own)
    exact Bool.false_ne_true (regular.symm.trans test)
  · exact inactive (own ▸ active)

theorem Changes.tended {g : Group} (tended : Tended s g) : Tended t g := by
  refine ⟨fun blocked => ?_, fun v own waits => ?_⟩
  · rw [changes.groups] at blocked
    exact changes.groupBusy (tended.idle blocked) fun active => active.not_blocked blocked
  · rw [changes.groups]
    exact tended.waits v own (changes.waiting v waits)

theorem Changes.obeys {g : Group} (obeys : Obeys s g) : Obeys t g := by
  refine ⟨fun blocked => ?_, fun fires => ?_⟩
  · rw [changes.order]
    exact obeys.blocked (changes.groups ▸ blocked)
  · rw [changes.order]
    exact obeys.firing ((changes.fires g).mp fires)

theorem Changes.serves {g : Group} (sound : SoundKept s t g) (serves : Serves s g) : Serves t g :=
  fun fires => sound ((changes.fires g).mp fires) (serves ((changes.fires g).mp fires))

theorem Changes.fits {g : Group} (sound : SoundKept s t g) (fits : GroupFits s g) : GroupFits t g := by
  obtain ⟨tended, serves, obeys⟩ := (groupFits_iff s g).mp fits
  exact (groupFits_iff t g).mpr ⟨changes.tended tended, changes.serves sound serves, changes.obeys obeys⟩

theorem Changes.plannedFits (fits : PlannedFits s) : PlannedFits t := by
  intro r live planned
  show _ ∧ Fires t (valveGroup r.valve)
  rw [changes.fires]
  rcases changes.planned r live planned with ⟨x, old, valve, state, normal⟩ | new
  · obtain ⟨regular, fires⟩ := fits x old state
    exact ⟨normal ▸ regular, valve ▸ fires⟩
  · exact new

theorem Changes.held (held : GroupsHeld s) : GroupsHeld t := by
  rw [GroupsHeld, changes.groups]
  exact held

theorem Changes.judged {g : Group} (judged : Judged s g) : Judged t g := by
  have inactive {x : GroupState} (state : s.groups[g].state = x) (deblocking : x ≠ .deblocking)
      (running : x ≠ .running) (tripped : x ≠ .tripped) : ¬ Active s g := fun active =>
    active.elim (not_fires_of state deblocking running) fun trip => tripped (state.symm.trans trip)
  refine ⟨fun stopping => ?_, fun bypassing block untimed => ?_⟩
  · rw [changes.groups] at stopping
    exact changes.groupBusy (judged.stopping stopping) (inactive stopping nofun nofun nofun)
  · rw [changes.groups] at bypassing untimed
    rw [changes.order] at block
    exact changes.groupBusy (judged.untimed bypassing block untimed) (inactive bypassing nofun nofun nofun)

theorem Changes.kept (sound : ∀ g, SoundKept s t g) : JudgedKept s t where
  held := changes.held
  planned := changes.plannedFits
  fits lawful g := changes.fits (sound g) (lawful.groups g)
  active _ g := changes.active g
  judged _ _ := changes.judged

end

theorem Changes.of_fsc {s t : State} (groups : t.groups = s.groups) (order : t.olp.order = s.olp.order)
    (records : t.fsc.records = s.fsc.records) (waiting : t.fsc.waiting = s.fsc.waiting) : Changes s t where
  groups := groups
  order := order
  planned r live planned := .inl ⟨r, records ▸ live, rfl, planned, rfl⟩
  regular r live regular := .inl ⟨r, records ▸ live, rfl, regular⟩
  waiting := .of_waiting waiting

/-- The parts that the laws speak of. -/
abbrev lawBlocks : List Block := [.fsc, .rgm, .lvm, .groups, .order, .tbs]

/-- An operation outside those parts keeps the laws. -/
theorem Only.lawsKept {bs : List Block} {s t : State} (only : Only bs s t)
    (apart : ∀ b ∈ lawBlocks, b ∉ bs) : JudgedKept s t := by
  have fsc := only.fsc (apart _ (by decide))
  refine (Changes.of_fsc (only.groups (apart _ (by decide))) (only.orders_stand (apart _ (by decide))).1.1
    (congrArg Fsc.records fsc) (congrArg Fsc.waiting fsc)).kept ?_
  exact .of_only only (apart _ (by decide)) (apart _ (by decide)) (apart _ (by decide))

/-- An operation of the Fire Schedule keeps the laws by what it does to the records and the waiting bypasses. -/
theorem Only.changes {bs : List Block} {s t : State} (only : Only bs s t) (groups : Block.groups ∉ bs)
    (order : Block.order ∉ bs)
    (planned : ∀ r ∈ t.fsc.records, r.state = .planned →
      (∃ x ∈ s.fsc.records, x.valve = r.valve ∧ x.state = .planned ∧ x.isNormal = r.isNormal) ∨
        r.isNormal = true ∧ Fires s (valveGroup r.valve))
    (regular : ∀ r ∈ t.fsc.records, r.isTest = false →
      (∃ x ∈ s.fsc.records, x.valve = r.valve ∧ x.isTest = false) ∨ Active s (valveGroup r.valve))
    (waiting : WaitsWithin s t) : Changes s t :=
  ⟨only.groups groups, (only.orders_stand order).1.1, planned, regular, waiting⟩

/-- An operation of the Ring Master keeps the laws when it keeps the ENROLLED stations. -/
theorem Only.lawsKept_of_stations {bs : List Block} {s t : State} (only : Only bs s t)
    (apart : ∀ b ∈ [Block.fsc, .lvm, .groups, .order, .tbs], b ∉ bs)
    (enrolled : ∀ p : RingPos, s.rgm.stations[p].state = .enrolled → t.rgm.stations[p].state = .enrolled) :
    JudgedKept s t := by
  have fsc := only.fsc (apart _ (by decide))
  refine (Changes.of_fsc (only.groups (apart _ (by decide))) (only.orders_stand (apart _ (by decide))).1.1
    (congrArg Fsc.records fsc) (congrArg Fsc.waiting fsc)).kept fun g => ?_
  refine .of_stations (congrArg Tbs.station (only.tbs (apart _ (by decide)))) (fun _ p _ _ => enrolled p) ?_
  rw [only.lvm (apart _ (by decide))]
  exact fun _ _ => id

/-! ## Events at the groups -/

theorem groupEvent_groupsFit {s : State} {g : Group} {e : GroupEvent} (groups : GroupsFit s)
    (fits : GroupFits (groupEvent s g e) g) : GroupsFit (groupEvent s g e) := by
  intro h
  by_cases own : h = g
  · exact own ▸ fits
  · exact (groupEvent_undisturbed s e own).fits (groups h)

/-- An event that is handed to a group keeps the laws; the records-ended notice needs a judged group. -/
theorem groupEvent_lawsKept (s : State) (g : Group) {e : GroupEvent} (other : e ≠ .recordsEnded) :
    LawsKept s (groupEvent s g e) where
  held := groupEvent_groupsHeld g e
  planned := groupEvent_plannedFits g e
  fits lawful := by
    obtain ⟨tended, serves, -⟩ := (groupFits_iff s g).mp (lawful.groups g)
    refine groupEvent_groupsFit lawful.groups (groupEvent_fits tended (.inl serves) (fun same => absurd same other) ?_)
    exact fun _ tripped => lawful.planned.nonePlanned (not_fires_of tripped nofun nofun)

theorem bothGroups_lawsKept (s : State) {e : GroupEvent} (other : e ≠ .recordsEnded) :
    LawsKept s (bothGroups s e) :=
  (groupEvent_lawsKept s 0 other).trans (groupEvent_lawsKept _ 1 other)

/-- A change that harms the valves of one group, which is told that a station left ENROLLED or a valve became
OVER_LIMIT (R137, R151). -/
theorem Changes.lawsKept_of_event {s t : State} {g : Group} {e : GroupEvent} (changes : Changes s t)
    (sound : ∀ h, h ≠ g → SoundKept s t h) (harm : e = .stationFault ∨ e = .levelLimit) :
    LawsKept s (groupEvent t g e) where
  held held := groupEvent_groupsHeld g e (changes.held held)
  planned planned := groupEvent_plannedFits g e (changes.plannedFits planned)
  fits lawful h := by
    by_cases own : h = g
    · subst own
      obtain ⟨tended, -, -⟩ := (groupFits_iff s h).mp (lawful.groups h)
      refine groupEvent_fits (changes.tended tended) (.inr harm) ?_ ?_
      · rintro rfl
        rcases harm with harm | harm <;> cases harm
      · rintro rfl
        rcases harm with harm | harm <;> cases harm
    · exact (groupEvent_undisturbed t e own).fits (changes.fits (sound h own) (lawful.groups h))

/-- An event that ensues on a removed record, at a group that is judged if the event is the records-ended notice. -/
theorem groupEvent_lawful_of_ensues {s : State} {g : Group} {e : GroupEvent} (ensues : Ensues e) (lawful : Lawful s)
    (judged : e = .recordsEnded → Judged s g) : Lawful (groupEvent s g e) ∧
      (∀ h, Active s h → Active (groupEvent s g e) h) ∧ (Judged s g → Judged (groupEvent s g e) g) := by
  obtain ⟨fits, stays, keeps⟩ := groupEvent_ensues ensues (lawful.groups g) judged
  refine ⟨⟨groupEvent_plannedFits g e lawful.planned, groupEvent_groupsFit lawful.groups fits⟩, fun h active => ?_, stays⟩
  by_cases own : h = g
  · subst own
    exact keeps active
  · have same := groupEvent_undisturbed s e own
    rw [Active, same.fires, same.group]
    exact active

theorem Undisturbed.judged {h : Group} {s t : State} (same : Undisturbed h s t) (judged : Judged s h) :
    Judged t h := by
  have idle (calm : s.groupBusy h = false) : t.groupBusy h = false :=
    (groupBusy_eq_false_iff t h).mpr fun r mem own =>
      (groupBusy_eq_false_iff s h).mp calm r (same.records r mem own) own
  refine ⟨fun stopping => idle (judged.stopping (same.group ▸ stopping)), fun bypassing block untimed => ?_⟩
  rw [same.group] at bypassing untimed
  rw [same.order] at block
  exact idle (judged.untimed bypassing block untimed)

theorem repeatedCf_judgedKept (s : State) (g : Group) : JudgedKept s (groupEvent s g .repeatedCf) where
  toLawsKept := groupEvent_lawsKept s g nofun
  active lawful := (groupEvent_lawful_of_ensues (.inr (.inr rfl)) lawful nofun).2.1
  judged lawful h judged := by
    by_cases own : h = g
    · subst own
      exact (groupEvent_lawful_of_ensues (.inr (.inr rfl)) lawful nofun).2.2 judged
    · exact (groupEvent_undisturbed s _ own).judged judged

/-- Notices of one group, of which the records-ended notice comes to a judged group. -/
theorem giveNotices_lawful {g : Group} (ns : Notices) {s : State} (own : ∀ e ∈ ns, e.1 = g ∧ Ensues e.2)
    (lawful : Lawful s) (ended : (g, GroupEvent.recordsEnded) ∈ ns → Judged s g) :
    Lawful (giveNotices s ns) ∧ ∀ h, Active s h → Active (giveNotices s ns) h := by
  induction ns generalizing s with
  | nil => exact ⟨lawful, fun _ => id⟩
  | cons e rest ih =>
    obtain ⟨h, e⟩ := e
    obtain ⟨rfl, ensues⟩ := own _ List.mem_cons_self
    obtain ⟨kept, active, judged⟩ := groupEvent_lawful_of_ensues ensues lawful
      fun same => ended (same ▸ List.mem_cons_self)
    obtain ⟨later, stays⟩ := ih (fun x mem => own x (List.mem_cons_of_mem _ mem)) kept
      fun mem => judged (ended (List.mem_cons_of_mem _ mem))
    exact ⟨later, fun i held => stays i (active i held)⟩

theorem giveNotices_held (ns : Notices) {s : State} (held : GroupsHeld s) : GroupsHeld (giveNotices s ns) :=
  List.foldlRecOn ns _ (motive := GroupsHeld) held fun _ kept e _ => groupEvent_groupsHeld e.1 e.2 kept

theorem giveNotices_plannedFits (ns : Notices) {s : State} (fits : PlannedFits s) :
    PlannedFits (giveNotices s ns) :=
  List.foldlRecOn ns _ (motive := PlannedFits) fits fun _ kept e _ => groupEvent_plannedFits e.1 e.2 kept

end Sys2Proof.Machine
end

section
/-! PROOFS. The operations of the Fire Schedule and of the Extinction Monitor keep the laws of the groups and of
PLANNED records. -/

namespace Sys2Proof.Machine

/-! ## Records that come of live records -/

/-- `r` comes of the record `x`: the same valve and kind, and PLANNED only if `x` was. -/
structure Derives (x r : FireRecord) : Prop where
  valve : x.valve = r.valve
  normal : x.isNormal = r.isNormal
  test : x.isTest = r.isTest
  state : r.state = .planned → x.state = .planned

theorem Derives.refl (r : FireRecord) : Derives r r := ⟨rfl, rfl, rfl, id⟩

theorem SameFiring.derives {x r : FireRecord} (same : SameFiring x r)
    (state : r.state = .planned → x.state = .planned) : Derives x r :=
  ⟨same.valve.symm, by rw [FireRecord.isNormal, FireRecord.isNormal, same.body],
    by rw [FireRecord.isTest, FireRecord.isTest, same.body], state⟩

theorem Changes.of_derived {s t : State} (groups : t.groups = s.groups) (order : t.olp.order = s.olp.order)
    (records : ∀ r ∈ t.fsc.records, ∃ x ∈ s.fsc.records, Derives x r) (waiting : WaitsWithin s t) :
    Changes s t := by
  refine ⟨groups, order, fun r live planned => ?_, fun r live regular => ?_, waiting⟩
  · obtain ⟨x, old, derives⟩ := records r live
    exact .inl ⟨x, old, derives.valve, derives.state planned, derives.normal⟩
  · obtain ⟨x, old, derives⟩ := records r live
    exact .inl ⟨x, old, derives.valve, derives.test.trans regular⟩

/-- An operation outside the groups whose records all come of earlier ones keeps the laws. -/
theorem Only.lawsKept_of_records {bs : List Block} {s t : State} (only : Only bs s t)
    (apart : ∀ b ∈ [Block.rgm, .lvm, .groups, .order, .tbs], b ∉ bs)
    (records : ∀ r ∈ t.fsc.records, ∃ x ∈ s.fsc.records, Derives x r) (waiting : WaitsWithin s t) :
    JudgedKept s t :=
  (Changes.of_derived (only.groups (apart _ (by decide))) (only.orders_stand (apart _ (by decide))).1.1
    records waiting).kept (.of_only only (apart _ (by decide)) (apart _ (by decide)) (apart _ (by decide)))

theorem closeRecord_judgedKept (s : State) (r : FireRecord) (o : RecordOutcome) :
    JudgedKept s (closeRecord s r o) := by
  refine (closeRecord_only s r o).lawsKept_of_records (by decide) (fun x live => ?_)
    (.of_waiting (closeRecord_waiting s r o))
  rw [closeRecord_records] at live
  exact ⟨x, List.mem_of_mem_erase live, .refl x⟩

theorem State.putRecord_judgedKept (s : State) {r r' : FireRecord} (derives : Derives r r') :
    JudgedKept s (s.putRecord r r') := by
  refine (Changes.of_derived (s := s) (t := s.putRecord r r') rfl rfl (fun x live => ?_) (.of_waiting rfl)).kept
    fun _ _ => id
  rcases mem_replaceFirst_of live with ⟨rfl, old⟩ | old
  · exact ⟨r, old, derives⟩
  · exact ⟨x, old, .refl x⟩

/-! ## Protective revision (R49, R50) -/

theorem revisedRecord_derives {s : State} {r : FireRecord} {n : NormalPart} (body : r.body = .normal n)
    (due : Time) (alpha : Int) : Derives r (revisedRecord s r n due alpha) :=
  ⟨rfl, by simp [FireRecord.isNormal, revisedRecord, body], by simp [FireRecord.isTest, revisedRecord, body], id⟩

theorem noteFloor_fsc (s : State) (x : StageResult) : (noteFloor s x).fsc = s.fsc := by
  unfold noteFloor
  split <;> rfl

theorem offerRevision_records {s : State} {r : FireRecord} {n : NormalPart} (body : r.body = .normal n)
    (due : Time) (alpha : Int) :
    (∀ x ∈ (offerRevision s r n due alpha).fsc.records, x ∈ s.fsc.records ∨ Derives r x) ∧
      (offerRevision s r n due alpha).fsc.waiting = s.fsc.waiting := by
  unfold offerRevision
  split
  · split
    · refine ⟨fun x live => ?_, rfl⟩
      rcases (mem_insertBy _ _ _ _).mp live with rfl | old
      · exact .inr (revisedRecord_derives body due alpha)
      · exact .inl (List.mem_of_mem_erase old)
    · exact ⟨fun _ => .inl, rfl⟩
  · exact ⟨fun _ => .inl, rfl⟩

theorem reviseOne_derives (s : State) (r : FireRecord) :
    (∀ x ∈ (reviseOne s r).fsc.records, x ∈ s.fsc.records ∨ Derives r x) ∧
      (reviseOne s r).fsc.waiting = s.fsc.waiting := by
  unfold reviseOne
  split
  case h_1 n body =>
    have offered := offerRevision_records (s := noteFloor s (revisedStages s r.valve n.inputs)) body
      (revisedDue s r.valve n.inputs (revisedStages s r.valve n.inputs).alphaEff)
      (revisedStages s r.valve n.inputs).alphaEff
    rw [noteFloor_fsc] at offered
    exact offered
  all_goals exact ⟨fun _ => .inl, rfl⟩

theorem foldl_reviseOne_derives (old rs : List FireRecord) {s : State} (within : ∀ r ∈ rs, r ∈ old)
    (records : ∀ x ∈ s.fsc.records, ∃ y ∈ old, Derives y x) :
    (∀ x ∈ (rs.foldl reviseOne s).fsc.records, ∃ y ∈ old, Derives y x) ∧
      (rs.foldl reviseOne s).fsc.waiting = s.fsc.waiting := by
  induction rs generalizing s with
  | nil => exact ⟨records, rfl⟩
  | cons r rs ih =>
    obtain ⟨derived, waiting⟩ := reviseOne_derives s r
    have later := ih (s := reviseOne s r) (fun x mem => within x (List.mem_cons_of_mem _ mem)) fun x live =>
      (derived x live).elim (records x) fun revised => ⟨r, within r List.mem_cons_self, revised⟩
    exact ⟨later.1, later.2.trans waiting⟩

theorem revise_judgedKept (s : State) (c : Scope) : JudgedKept s (revise s c) := by
  have derived := foldl_reviseOne_derives s.fsc.records
    (s.fsc.records.filter fun r => r.isNormal && decide (r.state = .planned) && c.has r.valve) (s := s)
    (fun r mem => (List.mem_filter.mp mem).1) fun x live => ⟨x, live, .refl x⟩
  exact (revise_only s c).lawsKept_of_records (by decide) derived.1 (.of_waiting derived.2)

/-! ## The Extinction Monitor (R118 to R126) -/

theorem noteFailure_only (s : State) (g : Group) : Only [.exm, .sticky] s (noteFailure s g) :=
  .trans (.of (s.setExm_only _) rfl) (.of (State.setFlag_only _ _) rfl)

theorem declareFailure_judgedKept (s : State) (g : Group) : JudgedKept s (declareFailure s g) := by
  have revised : JudgedKept s (revise (noteFailure s g) (.group g)) :=
    ((noteFailure_only s g).lawsKept (by decide)).trans (revise_judgedKept _ _)
  unfold declareFailure
  dsimp only
  split
  · exact revised.trans (repeatedCf_judgedKept _ g)
  · exact revised

theorem deadlineEvent_judgedKept (s : State) (v : Valve) (p : PendingExtinction) :
    JudgedKept s (deadlineEvent s v p) := by
  unfold deadlineEvent
  split
  · exact ((s.setPending_only v _).lawsKept (by decide)).trans (declareFailure_judgedKept _ _)
  · exact (s.setPending_only v none).lawsKept (by decide)

theorem openExtinction_judgedKept (s : State) (v : Valve) (seq : Byte) (reversal : Time) :
    JudgedKept s (openExtinction s v seq reversal) := by
  unfold openExtinction
  dsimp only
  split
  · exact ((s.setPending_only v _).lawsKept (by decide)).trans (deadlineEvent_judgedKept _ _ _)
  · exact (s.setPending_only v _).lawsKept (by decide)

theorem raiseCorrection_judgedKept (s : State) (b : Bridge) (x : Int) :
    JudgedKept s (raiseCorrection s b x) := by
  unfold raiseCorrection
  dsimp only
  split
  · exact ((s.setCorrection_only b _).lawsKept (by decide)).trans (revise_judgedKept _ _)
  · exact .refl s

theorem steerByGamma_judgedKept (s : State) (v : Valve) (gamma : Int) :
    JudgedKept s (steerByGamma s v gamma) := by
  have measured : JudgedKept s (addMeasurement s (valveGroup v) gamma) := (s.setExm_only _).lawsKept (by decide)
  unfold steerByGamma
  dsimp only
  split
  · exact measured.trans (declareFailure_judgedKept _ _)
  · split
    · exact measured.trans (raiseCorrection_judgedKept _ _ _)
    · exact measured.trans ((State.setCorrection_only _ _ _).lawsKept (by decide))

theorem onTimeMeasurement_judgedKept (s : State) (v : Valve) (gamma : Int) :
    JudgedKept s (onTimeMeasurement s v gamma) := by
  have written : JudgedKept s (writeGamma (s.setPending v none) v gamma false) :=
    ((s.setPending_only v none).lawsKept (by decide)).trans ((writeGamma_only _ _ _ _).lawsKept (by decide))
  unfold onTimeMeasurement
  dsimp only
  split
  · exact written.trans (steerByGamma_judgedKept _ _ _)
  · exact written

theorem countDiscard_judgedKept (s : State) : JudgedKept s s.countDiscard :=
  (s.setExm_only _).lawsKept (by decide)

theorem extinctionReport_judgedKept (s : State) (v : Valve) (d : Half) (seq : Byte) (t : Time) :
    JudgedKept s (extinctionReport s v d seq t) := by
  unfold extinctionReport
  split
  · exact countDiscard_judgedKept s
  · split
    · dsimp only
      split
      · exact (lateMeasurement_only s v _).lawsKept (by decide)
      · exact onTimeMeasurement_judgedKept _ _ _
    · exact countDiscard_judgedKept s

theorem openIfMeasured_judgedKept (s : State) (r : FireRecord) (o : RecordOutcome) :
    JudgedKept s (openIfMeasured s r o) := by
  unfold openIfMeasured
  split
  · split
    · exact openExtinction_judgedKept _ _ _ _
    · exact .refl s
  all_goals exact .refl s

/-! ## Waiting bypasses are tried again (R68, R71) -/

/-- A waiting bypass is of a group in BYPASSING or TRIPPED, where no record is out of place. -/
theorem retryOne_firingKept (s : State) (v : Valve) : FiringKept s (retryOne s v) := by
  unfold retryOne
  split
  · next waits =>
    have only := tryBypass_only s v
    have groups := only.groups (by decide)
    have fires (g : Group) : Fires (tryBypass s v) g ↔ Fires s g := by rw [Fires, groups, Fires]
    refine ⟨⟨fun held => ?_, ?_, fun lawful g => ?_⟩, fun _ g active => ?_⟩
    · rw [GroupsHeld, groups]
      exact held
    · exact plannedFits_of (GroupSteps.planned (GroupStep.bypass s v).steps) fun g firing => .inl ((fires g).mpr firing)
    · by_cases own : g = valveGroup v
      · have apart := ((groupFits_iff s g).mp (lawful.groups g)).1.waits v own.symm waits
        exact groupFits_of_apart (by rwa [groups])
      · have spares := tryBypass_sparesOthers s v
        refine Undisturbed.fits ⟨by rw [groups], fun r mem at_ => spares.records r mem (at_ ▸ own),
          fun w at_ => spares.waiting w (at_ ▸ own), only.rgm (by decide), only.lvm (by decide),
          only.tbs (by decide), (only.orders_stand (by decide)).1.1⟩ (lawful.groups g)
    · rw [Active, fires, groups]
      exact active
  · exact .refl s

theorem FiringKept.foldl {α : Type} {f : State → α → State} (xs : List α)
    (each : ∀ x s, FiringKept s (f s x)) (s : State) : FiringKept s (xs.foldl f s) := by
  induction xs generalizing s with
  | nil => exact .refl s
  | cons x xs ih => exact (each x s).trans (ih _)

theorem retryWaiting_firingKept (s : State) (v : Valve) : FiringKept s (retryWaiting s v) :=
  .foldl _ (fun w t => retryOne_firingKept t w) s

/-! ## Outcomes and instants of records (R65 to R74) -/

/-- What a removed record hands to its group: the records-ended notice comes to a group without records. -/
theorem handedOn_firingKept (s : State) (r : FireRecord) (o : RecordOutcome) :
    FiringKept s (giveNotices (openIfMeasured s r o) (noticesOf s r o)) := by
  have opened := openIfMeasured_judgedKept s r o
  have given (lawful : Lawful s) := giveNotices_lawful (g := valveGroup r.valve) (noticesOf s r o)
    (fun e mem => ⟨(noticesOf_fromRemoval s r o e mem).1, .of_fromRemoval (noticesOf_fromRemoval s r o e mem)⟩)
    (opened.lawful lawful) fun ended => opened.judged lawful _ (.of_idle (noticesOf_recordsEnded ended).2)
  exact ⟨⟨fun held => giveNotices_held _ (opened.held held), fun fits => giveNotices_plannedFits _ (opened.planned fits),
    fun lawful => (given lawful).1.groups⟩, fun lawful g active => (given lawful).2 g (opened.active lawful g active)⟩

theorem finish_firingKept (s : State) (r : FireRecord) (o : RecordOutcome) : FiringKept s (finish s r o) :=
  (closeRecord_judgedKept s r o).toFiringKept.trans
    ((handedOn_firingKept _ r o).trans (retryWaiting_firingKept _ _))

theorem State.putRecord_firingKept (s : State) {r r' : FireRecord} (same : SameFiring r r')
    (state : r'.state = .planned → r.state = .planned) : FiringKept s (s.putRecord r r') :=
  (s.putRecord_judgedKept (same.derives state)).toFiringKept

/-- A counter of the Fire Schedule is written. -/
theorem State.setFsc_firingKept (s t : State) (rest : t = s.setFsc t.fsc) (records : t.fsc.records = s.fsc.records)
    (waiting : t.fsc.waiting = s.fsc.waiting) : FiringKept s t := by
  rw [rest]
  exact ((Changes.of_fsc (s := s) (t := s.setFsc t.fsc) rfl rfl records waiting).kept fun _ _ => id).toFiringKept

theorem latenessEvent_firingKept (s : State) (r : FireRecord) : FiringKept s (latenessEvent s r) := by
  have marked : FiringKept s (s.putRecord r (afterLateness s r)) :=
    s.putRecord_firingKept (afterLateness_same s r) id
  unfold latenessEvent
  dsimp only
  split
  · exact marked.trans (State.setFsc_firingKept _ _ rfl rfl rfl)
  · exact marked

theorem countUnconfirmed_finish_firingKept (s : State) (r : FireRecord) (o : RecordOutcome) :
    FiringKept s (finish s.countUnconfirmed r o) :=
  (s.setFsc_firingKept s.countUnconfirmed rfl rfl rfl).trans (finish_firingKept _ r o)

theorem confirmEvent_firingKept (s : State) (r : FireRecord) : FiringKept s (confirmEvent s r) := by
  have missed : FiringKept s
      (finish (if r.isRegular then s.countFireMissed.setFlag .fireMissed else s) r .missed) := by
    refine .trans ?_ (finish_firingKept _ r .missed)
    split
    · exact (s.setFsc_firingKept s.countFireMissed rfl rfl rfl).trans
        ((State.setFlag_only _ _).lawsKept (by decide)).toFiringKept
    · exact .refl s
  have taken : FiringKept s (s.putRecord r { r with confirmAt := none }) :=
    s.putRecord_firingKept ⟨rfl, rfl, rfl⟩ id
  unfold confirmEvent
  split
  case h_4 => exact countUnconfirmed_finish_firingKept s r _
  case h_5 | h_6 => exact taken
  all_goals exact missed

theorem holdEvent_firingKept (s : State) (r : FireRecord) : FiringKept s (holdEvent s r) := by
  refine s.putRecord_firingKept ⟨rfl, rfl, rfl⟩ ?_
  dsimp only
  split
  · nofun
  · exact id

theorem releaseTimeoutEvent_firingKept (s : State) (r : FireRecord) : FiringKept s (releaseTimeoutEvent s r) := by
  unfold releaseTimeoutEvent
  split
  · exact countUnconfirmed_finish_firingKept s r _
  · exact s.putRecord_firingKept ⟨rfl, rfl, rfl⟩ id

theorem takeInstant_lawsKept {s : State} {v : Valve} {instant : FireRecord → Option Time}
    {event : State → FireRecord → State} (taken : ∀ s r, FiringKept s (event s r)) :
    LawsKept s (takeInstant s v instant event) := by
  unfold takeInstant
  split
  · exact .refl s
  · exact (taken s _).toLawsKept

theorem confirmAtArming_firingKept (s : State) (r : FireRecord) : FiringKept s (confirmAtArming s r) := by
  unfold confirmAtArming
  split
  · exact confirmEvent_firingKept s r
  · exact .refl s

theorem placeRecord_firingKept (s : State) (r : FireRecord) :
    FiringKept (s.addRecord r) (placeRecord s r) := by
  unfold placeRecord
  split
  · exact (latenessEvent_firingKept _ r).trans (confirmAtArming_firingKept _ _)
  · exact confirmAtArming_firingKept _ r

/-! ## What the station reports (R63 to R66) -/

theorem ackEvent_firingKept (s : State) (r : FireRecord) (n : BitVec 16) : FiringKept s (ackEvent s r n) := by
  unfold ackEvent
  split
  case h_1 =>
    refine s.putRecord_firingKept ⟨rfl, rfl, rfl⟩ ?_
    dsimp only
    split <;> nofun
  case h_2 | h_3 =>
    split
    · exact finish_firingKept s r _
    · exact .refl s
  all_goals exact .refl s

theorem takeAck_firingKept (v : Valve) (n : BitVec 16) (s : State) (seq : Byte) :
    FiringKept s (takeAck v n s seq) := by
  unfold takeAck
  split
  · exact .refl s
  · exact ackEvent_firingKept s _ n

theorem firedEvent_firingKept (s : State) (r : FireRecord) (stamp : Time) : FiringKept s (firedEvent s r stamp) := by
  have stamped : FiringKept s ((if deviates s r stamp then s.countTimingDeviation else s).putRecord
      r { r with firedStamp := some stamp }) := by
    refine .trans ?_ (State.putRecord_firingKept _ ⟨rfl, rfl, rfl⟩ id)
    split
    · exact s.setFsc_firingKept _ rfl rfl rfl
    · exact .refl s
  unfold firedEvent
  dsimp only
  split
  · exact stamped
  · exact stamped.trans (finish_firingKept _ _ _)

theorem takeFired_firingKept (v : Valve) (d : Half) (s : State) (x : Byte × Time) :
    FiringKept s (takeFired v d s x) := by
  unfold takeFired
  split
  · exact .refl s
  · exact firedEvent_firingKept s _ _

/-! ## Records are placed (R44, R46, R74) -/

theorem State.addRecord_changes {s : State} {r : FireRecord}
    (planned : r.state = .planned → r.isNormal = true ∧ Fires s (valveGroup r.valve))
    (regular : r.isTest = false → Active s (valveGroup r.valve)) : Changes s (s.addRecord r) where
  groups := rfl
  order := rfl
  planned x live state := by
    rcases (mem_insertBy _ _ _ _).mp live with rfl | old
    · exact .inr (planned state)
    · exact .inl ⟨x, old, rfl, state, rfl⟩
  regular x live other := by
    rcases (mem_insertBy _ _ _ _).mp live with rfl | old
    · exact .inr (regular other)
    · exact .inl ⟨x, old, rfl, other⟩
  waiting := .of_waiting rfl

theorem placeTest_lawsKept (s : State) (v : Valve) : LawsKept s (placeTest s v) :=
  (((State.addRecord_changes (s := s)
    (r := newTest s.tbs.ring v s.placingDue (holdWidth s.pru.period))
    nofun nofun).kept fun _ _ => id).toFiringKept.trans (placeRecord_firingKept s _)).toLawsKept

end Sys2Proof.Machine
end

section
/-! PROOFS. Planning instants, cycle markers and edges keep the laws of the groups and of PLANNED records. -/

namespace Sys2Proof.Machine

/-! ## Planning (R36, R44, R46) -/

theorem fires_of_planningRuns {s : State} {g : Group} (runs : planningRuns s g = true) : Fires s g :=
  ((planningRuns_iff s g).mp runs).1

theorem State.addRecord_plannedFits {s : State} {r : FireRecord} (other : r.state ≠ .planned)
    (fits : PlannedFits s) : PlannedFits (s.addRecord r) := by
  refine plannedFits_of (s := s) (fun x live planned => ?_) (fun g fires => .inl fires) fits
  rcases (mem_insertBy _ _ _ _).mp live with rfl | old
  · exact absurd planned other
  · exact old

section
variable (s : State) (v : Valve) (due : Time) (hold : Nat)

theorem placeStart_held (held : GroupsHeld s) : GroupsHeld (placeStart s v due hold) := by
  unfold placeStart
  split
  · exact (placeRecord_firingKept s _).held held
  · exact held

theorem placeStart_plannedFits (fits : PlannedFits s) : PlannedFits (placeStart s v due hold) := by
  unfold placeStart
  split
  · exact (placeRecord_firingKept s _).planned (State.addRecord_plannedFits nofun fits)
  · exact fits

/-- A START record is placed at a group that fires, or that the placing before it has tripped. -/
theorem placeStart_lawsKept (active : Active s (valveGroup v)) : LawsKept s (placeStart s v due hold) := by
  unfold placeStart
  split
  · have added : Changes s (s.addRecord (newStart s.tbs.ring v due hold)) :=
      State.addRecord_changes nofun fun _ => active
    exact ((added.kept fun _ _ => id).toFiringKept.trans (placeRecord_firingKept s _)).toLawsKept
  · exact ((refuseRecord_only s).lawsKept (by decide)).toLawsKept

theorem clearStartPending_changes (b : Bridge) : Changes s (clearStartPending s b) := .of_fsc rfl rfl rfl rfl

theorem issueStart_held (held : GroupsHeld s) : GroupsHeld (issueStart s v due hold) := by
  unfold issueStart
  split
  · exact placeStart_held _ _ due hold held
  · exact held

theorem issueStart_plannedFits (fits : PlannedFits s) : PlannedFits (issueStart s v due hold) := by
  unfold issueStart
  split
  · exact placeStart_plannedFits _ _ due hold fits
  · exact fits

theorem issueStart_lawsKept (active : Active s (valveGroup v)) : LawsKept s (issueStart s v due hold) := by
  unfold issueStart
  split
  · have cleared := clearStartPending_changes s (valveBridge v)
    refine (cleared.kept fun _ _ => id).toLawsKept.trans (placeStart_lawsKept _ _ due hold ?_)
    rw [predecessor_group]
    exact cleared.active _ active
  · exact .refl s

end

/-- After a change that keeps a firing group active, one that needs it active. -/
theorem LawsKept.of_active {s a t : State} {g : Group} (before : FiringKept s a) (active : Active s g)
    (after : Active a g → LawsKept a t) (held : GroupsHeld a → GroupsHeld t)
    (planned : PlannedFits a → PlannedFits t) : LawsKept s t where
  held h := held (before.held h)
  planned h := planned (before.planned h)
  fits lawful := (after (before.active lawful g active)).fits (before.lawful lawful)

theorem placeNormal_lawsKept {s : State} {v : Valve} (fires : Fires s (valveGroup v)) (i : PlanInputs)
    (x : StageResult) : LawsKept s (placeNormal s v i x) := by
  have added : Changes s (s.addRecord (plannedRecord s v i x.alphaEff)) :=
    State.addRecord_changes (fun _ => ⟨rfl, fires⟩) fun _ => .inl fires
  have placed := (added.kept fun _ _ => id).toFiringKept.trans (placeRecord_firingKept s _)
  have noted := (notePlanned_only (placeRecord s (plannedRecord s v i x.alphaEff)) (valveGroup v)
    x.alphaEff x.limiting).lawsKept (by decide)
  have noticed := (planningNotice_only (notePlanned (placeRecord s (plannedRecord s v i x.alphaEff)) (valveGroup v)
    x.alphaEff x.limiting) (valveGroup v)).lawsKept (by decide)
  exact .of_active (placed.trans (noted.trans noticed).toFiringKept) (.inl fires)
    (issueStart_lawsKept _ v _ _) (issueStart_held _ v _ _) (issueStart_plannedFits _ v _ _)

theorem planValve_lawsKept {s : State} {v : Valve} (fires : Fires s (valveGroup v)) (target : Time) :
    LawsKept s (planValve s v target) := by
  have noted := noteFloor_only s (revisedStages s v (planInputs s v target))
  refine (noted.lawsKept (by decide)).toLawsKept.trans ?_
  show LawsKept _ (offerNormal _ v _ _)
  unfold offerNormal
  split
  · refine placeNormal_lawsKept ?_ _ _
    rw [Fires, noted.groups (by decide)]
    exact fires
  · exact ((refuseRecord_only _).lawsKept (by decide)).toLawsKept

theorem planningEvent_lawsKept (s : State) (v : Valve) (target : Time) :
    LawsKept s (planningEvent s v target) := by
  unfold planningEvent
  split
  · next runs => exact planValve_lawsKept (fires_of_planningRuns runs) target
  · exact .refl s

theorem takePlanning_lawsKept (s : State) (v : Valve) : LawsKept s (takePlanning s v) := by
  unfold takePlanning
  split
  · exact .refl s
  · exact ((s.setPlanning_only v none).lawsKept (by decide)).toLawsKept.trans (planningEvent_lawsKept _ _ _)

theorem takePlannings_lawsKept (s : State) (sel : Planning → Bool) : LawsKept s (takePlannings s sel) :=
  .foldl _ (fun v _ t => takePlanning_lawsKept t v) s

theorem armPlannings_lawsKept (s : State) (t0 : Time) (p : Nat) : LawsKept s (armPlannings s t0 p) :=
  (takePlannings_lawsKept s _).trans (((setPlannings_only _ t0 p).lawsKept (by decide)).toLawsKept.trans
    (takePlannings_lawsKept _ _))

/-! ## Lock states, cycle markers and captures (R15 to R28) -/

theorem State.setPru_lawsKept (s : State) (p : Pru) : LawsKept s (s.setPru p) :=
  ((s.setPru_only p).lawsKept (by decide)).toLawsKept

theorem setLock_lawsKept (s : State) (x : LockState) (lost : Bool) : LawsKept s (setLock s x lost) := by
  unfold setLock
  split
  · exact .refl s
  · exact (s.setPru_lawsKept _).trans (((State.setFlag_only _ _).lawsKept (by decide)).toLawsKept.trans
      (bothGroups_lawsKept _ nofun))

theorem loseLock_lawsKept (s : State) : LawsKept s (loseLock s) :=
  (s.setPru_lawsKept _).trans (setLock_lawsKept _ _ _)

theorem restartPru_lawsKept (s : State) : LawsKept s (restartPru s) :=
  (s.setPru_lawsKept _).trans (setLock_lawsKept _ _ _)

theorem markerEvent_lawsKept (s : State) : LawsKept s (markerEvent s) := by
  rw [markerEvent_eq]
  split
  · exact (s.setPru_lawsKept _).trans (loseLock_lawsKept _)
  · exact (s.setPru_lawsKept _).trans ((armPlannings_lawsKept _ _ _).trans (State.setPru_lawsKept _ _))

theorem runMarkers_lawsKept (fuel : Nat) (s : State) : LawsKept s (runMarkers fuel s) := by
  induction fuel generalizing s with
  | zero => exact .refl s
  | succ fuel ih =>
    unfold runMarkers
    split
    · exact (markerEvent_lawsKept s).trans (ih _)
    · exact .refl s

theorem rearmMarker_lawsKept (s : State) : LawsKept s (rearmMarker s) :=
  (s.setPru_lawsKept _).trans (runMarkers_lawsKept _ _)

theorem rejectAcquiring_lawsKept (s : State) : LawsKept s (rejectAcquiring s) := by
  unfold rejectAcquiring
  dsimp only
  split
  · exact (s.setPru_lawsKept _).trans (loseLock_lawsKept _)
  · exact s.setPru_lawsKept _

theorem State.countGlitch_lawsKept (s : State) : LawsKept s s.countGlitch := s.setPru_lawsKept _

theorem rejectedCapture_lawsKept (s : State) (j : Nat) (t : Time) (e : Int) :
    LawsKept s (rejectedCapture s j t e) := by
  have counted := (s.setPru_lawsKept (addHistory ⟨j, t, e, .rejected⟩ s.pru)).trans (State.countGlitch_lawsKept _)
  unfold rejectedCapture
  dsimp only
  split
  · exact counted.trans (rejectAcquiring_lawsKept _)
  · exact counted

theorem acceptedLock_lawsKept (s : State) (inside : Bool) : LawsKept s (acceptedLock s inside) := by
  have acquired : LawsKept s (acceptAcquiring s) := by
    unfold acceptAcquiring
    dsimp only
    split
    · exact (s.setPru_lawsKept _).trans (setLock_lawsKept _ _ _)
    · exact s.setPru_lawsKept _
  unfold acceptedLock
  split
  case h_1 => exact acquired
  case h_2 => exact s.setPru_lawsKept _
  case h_3 => exact setLock_lawsKept _ _ _
  case h_4 => exact (s.setPru_lawsKept _).trans (setLock_lawsKept _ _ _)
  all_goals exact .refl s

theorem capture_lawsKept (s : State) (j : Nat) (t : Time) : LawsKept s (capture s j t) := by
  unfold capture
  dsimp only
  split
  · exact (s.setPru_lawsKept _).trans ((setLock_lawsKept _ _ _).trans (rearmMarker_lawsKept _))
  · split
    · exact rejectedCapture_lawsKept _ _ _ _
    · exact (s.setPru_lawsKept _).trans ((acceptedLock_lawsKept _ _).trans (rearmMarker_lawsKept _))

theorem takeEdge_lawsKept (s : State) (line : Line) (rising : Bool) : LawsKept s (takeEdge s line rising) := by
  unfold takeEdge
  split
  · exact s.countGlitch_lawsKept
  · exact (s.setPru_lawsKept _).trans (capture_lawsKept _ _ _)

theorem watchEvent_lawsKept (s : State) : LawsKept s (watchEvent s) := by
  have taken := s.setPru_lawsKept { s.pru with watch := none }
  unfold watchEvent
  dsimp only
  split
  · exact taken.trans ((State.setPru_lawsKept _ _).trans (setLock_lawsKept _ _ _))
  · exact taken.trans (loseLock_lawsKept _)
  all_goals exact taken

end Sys2Proof.Machine
end

section
/-! PROOFS. The Level Monitor, enrolment and the Ring Master keep the laws of the groups and of PLANNED records. -/

namespace Sys2Proof.Machine

/-! ## The Level Monitor (R133 to R138) -/

theorem Only.sound {bs : List Block} {s t : State} {g : Group} (only : Only bs s t) (rgm : Block.rgm ∉ bs)
    (lvm : Block.lvm ∉ bs) (tbs : Block.tbs ∉ bs) (sound : Sound s g) : Sound t g := by
  intro v own
  rw [valveEnrolled, stationOf, positionOf, only.tbs tbs, only.rgm rgm, only.lvm lvm]
  exact sound v own

theorem Changes.through {bs : List Block} {s t u : State} (changes : Changes s t) (only : Only bs t u)
    (fsc : Block.fsc ∉ bs) (groups : Block.groups ∉ bs) (order : Block.order ∉ bs) : Changes s u where
  groups := (only.groups groups).trans changes.groups
  order := (only.orders_stand order).1.1.trans changes.order
  planned := by rw [only.fsc fsc]; exact changes.planned
  regular := by rw [only.fsc fsc]; exact changes.regular
  waiting := changes.waiting.trans (.of_waiting (congrArg Fsc.waiting (only.fsc fsc)))

theorem State.setLevel_changes (s : State) (v : Valve) (r : LevelRecord) : Changes s (s.setLevel v r) :=
  .of_fsc rfl rfl rfl rfl

/-- A level record is written: the valves of a group stay sound if the record is not of the group, or not newly
OVER_LIMIT. -/
theorem State.setLevel_soundKept {s : State} {v : Valve} {r : LevelRecord} {g : Group}
    (harmless : valveGroup v = g → s.lvm.levels[v].state ≠ .overLimit → r.state ≠ .overLimit) :
    SoundKept s (s.setLevel v r) g := by
  refine .of_stations rfl (fun _ _ _ _ => id) fun w own below => ?_
  rw [State.setLevel_lvm_levels, setAt_get_eq]
  split
  · next same => exact harmless (same ▸ own) (same ▸ below)
  · exact below

theorem updateLevel_lawsKept (s : State) (v : Valve) (r : LevelRecord) (restored : Bool) :
    LawsKept s (updateLevel s v r restored) := by
  have changes := s.setLevel_changes v { r with state := levelStateOf r }
  have calm (below : levelStateOf r = .overLimit → s.lvm.levels[v].state = .overLimit) :
      LawsKept s (s.setLevel v { r with state := levelStateOf r }) :=
    (changes.kept fun g => State.setLevel_soundKept fun _ old new => old (below new)).toLawsKept
  have flagged : Only [.sticky] (s.setLevel v { r with state := levelStateOf r })
      (if levelStateOf r = .atLimit ∨ levelStateOf r = .overLimit then
        ((s.setLevel v { r with state := levelStateOf r }).setFlag .levelChange).setFlag .levelLimit
      else (s.setLevel v { r with state := levelStateOf r }).setFlag .levelChange) := by
    have one := State.setFlag_only (s.setLevel v { r with state := levelStateOf r }) .levelChange
    split
    · exact one.trans (State.setFlag_only _ _)
    · exact one
  unfold updateLevel
  by_cases same : levelStateOf r = s.lvm.levels[v].state
  · rw [if_pos same]
    exact calm fun above => same ▸ above
  rw [if_neg same]
  dsimp only
  by_cases beyond : levelStateOf r = .overLimit
  · rw [if_pos beyond]
    refine Changes.lawsKept_of_event (g := valveGroup v) ?_ (fun h other => ?_) (.inr rfl)
    · exact changes.through flagged (by decide) (by decide) (by decide)
    · exact fun fires sound => flagged.sound (by decide) (by decide) (by decide)
        (State.setLevel_soundKept (fun own => absurd own.symm other) fires sound)
  rw [if_neg beyond]
  have noted := (calm fun above => absurd above beyond).trans (flagged.lawsKept (by decide)).toLawsKept
  by_cases back : s.lvm.levels[v].state = .overLimit ∧ restored
  · rw [if_pos back]
    exact noted.trans (groupEvent_lawsKept _ _ nofun)
  · rw [if_neg back]
    exact noted

theorem levelChange_lawsKept (v : Valve) (s : State) (x : Nat × LevelReport) : LawsKept s (levelChange v s x) := by
  unfold levelChange
  dsimp only
  split
  · exact updateLevel_lawsKept _ _ _ _
  · exact ((Changes.of_fsc (s := s) (t := s.countRangeError) rfl rfl rfl rfl).kept fun _ _ => id).toLawsKept

theorem clearLevel_lawsKept (s : State) (v : Valve) (restored : Bool) : LawsKept s (clearLevel s v restored) :=
  updateLevel_lawsKept _ _ _ _

theorem remakeFromStation_lawsKept (s : State) : LawsKept s (remakeFromStation s) := by
  unfold remakeFromStation
  split
  · exact .refl s
  · refine .foldl _ (fun v _ t => ?_) s
    unfold remakeLevel
    split
    · exact .refl t
    · exact updateLevel_lawsKept _ _ _ _

/-! ## Stations (R99 to R113) -/

/-- An operation of the Ring Master that leaves the stations alone. -/
theorem Only.lawsKept_of_sameStations {s t : State} (only : Only [.rgm] s t)
    (same : t.rgm.stations = s.rgm.stations) : LawsKept s t :=
  (only.lawsKept_of_stations (by decide) fun p => by rw [same]; exact id).toLawsKept

theorem State.setStation_lawsKept {s : State} {p : RingPos} {r : Station}
    (enrolled : s.rgm.stations[p].state = .enrolled → r.state = .enrolled) : LawsKept s (s.setStation p r) := by
  refine ((s.setStation_only p r).lawsKept_of_stations (by decide) fun q => ?_).toLawsKept
  rw [State.setStation_rgm_stations, setAt_get_eq]
  split
  · next same => exact same ▸ enrolled
  · exact id

theorem State.createItem_lawsKept (s : State) (p : RingPos) (k : ItemKind) : LawsKept s (s.createItem p k) :=
  (s.createItem_only p k).lawsKept_of_sameStations (s.createItem_stations p k)

theorem State.removeItem_lawsKept (s : State) (p : RingPos) (k : ItemKind) : LawsKept s (s.removeItem p k) :=
  (s.removeItem_only p k).lawsKept_of_sameStations rfl

theorem State.setFlag_lawsKept (s : State) (f : StickyFlag) : LawsKept s (s.setFlag f) :=
  ((s.setFlag_only f).lawsKept (by decide)).toLawsKept

theorem faultEvent_lawsKept (s : State) (p : RingPos) : LawsKept s (faultEvent s p) := by
  unfold faultEvent
  split
  · exact .refl s
  · exact groupEvent_lawsKept _ _ nofun

/-- A valve of the position `p` is the valve of its Station Table row. -/
theorem rowAt_of_positionOf {s : State} {v : Valve} {p : RingPos} (position : positionOf s v = some p) :
    ∃ row, rowAt s p = some row ∧ row.valve = v := by
  unfold positionOf at position
  split at position
  · cases position
  · next st table =>
    refine ⟨st[p], ?_, positionIn_valve position⟩
    unfold rowAt
    rw [table]

/-- A station that leaves ENROLLED is told to the group of its valve (R100, R112, R151). -/
theorem faultEvent_lawsKept_of_setStation {s t : State} {p : RingPos} {r : Station}
    (only : Only [.rgm, .sticky] s t) (stations : t.rgm.stations = setAt s.rgm.stations p r) :
    LawsKept s (faultEvent t p) := by
  have fsc := only.fsc (by decide)
  have tbs := only.tbs (by decide)
  have changes : Changes s t := .of_fsc (only.groups (by decide)) (only.orders_stand (by decide)).1.1
    (congrArg Fsc.records fsc) (congrArg Fsc.waiting fsc)
  have spared {g : Group} (away : ∀ row, rowAt t p = some row → valveGroup row.valve ≠ g) : SoundKept s t g := by
    refine .of_stations (congrArg Tbs.station tbs) (fun v q own position state => ?_)
      (by rw [only.lvm (by decide)]; exact fun _ _ => id)
    rw [stations, setAt_get_ne _ _ _ _ fun same => ?_]
    · exact state
    · obtain ⟨row, here, valve⟩ := rowAt_of_positionOf (same ▸ position)
      refine away row ?_ (valve ▸ own)
      rw [← here, rowAt, rowAt, tbs]
  unfold faultEvent
  split
  · next none =>
    refine (changes.kept fun g => spared fun row some => ?_).toLawsKept
    rw [none] at some
    cases some
  · next row here =>
    refine changes.lawsKept_of_event (fun h other => spared fun x at_ own => other ?_) (.inl rfl)
    cases here.symm.trans at_
    exact own.symm

theorem changedIdentity_lawsKept (s : State) (p : RingPos) (i : Ident) : LawsKept s (changedIdentity s p i) := by
  refine faultEvent_lawsKept_of_setStation ?_ rfl
  exact .trans (.of (s.setStation_only p _) rfl) (.trans (.of (removeEnrolItems_only _ p) rfl)
    (.of (State.setFlag_only _ _) rfl))

theorem faultStation_lawsKept (s : State) (p : RingPos) : LawsKept s (faultStation s p) := by
  refine faultEvent_lawsKept_of_setStation ?_ rfl
  exact .trans (.of (s.setStation_only p _) rfl) (.trans (.of (State.setFlag_only _ _) rfl)
    (.of (removeEnrolItems_only _ p) rfl))

theorem enrolStation_lawsKept (s : State) (p : RingPos) (row : StationRow) (i : Ident) :
    LawsKept s (enrolStation s p row i) :=
  (State.setStation_lawsKept fun _ => rfl).trans ((State.createItem_lawsKept _ _ _).trans
    ((clearLevel_lawsKept _ _ _).trans ((State.createItem_lawsKept _ _ _).trans (groupEvent_lawsKept _ _ nofun))))

section
variable {s : State} {p : RingPos} (apart : s.rgm.stations[p].state ≠ .enrolled)
include apart

theorem failComparison_lawsKept (x : MismatchReason) : LawsKept s (failComparison s p x) :=
  (State.setStation_lawsKept fun enrolled => absurd enrolled apart).trans (State.setFlag_lawsKept _ _)

theorem compareIdent_lawsKept (row : StationRow) (i : Ident) : LawsKept s (compareIdent s p row i) := by
  unfold compareIdent
  split
  · exact enrolStation_lawsKept _ _ _ _
  · exact failComparison_lawsKept apart _

theorem countIdent_lawsKept (row : StationRow) (i : Ident) : LawsKept s (countIdent s p row i) := by
  have set (n : Nat) : LawsKept s (setIdent s p i n) := State.setStation_lawsKept id
  unfold countIdent
  split
  · refine (set 0).trans (compareIdent_lawsKept ?_ row i)
    rw [setIdent, State.setStation_rgm_stations, setAt_get]
    exact apart
  · exact set _

end

theorem clearMiss_lawsKept (s : State) (p : RingPos) : LawsKept s (clearMiss s p) := State.setStation_lawsKept id

theorem identFromEnrolled_lawsKept (s : State) (p : RingPos) (n : BitVec 16) (i : Ident) :
    LawsKept s (identFromEnrolled s p n i) := by
  unfold identFromEnrolled
  split
  · split
    · exact clearMiss_lawsKept s p
    · exact (clearMiss_lawsKept s p).trans (State.createItem_lawsKept _ _ _)
  · exact (clearMiss_lawsKept s p).trans (changedIdentity_lawsKept _ _ _)

theorem takeIdent_lawsKept (s : State) (p : RingPos) (row : StationRow) (n : BitVec 16) (i : Ident) :
    LawsKept s (takeIdent s p row n i) := by
  unfold takeIdent
  split
  case h_1 state =>
    refine State.setStation_lawsKept fun enrolled => ?_
    rw [state] at enrolled
    cases enrolled
  case h_2 state | h_3 state => exact countIdent_lawsKept (by rw [state]; nofun) row i
  case h_4 => exact identFromEnrolled_lawsKept _ _ _ _
  case h_5 => exact .refl s

theorem runNotEnrolled_lawsKept {s : State} {p : RingPos} (apart : s.rgm.stations[p].state ≠ .enrolled) :
    LawsKept s (runNotEnrolled s p) := by
  unfold runNotEnrolled
  split
  · exact State.setStation_lawsKept fun enrolled => absurd enrolled apart
  · exact .refl s

/-! ## Frames that come back (R85 to R87) -/

theorem takeReports_lawsKept (s : State) (v : Valve) (d : Half) (r : RunSlot) : LawsKept s (takeReports s v d r) := by
  have extinction (s : State) : LawsKept s (takeExtinction v d s r.extinction) := by
    unfold takeExtinction
    split
    · exact .refl s
    · exact (extinctionReport_judgedKept _ _ _ _ _).toLawsKept
  exact (LawsKept.foldl _ (fun x _ t => (takeFired_firingKept v d t x).toLawsKept) s).trans
    ((LawsKept.foldl _ (fun x _ t => (takeAck_firingKept v _ t x).toLawsKept) _).trans
      ((extinction _).trans (LawsKept.foldl _ (fun x _ t => levelChange_lawsKept v t x) _)))

theorem takeRun_lawsKept (s : State) (p : RingPos) (v : Valve) (d : Half) (r : RunSlot) :
    LawsKept s (takeRun s p v d r) := by
  have heard : LawsKept s (s.setStation p { s.rgm.stations[p] with
      miss := 0, runStatus := some r.status, conduction := some r.conduction }) := State.setStation_lawsKept id
  exact heard.trans ((State.removeItem_lawsKept _ _ _).trans (takeReports_lawsKept _ _ _ _))

theorem routeSlot_lawsKept (s : State) (p : RingPos) (row : StationRow) (d : Half) (b : SlotBody) :
    LawsKept s (routeSlot s p row d b) := by
  unfold routeSlot
  split
  · exact takeIdent_lawsKept _ _ _ _ _
  · split
    · exact takeRun_lawsKept _ _ _ _ _
    · next apart => exact runNotEnrolled_lawsKept apart

theorem routeGood_lawsKept (s : State) (p : RingPos) (d : Half) (b : SlotBody) :
    LawsKept s (routeGood s p d b) := by
  unfold routeGood
  split
  · exact .refl s
  · exact routeSlot_lawsKept _ _ _ _ _

theorem State.countReceiveError_lawsKept (s : State) : LawsKept s s.countReceiveError :=
  s.countReceiveError_only.lawsKept_of_sameStations rfl

theorem takeSlot_lawsKept (m : Marker) (s : State) (x : RingPos × Slot) : LawsKept s (takeSlot m s x) := by
  unfold takeSlot
  split
  · exact .refl s
  · exact s.countReceiveError_lawsKept
  · exact ((noteSlot_only _ _ _ _ _).lawsKept_of_sameStations (noteSlot_stations _ _ _ _ _)).trans
      (routeGood_lawsKept _ _ _ _)

theorem sampleLate_stations (s : State) : (sampleLate s).rgm.stations = s.rgm.stations := by
  unfold sampleLate
  split <;> rfl

theorem takeOverrun_lawsKept (s : State) (n : BitVec 16) : LawsKept s (takeOverrun s n) := by
  refine (takeOverrun_only s n).lawsKept_of_sameStations ?_
  unfold takeOverrun
  dsimp only
  split
  · exact sampleLate_stations _
  · rfl

theorem takeReturn_lawsKept (s : State) (m : Marker) (input : Port) (slots : List Slot) :
    LawsKept s (takeReturn s m input slots) :=
  ((s.mapCycle_only _).lawsKept_of_sameStations rfl).trans
    (((noteTurning_only _ _ _ _).lawsKept_of_sameStations (noteTurning_stations _ _ _ _)).trans
      (.foldl _ (fun x _ t => takeSlot_lawsKept m t x) _))

theorem takeArrival_lawsKept (s : State) (input : Port) (a : Arrival) : LawsKept s (takeArrival s input a) := by
  unfold takeArrival
  split
  · exact s.countReceiveError_lawsKept
  · exact s.countReceiveError_lawsKept
  · split
    · split
      · split
        · exact takeReturn_lawsKept _ _ _ _
        · exact s.countReceiveError_lawsKept
      · exact s.countReceiveError_lawsKept
    · exact takeOverrun_lawsKept _ _

end Sys2Proof.Machine
end

section
/-! PROOFS. Ring cycles, the ring restart and the table commits keep the laws of the groups and of PLANNED
records. -/

namespace Sys2Proof.Machine

/-! ## Closing a cycle (R88 to R99) -/

theorem State.setRgm_lawsKept (s : State) {r : Rgm} (same : r.stations = s.rgm.stations) :
    LawsKept s (s.setRgm r) := (s.setRgm_only r).lawsKept_of_sameStations same

theorem changeLink_lawsKept (s : State) (x : LinkStatus) : LawsKept s (changeLink s x) := by
  have switched : LawsKept s (s.setRgm (switchedLink s.rgm x)) := s.setRgm_lawsKept rfl
  unfold changeLink
  split
  · exact .refl s
  · exact switched.trans ((State.setFlag_lawsKept _ _).trans (bothGroups_lawsKept _ nofun))

theorem State.setRuns_lawsKept (s : State) (a b : Nat) : LawsKept s (s.setRuns a b) :=
  (s.setRuns_only a b).lawsKept_of_sameStations rfl

theorem clearDown_changeLink_lawsKept (s : State) (x : LinkStatus) :
    LawsKept s (changeLink (clearDown s) x) :=
  ((clearDown_only s).lawsKept_of_sameStations rfl).trans (changeLink_lawsKept _ _)

theorem goDown_lawsKept (s : State) (c : DownCause) : LawsKept s (goDown s c) := by
  have noted : LawsKept s (noteDown s c) := s.setRgm_lawsKept rfl
  exact noted.trans (changeLink_lawsKept _ _)

theorem closeReturned_lawsKept (s : State) (c : RingCycle) : LawsKept s (closeReturned s c) := by
  unfold closeReturned
  dsimp only
  refine (s.setRuns_lawsKept 0 0).trans ?_
  split
  case h_1 | h_2 | h_3 => exact changeLink_lawsKept _ _
  case h_4 =>
    split
    case h_4 => exact .refl _
    all_goals exact clearDown_changeLink_lawsKept _ _
  all_goals exact .refl _

theorem closeLate_lawsKept (s : State) : LawsKept s (closeLate s) := by
  unfold closeLate
  dsimp only
  split
  · exact (s.setRuns_lawsKept _ _).trans (goDown_lawsKept _ _)
  · exact s.setRuns_lawsKept _ _

theorem failLink_lawsKept (s : State) : LawsKept s (failLink s) := by
  unfold failLink
  split
  case h_1 | h_2 => exact (s.setRuns_lawsKept _ _).trans (changeLink_lawsKept _ _)
  case h_3 | h_4 | h_5 => exact goDown_lawsKept _ _
  all_goals exact .refl s

theorem closeLost_lawsKept (s : State) : LawsKept s (closeLost s) := by
  unfold closeLost
  dsimp only
  split
  · exact (s.setRuns_lawsKept _ _).trans (failLink_lawsKept _)
  · exact s.setRuns_lawsKept _ _

theorem closeProbe_lawsKept (s : State) (c : RingCycle) : LawsKept s (closeProbe s c) := by
  unfold closeProbe
  split
  · exact (s.setRuns_lawsKept 0 0).trans (clearDown_changeLink_lawsKept _ _)
  · exact .refl s

theorem judgeCycle_lawsKept (s : State) (c : RingCycle) : LawsKept s (judgeCycle s c) := by
  unfold judgeCycle
  split
  · exact closeReturned_lawsKept _ _
  · split
    · exact closeLate_lawsKept _
    · exact closeLost_lawsKept _

theorem updateMembers_lawsKept (s : State) (c : RingCycle) : LawsKept s (updateMembers s c) := by
  refine ((updateMembers_only s c).lawsKept_of_stations (by decide) fun p enrolled => ?_).toLawsKept
  rw [updateMembers, State.setRgm_rgm, ofFn_get]
  exact enrolled

theorem missOne_lawsKept (c : RingCycle) (s : State) (p : RingPos) : LawsKept s (missOne c s p) := by
  have missed : LawsKept s (s.setStation p { s.rgm.stations[p] with miss := missAfter s.rgm.stations[p] }) :=
    State.setStation_lawsKept id
  unfold missOne missStation
  dsimp only
  split
  · split
    · exact missed.trans (faultStation_lawsKept _ _)
    · exact missed
  · exact .refl s

theorem countMisses_lawsKept (s : State) (c : RingCycle) : LawsKept s (countMisses s c) := by
  unfold countMisses
  split
  · exact .foldl _ (fun p _ t => missOne_lawsKept c t p) s
  · exact .refl s

theorem closeScan_lawsKept (s : State) (c : RingCycle) : LawsKept s (closeScan s c) := by
  unfold closeScan
  split
  · exact s.setRgm_lawsKept rfl
  · exact .refl s

theorem closeCycle_lawsKept (s : State) : LawsKept s (closeCycle s) := by
  unfold closeCycle
  split
  · exact .refl s
  · refine .trans ?_ ((closeScan_lawsKept _ _).trans (State.setRgm_lawsKept _ rfl))
    split
    · exact closeProbe_lawsKept _ _
    · exact (judgeCycle_lawsKept _ _).trans ((updateMembers_lawsKept _ _).trans (countMisses_lawsKept _ _))

/-! ## Starting a cycle (R61, R80) -/

theorem stepStations_lawsKept (s : State) (w : Vector Bool 24) : LawsKept s (stepStations s w) := by
  refine ((stepStations_only s w).lawsKept_of_stations (by decide) fun p enrolled => ?_).toLawsKept
  rw [stepStations, State.setRgm_rgm, ofFn_get]
  exact (stepStation_enrolled_iff _ _ _).mpr enrolled

theorem stepProbe_lawsKept (s : State) : LawsKept s (stepProbe s).1 := by
  unfold stepProbe
  split
  · exact .refl s
  · exact s.setRgm_lawsKept rfl

/-- A record placed in a frame is PLANNED no more (R60). -/
theorem placedRecord_derives (r : FireRecord) (seq : Byte) (n : BitVec 16) :
    Derives r (placedRecord r seq n) := by
  refine ⟨rfl, rfl, rfl, fun planned => ?_⟩
  unfold placedRecord at planned
  dsimp only at planned
  split at planned
  · cases planned
  · exact planned

theorem placeEntryAt_lawsKept (s : State) (p : RingPos) (r : FireRecord) :
    LawsKept s (placeEntryAt s p r).1 := by
  have resent : LawsKept s (if isResend r then s.countRetry else s) := by
    split
    · exact s.setRgm_lawsKept rfl
    · exact .refl s
  unfold placeEntryAt
  dsimp only
  split
  · refine (resent.trans ?_).trans ((State.putRecord_judgedKept _ (placedRecord_derives _ _ _)).toLawsKept)
    exact FiringKept.toLawsKept (State.setFsc_firingKept _ _ rfl rfl rfl)
  · exact resent.trans ((State.putRecord_judgedKept _ (placedRecord_derives _ _ _)).toLawsKept)

theorem placeEntry_lawsKept (x : State × List FireEntry) (r : FireRecord) : LawsKept x.1 (placeEntry x r).1 := by
  unfold placeEntry
  split
  · exact .refl x.1
  · exact placeEntryAt_lawsKept _ _ _

theorem cycleEntries_lawsKept (s : State) (probe : Bool) : LawsKept s (cycleEntries s probe).1 := by
  have filled (rs : List FireRecord) (x : State × List FireEntry) : LawsKept x.1 (rs.foldl placeEntry x).1 := by
    induction rs generalizing x with
    | nil => exact .refl x.1
    | cons r rs ih => exact (placeEntry_lawsKept x r).trans (ih _)
  unfold cycleEntries
  split
  · exact .refl s
  · exact filled _ (s, [])

theorem sendCycle_lawsKept (s : State) (probe : Bool) (fs : List CycleFrame) :
    LawsKept s (sendCycle s probe fs) := (sendCycle_only s probe fs).lawsKept_of_sameStations rfl

theorem stepNumber_lawsKept (s : State) : LawsKept s (stepNumber s) := s.setRgm_lawsKept rfl

theorem runCycle_lawsKept (s : State) : LawsKept s (runCycle s) :=
  (stepNumber_lawsKept s).trans ((stepProbe_lawsKept _).trans
    ((cycleEntries_lawsKept _ _).trans (sendCycle_lawsKept _ _ _)))

theorem startCycle_lawsKept (s : State) : LawsKept s (startCycle s) :=
  (closeCycle_lawsKept s).trans ((stepStations_lawsKept _ _).trans (runCycle_lawsKept _))

/-! ## Ring restart (R103, R117) -/

theorem clearRing_changes (s : State) : Changes s (clearRing s) := .of_fsc rfl rfl rfl rfl

/-- A group that waits for a station fault is fit once the faults of all its stations have been told. -/
theorem faultEvents_fit {g : Group} (ps : List RingPos) {s : State} (tended : Tended s g)
    (fits : GroupFits s g ∨ ∃ p ∈ ps, ∃ row, rowAt s p = some row ∧ valveGroup row.valve = g) :
    GroupFits (ps.foldl faultEvent s) g := by
  induction ps generalizing s with
  | nil =>
    rcases fits with fits | ⟨p, mem, -⟩
    · exact fits
    · cases mem
  | cons p ps ih =>
    have table : (faultEvent s p).tbs = s.tbs := (faultEvent_only s p).tbs (by decide)
    rw [List.foldl_cons]
    by_cases own : ∃ row, rowAt s p = some row ∧ valveGroup row.valve = g
    · obtain ⟨row, here, rfl⟩ := own
      have told : GroupFits (faultEvent s p) (valveGroup row.valve) := by
        rw [faultEvent, here]
        exact groupEvent_fits tended (.inr (.inl rfl)) nofun nofun
      exact ih ((groupFits_iff _ _).mp told).1 (.inl told)
    · have spared : faultEvent s p = s ∨ Undisturbed g s (faultEvent s p) := by
        unfold faultEvent
        split
        · exact .inl rfl
        · next row here =>
          exact .inr (groupEvent_undisturbed s _ fun same => own ⟨row, here, same.symm⟩)
      refine ih (spared.elim (fun same => by rwa [same]) fun same => same.tended tended) ?_
      rcases fits with fits | ⟨q, mem, row, here, group⟩
      · exact .inl (spared.elim (fun same => by rwa [same]) fun same => same.fits fits)
      · rcases List.mem_cons.mp mem with rfl | later
        · exact absurd ⟨row, here, group⟩ own
        · refine .inr ⟨q, later, row, ?_, group⟩
          rw [← here, rowAt, rowAt, table]

theorem exists_valveGroup (g : Group) : ∃ v : Valve, valveGroup v = g := by
  revert g
  decide

theorem clearedFaults_fit {s : State} {g : Group} (fits : GroupFits s g) :
    GroupFits ((enrolledPositions s).foldl faultEvent (clearRing s)) g := by
  have changes := clearRing_changes s
  obtain ⟨tended, serves, -⟩ := (groupFits_iff s g).mp fits
  refine faultEvents_fit _ (changes.tended tended) ?_
  by_cases fires : Fires s g
  · obtain ⟨v, own⟩ := exists_valveGroup g
    obtain ⟨p, position, enrolled⟩ := valveEnrolled_iff.mp (serves fires v own).1
    obtain ⟨row, here, rfl⟩ := rowAt_of_positionOf position
    exact .inr ⟨p, List.mem_filter.mpr ⟨List.mem_finRange p, decide_eq_true enrolled⟩, row, here, own⟩
  · exact .inl (changes.fits (fun now => absurd now fires) fits)

theorem announceLink_lawsKept (s : State) (old : LinkStatus) : LawsKept s (announceLink s old) := by
  unfold announceLink
  split
  · exact .refl s
  · exact (s.setFlag_lawsKept _).trans (bothGroups_lawsKept _ nofun)

theorem ringRestart_lawsKept (s : State) : LawsKept s (ringRestart s) := by
  have changes := clearRing_changes s
  have faults := LawsKept.foldl (enrolledPositions s) (fun p _ t => faultEvent_lawsKept t p) (clearRing s)
  have cleared : LawsKept s ((enrolledPositions s).foldl faultEvent (clearRing s)) :=
    ⟨fun held => faults.held (changes.held held), fun planned => faults.planned (changes.plannedFits planned),
      fun lawful g => clearedFaults_fit (lawful.groups g)⟩
  refine cleared.trans ((announceLink_lawsKept _ s.rgm.link).trans ?_)
  show LawsKept _ (firstCycle _)
  unfold firstCycle
  split
  · exact startCycle_lawsKept _
  · exact .refl _

/-! ## Tables (R175 to R178) -/

theorem State.setTbs_changes (s : State) (t : Tbs) : Changes s (s.setTbs t) := .of_fsc rfl rfl rfl rfl

theorem State.setTbs_lawsKept (s : State) {t : Tbs} (same : t.station = s.tbs.station) :
    LawsKept s (s.setTbs t) :=
  ((s.setTbs_changes t).kept fun _ => .of_stations same (fun _ _ _ _ => id) fun _ _ => id).toLawsKept

theorem writeTable_lawsKept (s : State) (table row : Byte) (bs : List Byte) :
    LawsKept s (writeTable s table row bs).1 := by
  unfold writeTable writeKnown
  dsimp only
  split
  · exact .refl s
  · next id _ =>
    split
    · exact .refl s
    · split
      · split
        · exact .refl s
        · exact s.setTbs_lawsKept (by cases id <;> rfl)
      · exact .refl s

theorem discardTable_lawsKept (s : State) (table : Byte) : LawsKept s (discardTable s table).1 := by
  unfold discardTable
  split
  · exact .refl s
  · next id _ => exact s.setTbs_lawsKept (by cases id <;> rfl)

/-- The Station Table is committed with both groups BLOCKED only (R177). -/
theorem noteCommit_lawsKept {s : State} {id : TableId}
    (blocked : id = .station → ∀ g : Group, s.groups[g].state = .blocked) : LawsKept s (noteCommit s id) := by
  refine LawsKept.trans (b := s.setTbs { activate s.tbs id with
    generation := (activate s.tbs id).generation + 1#16 }) ?_ (State.setFlag_lawsKept _ _)
  by_cases station : id = .station
  · refine ((s.setTbs_changes _).kept fun g fires => ?_).toLawsKept
    exact absurd fires (not_fires_of (blocked station g) nofun nofun)
  · refine s.setTbs_lawsKept ?_
    cases id with
    | station => exact absurd rfl station
    | limits | overlap | converter | ring => rfl

theorem commitEffects_lawsKept (s : State) (id : TableId) : LawsKept s (commitEffects s id) := by
  cases id with
  | limits => exact ((clampToLimits_only s).lawsKept (by decide)).toLawsKept
  | overlap => exact .refl s
  | converter =>
    exact (restartPru_lawsKept s).trans ((disarmPlannings_only _).lawsKept (by decide)).toLawsKept
  | station =>
    exact (remakeFromStation_lawsKept s).trans
      ((State.setFsc_firingKept _ (clearSequences _) rfl rfl rfl).toLawsKept.trans (ringRestart_lawsKept _))
  | ring => exact ringRestart_lawsKept s

theorem commitTable_lawsKept (s : State) (table : Byte) : LawsKept s (commitTable s table).1 := by
  unfold commitTable
  split
  · exact .refl s
  · next id _ =>
    split
    · exact .refl s
    · split
      · exact .refl s
      · next unneeded =>
        split
        · exact .refl s
        · refine (noteCommit_lawsKept fun station => ?_).trans
            ((commitEffects_lawsKept _ _).trans (bothGroups_lawsKept _ nofun))
          refine (bothBlocked_iff s).mp ?_
          subst station
          simpa [needsBlocked] using unneeded

end Sys2Proof.Machine
end

section
/-! PROOFS. The orders, the order timers and the requests keep the laws of the groups and of PLANNED records. -/

namespace Sys2Proof.Machine

/-! ## Orders and their timers (R162, R163) -/

/-- An event at both groups leaves them fit, whatever they obeyed before. -/
theorem bothGroups_fit {s : State} {e : GroupEvent} (ended : e ≠ .recordsEnded) (reset : e ≠ .resetTrip)
    (tended : ∀ g, Tended s g) (serves : ∀ g, Serves s g) : GroupsFit (bothGroups s e) := by
  have first : GroupFits (groupEvent s 0 e) 0 :=
    groupEvent_fits (tended 0) (.inl (serves 0)) (fun same => absurd same ended) fun same => absurd same reset
  have spared := groupEvent_undisturbed s (g := 0) (h := 1) e (by decide)
  have second : GroupFits (groupEvent (groupEvent s 0 e) 1 e) 1 :=
    groupEvent_fits (spared.tended (tended 1)) (.inl (spared.serves (serves 1))) (fun same => absurd same ended)
      fun same => absurd same reset
  have stays := (groupEvent_undisturbed (groupEvent s 0 e) (g := 1) (h := 0) e (by decide)).fits first
  intro g
  match g with
  | 0 => exact stays
  | 1 => exact second

/-- A change outside the blocks of the laws but for the order leaves the groups tended. -/
theorem Only.undisturbed_but_order {bs : List Block} {s t : State} (only : Only bs s t)
    (apart : ∀ b ∈ [Block.fsc, .rgm, .lvm, .groups, .tbs], b ∉ bs) (g : Group) :
    (Tended s g → Tended t g) ∧ (Serves s g → Serves t g) := by
  have groups := only.groups (apart _ (by decide))
  have fsc := only.fsc (apart _ (by decide))
  refine ⟨fun ⟨idle, waits⟩ => ⟨?_, ?_⟩, fun serves fires => ?_⟩
  · rw [groups, State.groupBusy, fsc]
    exact idle
  · rw [groups, fsc]
    exact waits
  · rw [Fires, groups] at fires
    exact only.sound (apart _ (by decide)) (apart _ (by decide)) (apart _ (by decide)) (serves fires)

theorem adoptOrder_lawsKept (s : State) (seq : Byte) (o : OrderValues) : LawsKept s (adoptOrder s seq o) := by
  have only := orderTaken_only s seq o
  have told : LawsKept s (bothGroups (orderTaken s seq o) .orderAdopted) := by
    have groups := only.groups (by decide)
    have after := bothGroups_lawsKept (orderTaken s seq o) (e := .orderAdopted) nofun
    refine ⟨fun held => after.held ?_, fun planned => after.planned ?_, fun lawful => bothGroups_fit nofun nofun ?_ ?_⟩
    · rw [GroupsHeld, groups]
      exact held
    · rw [PlannedFits, groups, only.fsc (by decide)]
      exact planned
    · exact fun g => (only.undisturbed_but_order (by decide) g).1 ((groupFits_iff s g).mp (lawful.groups g)).1
    · exact fun g => (only.undisturbed_but_order (by decide) g).2 ((groupFits_iff s g).mp (lawful.groups g)).2.1
  exact told.trans ((queueStatus_only _).lawsKept (by decide)).toLawsKept

theorem takeOrder_lawsKept (s : State) (seq : Byte) (payload : List Byte) :
    LawsKept s (takeOrder s seq payload) := by
  unfold takeOrder
  split
  · exact ((Changes.of_fsc (s := s) (t := s.countOrderFormat) rfl rfl rfl rfl).kept fun _ _ => id).toLawsKept
  · split
    · exact ((Changes.of_fsc (s := s) (t := s.countDuplicate) rfl rfl rfl rfl).kept fun _ _ => id).toLawsKept
    · exact ((noteGap_only s seq).lawsKept (by decide)).toLawsKept.trans (adoptOrder_lawsKept _ _ _)

/-- An expiry of an order timer is written beside the order in force. -/
theorem State.setOlp_lawsKept (s : State) {o : Olp} (order : o.order = s.olp.order) : LawsKept s (s.setOlp o) :=
  ((Changes.of_fsc (s := s) (t := s.setOlp o) rfl order rfl rfl).kept fun _ _ => id).toLawsKept

theorem holdExpired_lawsKept (s : State) : LawsKept s (holdExpired s) := by
  have lost := s.setOlp_lawsKept (o := { s.olp with orderState := .lost, holdTimer := none }) rfl
  exact lost.trans (bothGroups_lawsKept _ nofun)

theorem watchdogExpired_lawsKept (s : State) : LawsKept s (watchdogExpired s) := by
  rw [watchdogExpired_eq s rfl]
  generalize addTb s.now _ = hold
  have taken := s.setOlp_lawsKept
    (o := { s.olp with orderState := .hold, watchdog := none, holdTimer := some hold }) rfl
  have told : LawsKept s (bothGroups (orderHeld s hold) (.orderState false)) :=
    taken.trans ((State.setFlag_lawsKept _ .orderHold).trans (bothGroups_lawsKept _ nofun))
  split
  · exact told.trans (holdExpired_lawsKept _)
  · exact told

/-- What the order timers are after a command: an ORDER arms the watchdog, which arms the hold timer (R163). -/
theorem watchdogExpired_timersHeld (s : State) : OrderTimersHeld (watchdogExpired s) := by
  rw [watchdogExpired_eq s rfl]
  generalize addTb s.now _ = hold
  obtain ⟨state, watchdog, timer, -⟩ := toldOfHold s hold rfl
  split
  · obtain ⟨lost, same, none⟩ := holdExpired_writes (bothGroups (orderHeld s hold) (.orderState false))
    rw [OrderTimersHeld, lost, same, none, watchdog]
    exact ⟨⟨nofun, nofun⟩, ⟨nofun, nofun⟩⟩
  · rw [OrderTimersHeld, state, watchdog, timer]
    exact ⟨⟨nofun, nofun⟩, ⟨fun _ => rfl, fun _ => rfl⟩⟩

theorem holdExpired_timersHeld {s : State} (held : OrderTimersHeld s) (hold : s.olp.orderState = .hold) :
    OrderTimersHeld (holdExpired s) := by
  obtain ⟨lost, same, none⟩ := holdExpired_writes s
  have disarmed : s.olp.watchdog.isSome ≠ true := fun armed => absurd (hold.symm.trans (held.1.mpr armed)) nofun
  rw [OrderTimersHeld, lost, same, none]
  exact ⟨⟨nofun, fun armed => absurd armed disarmed⟩, ⟨nofun, nofun⟩⟩

theorem adoptOrder_timersHeld (s : State) (seq : Byte) (o : OrderValues) :
    OrderTimersHeld (adoptOrder s seq o) := by
  obtain ⟨-, -, state, watchdog, timer, -⟩ := adoptOrder_writes (s := s) (seq := seq) (o := o) rfl
  rw [OrderTimersHeld, state, watchdog, timer]
  exact ⟨⟨fun _ => rfl, fun _ => rfl⟩, ⟨nofun, nofun⟩⟩

theorem takeOrder_timersHeld {s : State} (seq : Byte) (payload : List Byte) (held : OrderTimersHeld s) :
    OrderTimersHeld (takeOrder s seq payload) := by
  unfold takeOrder
  split
  · exact held
  · split
    · exact held
    · exact adoptOrder_timersHeld _ _ _

theorem Only.timersHeld {bs : List Block} {s t : State} (only : Only bs s t) (apart : Block.order ∉ bs)
    (held : OrderTimersHeld s) : OrderTimersHeld t := by
  obtain ⟨-, state, watchdog, timer⟩ := only.orders_stand apart
  rw [OrderTimersHeld, state, watchdog, timer]
  exact held

theorem exec_timersHeld {c : Instr} {s t : State} (run : exec c s = .next t) (held : OrderTimersHeld s) :
    OrderTimersHeld t := by
  cases time : c.time? with
  | none =>
    cases c with
    | powerUp =>
      cases run
      exact ⟨⟨nofun, nofun⟩, ⟨nofun, nofun⟩⟩
    | _ => cases time
  | some n =>
    obtain ⟨u, run', only⟩ := exec_touches c s n time
    cases run.symm.trans run'
    by_cases apart : Block.order ∉ touches c
    · exact only.timersHeld (s := s.at n) apart held
    · cases c with
      | powerUp => cases time
      | order m seq payload =>
        cases run
        exact takeOrder_timersHeld (s := s.at m) seq payload held
      | orderWatchdog m =>
        cases run
        exact takeIf_ind (P := OrderTimersHeld) (s := s) (n := m) held (watchdogExpired_timersHeld _)
      | holdTimer m =>
        cases run
        unfold takeIf
        dsimp only
        split
        · next reached =>
          refine holdExpired_timersHeld (s := s.at m) held ?_
          by_contra other
          have none : holdTimerOf (s.at m) = none := if_neg other
          rw [none] at reached
          cases reached
        · exact held
      | _ => simp [touches] at apart

end Sys2Proof.Machine
end

section
/-! PROOFS. The laws of the order timers, of the groups and of PLANNED records at every step (O16). -/

namespace Sys2Proof.Machine

/-! ## The bypass hold timer (R148) -/

theorem State.setHoldTimer_state (s : State) (g h : Group) (x : Option Time) :
    (s.setHoldTimer g x).groups[h].state = s.groups[h].state := by
  rw [State.setHoldTimer, State.setGroup_groups, setAt_get_eq]
  split
  · next same => rw [same]
  · rfl

theorem State.setHoldTimer_lawsKept (s : State) (g : Group) : LawsKept s (s.setHoldTimer g none) where
  held held h := by
    rw [State.setHoldTimer, State.setGroup_groups, setAt_get_eq]
    split
    · obtain ⟨pairs, -, causes⟩ := held g
      exact ⟨pairs, nofun, causes⟩
    · exact held h
  planned fits r live planned := by
    rw [State.setHoldTimer_state]
    exact fits r live planned
  fits lawful h := by
    have fits := lawful.groups h
    unfold GroupFits at fits ⊢
    rw [State.setHoldTimer_state]
    exact fits

theorem holdTimerEvent_lawsKept (g : Group) (s : State) : LawsKept s (holdTimerEvent g s) :=
  (s.setHoldTimer_lawsKept g).trans (groupEvent_lawsKept _ g nofun)

theorem takeDeadline_lawsKept (v : Valve) (s : State) : LawsKept s (takeDeadline v s) := by
  unfold takeDeadline
  split
  · exact .refl s
  · exact (deadlineEvent_judgedKept s v _).toLawsKept

/-! ## Warm restart (R158, R181) -/

/-- The groups are told of a ring restart by steps of the Group Controller. -/
theorem restartTold_steps (s : State) : GroupSteps (clearRing s) (restartTold s) := by
  have faults := GroupSteps.foldl faultEvent (fun t p => by
    unfold faultEvent
    split
    · exact .refl
    · exact groupEvent_steps _ _ _) (enrolledPositions s) (clearRing s)
  refine faults.trans ?_
  unfold restartTold announceLink
  split
  · exact .refl
  · exact (GroupStep.flag _ _).steps.trans ((groupEvent_steps _ 0 _).trans (groupEvent_steps _ 1 _))

theorem warmRestart_records (s : State) :
    (warmRestart s).fsc.records = (restartTold (restartedBlocks s)).fsc.records := by
  rw [warmRestart_fsc, clearMisses, State.setFsc_fsc]

theorem restartedBlocks_records (s : State) : (restartedBlocks s).fsc.records = [] := by
  rw [restartedBlocks, (restartExm_only _).fsc (by decide), restartFsc, State.setFsc_fsc]

/-- After a warm restart no record is PLANNED. -/
theorem warmRestart_plannedFits (s : State) : PlannedFits (warmRestart s) := by
  intro r live planned
  rw [warmRestart_records] at live
  have old : r ∈ (clearRing (restartedBlocks s)).fsc.records := GroupSteps.planned (restartTold_steps _) r live planned
  rw [(clearRing_only _).fsc (by decide), restartedBlocks_records] at old
  cases old

theorem warmRestart_held (s : State) : GroupsHeld (warmRestart s) := by
  intro g
  have held := reset_groupsHeld g
  rw [reset_group] at held
  rw [warmRestart_groups]
  exact held

/-- The groups come out of a warm restart BLOCKED, without records and waiting bypasses, when no BYPASS is in force. -/
theorem warmRestart_fit {s : State} (blocked : ∀ g : Group, s.groups[g].state = .blocked) (fits : GroupsFit s) :
    GroupsFit (warmRestart s) := by
  have unbypassed (g : Group) : commandOf s.olp.order.flags[g] ≠ .bypass :=
    ((groupFits_iff s g).mp (fits g)).2.2.blocked (blocked g)
  have fsc := warmRestart_fsc_of_unbypassed blocked unbypassed
  have order := ((warmRestart_only s).orders_stand (by decide)).1.1
  intro g
  have state : (warmRestart s).groups[g].state = .blocked := by
    rw [warmRestart_groups]
    rfl
  refine (groupFits_iff _ g).mpr ⟨.of_noneWaits (fun v _ => ?_) fun _ => ?_, .of_state state nofun nofun,
    fun _ => ?_, fun fires => absurd fires (not_fires_of state nofun nofun)⟩
  · rw [fsc]
    exact fill_get false v
  · rw [State.groupBusy, fsc]
    rfl
  · rw [order]
    exact unbypassed g

theorem warmRestartCommand_lawsKept (s : State) : LawsKept s (warmRestartCommand s).1 := by
  unfold warmRestartCommand
  split
  · next both =>
    exact ⟨fun _ => warmRestart_held s, fun _ => warmRestart_plannedFits s,
      fun lawful => warmRestart_fit ((bothBlocked_iff s).mp both) lawful.groups⟩
  · exact .refl s

/-! ## Requests (R155, R156, R180) -/

theorem request_lawsKept {s : State} {type seq : Byte} {act : State → State × Answer}
    (acted : LawsKept s (act s).1) : LawsKept s (request s type seq act) :=
  request_ind (P := LawsKept s) (s.countBusyDrop_only.lawsKept (by decide)).toLawsKept fun f =>
    acted.trans ((enqueue_only _ f).lawsKept (by decide)).toLawsKept

theorem clearCounters_lawsKept (s : State) : LawsKept s (clearCounters s) := by
  refine ((Changes.of_fsc (s := s) (t := clearCounters s) rfl rfl rfl rfl).kept fun g =>
    .of_stations rfl (fun _ _ _ _ => id) fun v _ below => ?_).toLawsKept
  rw [clearCounters, mapVec_get]
  exact below

theorem clearFaultsOf_lawsKept (s : State) (v : Valve) : LawsKept s (clearFaultsOf s v) := by
  unfold clearFaultsOf
  dsimp only
  refine (clearLevel_lawsKept s v true).trans ?_
  split
  · exact .refl _
  · split
    · exact State.createItem_lawsKept _ _ _
    · exact .refl _

theorem clearAllFaults_lawsKept (s : State) : LawsKept s (clearAllFaults s) :=
  .foldl _ (fun v _ t => clearFaultsOf_lawsKept t v) s

theorem clearLevelFaults_lawsKept (s : State) (valve : Byte) : LawsKept s (clearLevelFaults s valve).1 := by
  unfold clearLevelFaults
  by_cases all : valve = 0#8
  · rw [if_pos all]
    dsimp only
    exact clearAllFaults_lawsKept s
  · rw [if_neg all]
    split
    · exact .refl s
    · exact clearFaultsOf_lawsKept s _

theorem testFire_lawsKept (s : State) (valve : Byte) : LawsKept s (testFire s valve).1 := by
  unfold testFire
  split
  · exact .refl s
  · split
    · exact (placeTest_lawsKept s _).trans (groupEvent_lawsKept _ _ nofun)
    · exact .refl s

theorem resetTrip_lawsKept (s : State) (group : Byte) : LawsKept s (resetTrip s group).1 := by
  unfold resetTrip
  split
  · exact .refl s
  · split
    · exact groupEvent_lawsKept s _ nofun
    · exact .refl s

theorem ringRestartCommand_lawsKept (s : State) : LawsKept s (ringRestartCommand s).1 := by
  unfold ringRestartCommand
  split
  · exact ringRestart_lawsKept s
  · exact .refl s

/-! ## Every command -/

theorem powerUp_lawsKept (s : State) : LawsKept s { State.reset with pending := s.pending } :=
  ⟨fun _ => reset_groupsHeld, fun _ r live => absurd live (reset_no_record r), fun _ => reset_groupsFit⟩

/-- A change of the timebase and of the waiting commands. -/
theorem LawsKept.of_parts {s t : State} (fsc : t.fsc = s.fsc) (rgm : t.rgm = s.rgm) (lvm : t.lvm = s.lvm)
    (groups : t.groups = s.groups) (olp : t.olp = s.olp) (tbs : t.tbs = s.tbs) : LawsKept s t := by
  refine ((Changes.of_fsc groups (by rw [olp]) (by rw [fsc]) (by rw [fsc])).kept fun g => ?_).toLawsKept
  exact .of_stations (by rw [tbs]) (fun _ _ _ _ => by rw [rgm]; exact id) (by rw [lvm]; exact fun _ _ => id)

theorem exec_lawsKept {c : Instr} {s t : State} (run : exec c s = .next t) : LawsKept s t := by
  cases time : c.time? with
  | none =>
    cases c with
    | powerUp =>
      cases run
      exact powerUp_lawsKept s
    | _ => cases time
  | some n =>
    obtain ⟨u, run', only⟩ := exec_touches c s n time
    cases run.symm.trans run'
    refine .trans (b := s.at n) (.of_parts rfl rfl rfl rfl rfl rfl) ?_
    by_cases apart : ∀ b ∈ lawBlocks, b ∉ touches c
    · exact (only.lawsKept apart).toLawsKept
    · have taken {instant : State → Option Time} {event : State → State} (kept : ∀ s, LawsKept s (event s)) :
          LawsKept (s.at n) (takeIf instant event n s) :=
        takeIf_ind (P := LawsKept (s.at n)) (.refl _) (kept _)
      cases c with
      | powerUp => cases time
      | comparatorEdge m line rising => cases time; cases run; exact takeEdge_lawsKept _ line rising
      | captureWatch m => cases time; cases run; exact taken watchEvent_lawsKept
      | cycleMarker m => cases time; cases run; exact runMarkers_lawsKept _ _
      | planningInstant m v => cases time; cases run; exact taken fun s => takePlanning_lawsKept s v
      | ringCycleStart m => cases time; cases run; exact taken startCycle_lawsKept
      | ringFrameReturn m input bytes => cases time; cases run; exact takeArrival_lawsKept _ _ _
      | latenessInstant m v => cases time; cases run; exact takeInstant_lawsKept latenessEvent_firingKept
      | confirmInstant m v => cases time; cases run; exact takeInstant_lawsKept confirmEvent_firingKept
      | holdInstant m v => cases time; cases run; exact takeInstant_lawsKept holdEvent_firingKept
      | releaseTimeout m v => cases time; cases run; exact takeInstant_lawsKept releaseTimeoutEvent_firingKept
      | deadlineInstant m v => cases time; cases run; exact taken (takeDeadline_lawsKept v)
      | bypassHoldTimer m g => cases time; cases run; exact taken (holdTimerEvent_lawsKept g)
      | order m seq payload => cases time; cases run; exact takeOrder_lawsKept _ seq payload
      | orderWatchdog m => cases time; cases run; exact taken watchdogExpired_lawsKept
      | holdTimer m => cases time; cases run; exact taken holdExpired_lawsKept
      | tableWrite m seq table row bs => cases time; cases run; exact request_lawsKept (writeTable_lawsKept _ _ _ _)
      | tableCommit m seq table => cases time; cases run; exact request_lawsKept (commitTable_lawsKept _ _)
      | tableDiscard m seq table => cases time; cases run; exact request_lawsKept (discardTable_lawsKept _ _)
      | clearCounters m seq => cases time; cases run; exact request_lawsKept (clearCounters_lawsKept _)
      | clearRingStats m seq => cases time; cases run; exact request_lawsKept (State.setRgm_lawsKept _ rfl)
      | clearLevelFaults m seq valve => cases time; cases run; exact request_lawsKept (clearLevelFaults_lawsKept _ _)
      | testFire m seq valve => cases time; cases run; exact request_lawsKept (testFire_lawsKept _ _)
      | resetTrip m seq group => cases time; cases run; exact request_lawsKept (resetTrip_lawsKept _ _)
      | ringRestart m seq => cases time; cases run; exact request_lawsKept (ringRestartCommand_lawsKept _)
      | warmRestart m seq => cases time; cases run; exact request_lawsKept (warmRestartCommand_lawsKept _)
      | _ => simp [touches, lawBlocks] at apart

theorem step_lawsKept {s t : State} (run : step s = .next t) : LawsKept s t :=
  step_ind (R := LawsKept) (fun _ => .of_parts rfl rfl rfl rfl rfl rfl)
    (fun _ rest s _ run => .trans (b := { s with pending := rest }) (.of_parts rfl rfl rfl rfl rfl rfl)
      (exec_lawsKept run)) run

theorem step_timersHeld {s t : State} (run : step s = .next t) : OrderTimersHeld s → OrderTimersHeld t :=
  step_ind (R := fun s t => OrderTimersHeld s → OrderTimersHeld t) (fun _ => id)
    (fun _ _ _ _ run held => exec_timersHeld run held) run

/-- Settles O16: an order timer is written at orders and timers alone; each operation keeps the groups' records,
the PLANNED records and, with these, the groups' fit, as a station that leaves ENROLLED and a valve that becomes
OVER_LIMIT are told to their group at once. -/
theorem stepKeepsOrderTimersAndGroups : Obligations.StepKeepsOrderTimersAndGroups := fun _ _ run =>
  have kept := step_lawsKept run
  ⟨step_timersHeld run, kept.held, fun planned => ⟨kept.planned planned, fun fits => kept.fits ⟨planned, fits⟩⟩⟩

end Sys2Proof.Machine
end

section
/-! PROOFS. The rows of the five tables as values of their fields and as bytes (R172, R175, R183, Table 12-5): a
row that is in range reads back, from its bytes and from its table. -/

namespace Sys2Proof.Machine

/-! ## Bytes of a field (R183) -/

theorem beNat_lt (bs : List Byte) : beNat bs < 256 ^ bs.length := by
  induction bs using List.reverseRecOn with
  | nil => exact Nat.one_pos
  | append_singleton bs b ih =>
    rw [beNat_append, List.length_append, List.length_singleton, Nat.pow_succ]
    have := b.isLt
    omega

theorem beBytes_beNat (bs : List Byte) : beBytes bs.length (beNat bs) = bs := by
  induction bs using List.reverseRecOn with
  | nil => rfl
  | append_singleton bs b ih =>
    have high : (beNat bs * 256 + b.toNat) / 256 = beNat bs := by
      have := b.isLt
      omega
    have low : BitVec.ofNat 8 (beNat bs * 256 + b.toNat) = b := by
      apply BitVec.eq_of_toNat_eq
      have := b.isLt
      rw [BitVec.toNat_ofNat]
      omega
    rw [List.length_append, List.length_singleton, beNat_append, beBytes, high, low, ih]

/-- The value that the bytes of a field spell: signed fields have two bytes. -/
theorem field_value_toNat {f : Field} (sized : f.signed = true → f.width = 2) {raw : List Byte}
    (length : raw.length = f.width) :
    ((if f.signed then beInt16 raw else (beNat raw : Int)) % 2 ^ (8 * f.width)).toNat = beNat raw := by
  have below : beNat raw < 2 ^ (8 * f.width) := by
    rw [Nat.pow_mul, ← length]
    exact beNat_lt raw
  by_cases signed : f.signed = true
  · rw [if_pos signed]
    rw [sized signed] at below ⊢
    have word : (BitVec.ofNat 16 (beNat raw)).toNat = beNat raw := Nat.mod_eq_of_lt below
    have read : beInt16 raw % (2 ^ 16 : Nat) = (beNat raw : Int) % (2 ^ 16 : Nat) := by
      rw [beInt16, BitVec.toInt_eq_toNat_bmod, word, Int.bmod_emod]
    have whole : (beNat raw : Int) % (2 ^ 16 : Nat) = beNat raw := by
      exact_mod_cast Nat.mod_eq_of_lt below
    exact congrArg Int.toNat (read.trans whole)
  · rw [if_neg signed]
    exact_mod_cast Nat.mod_eq_of_lt below

theorem fieldBytes_parseFields {fs : List Field} (sized : ∀ f ∈ fs, f.signed = true → f.width = 2)
    {bs : List Byte} (length : bs.length = (fs.map Field.width).sum) :
    fieldBytes fs (parseFields fs bs) = bs := by
  induction fs generalizing bs with
  | nil => exact (List.length_eq_zero_iff.mp length).symm
  | cons f fs ih =>
    rw [List.map_cons, List.sum_cons] at length
    have first : (bs.take f.width).length = f.width := by
      rw [List.length_take]
      omega
    have rest := ih (bs := bs.drop f.width) (fun g mem => sized g (List.mem_cons_of_mem f mem))
      (by rw [List.length_drop]; omega)
    have own := beBytes_beNat (bs.take f.width)
    rw [first] at own
    rw [parseFields, fieldBytes, rest, field_value_toNat (sized f List.mem_cons_self) first, own,
      List.take_append_drop]

theorem rowFields_sized (id : TableId) : ∀ f ∈ rowFields id, f.signed = true → f.width = 2 := by
  cases id <;> decide

theorem parseFields_length (fs : List Field) (bs : List Byte) : (parseFields fs bs).length = fs.length := by
  induction fs generalizing bs with
  | nil => rfl
  | cons f fs ih => rw [parseFields, List.length_cons, ih, List.length_cons]

/-! ## Rows in range (R173, R175) -/

/-- Field values that make a row of a table: one for each field, all in range. -/
structure RowFits (id : TableId) (xs : List Int) : Prop where
  length : xs.length = (rowFields id).length
  range : rowInRange id xs = true

theorem rowFits_of_parsed {id : TableId} {bs : List Byte}
    (range : rowInRange id (parseFields (rowFields id) bs) = true) :
    RowFits id (parseFields (rowFields id) bs) := ⟨parseFields_length _ _, range⟩

/-- A list of field values is the list of its values by number. -/
theorem map_fieldAt (xs : List Int) : (List.range xs.length).map (fieldAt xs) = xs := by
  refine List.ext_getElem (by simp) fun i _ inside => ?_
  simp [fieldAt, inside]

section
variable {id : TableId} {xs : List Int} (fits : RowFits id xs)
include fits

/-- A field of the row lies between its limits (Tables 11-1 to 11-5). -/
theorem RowFits.bounds (i : Nat) {f : Field} (field : (rowFields id)[i]? = some f) :
    f.lo ≤ fieldAt xs i ∧ fieldAt xs i ≤ f.hi := by
  have inside : i < xs.length := fits.length ▸ (List.getElem?_eq_some_iff.mp field).1
  refine field_in_range fits.range field ?_
  rw [fieldAt, List.getD_eq_getElem?_getD, List.getElem?_eq_getElem inside]
  rfl

/-- A field that is never negative is kept whole as a natural number. -/
theorem RowFits.natAt (i : Nat)
    (unsigned : ((rowFields id)[i]?.any fun f => decide (0 ≤ f.lo)) = true) :
    ((natAt xs i : Nat) : Int) = fieldAt xs i := by
  cases field : (rowFields id)[i]? with
  | none => rw [field] at unsigned; cases unsigned
  | some f =>
    rw [field] at unsigned
    exact Int.toNat_of_nonneg (le_trans (of_decide_eq_true unsigned) (fits.bounds i field).1)

/-- The values of the row, one by one. -/
theorem RowFits.values : (List.range (rowFields id).length).map (fieldAt xs) = xs := by
  rw [← fits.length, map_fieldAt]

end

/-! ## Rows from field values and back (R172) -/

section
variable {xs : List Int}

theorem LimitsTable.toFields_ofFields (fits : RowFits .limits xs) :
    (LimitsTable.ofFields xs).toFields = xs := by
  have test : ((natAt xs 15 == 1).toNat : Int) = fieldAt xs 15 := by
    obtain ⟨low, high⟩ := fits.bounds 15 rfl
    have whole := fits.natAt 15 rfl
    have bit : natAt xs 15 = 0 ∨ natAt xs 15 = 1 := by
      simp only [Field.plain] at high
      omega
    rcases bit with bit | bit <;> rw [← whole, bit] <;> rfl
  refine Eq.trans ?_ fits.values
  simp only [LimitsTable.toFields, LimitsTable.ofFields, test, fits.natAt 8 rfl, fits.natAt 9 rfl,
    fits.natAt 10 rfl, fits.natAt 11 rfl, fits.natAt 12 rfl, fits.natAt 13 rfl, fits.natAt 14 rfl]
  rfl

theorem overlapRow_toList (fits : RowFits .overlap xs) : (overlapRowOfFields xs).toList = xs :=
  Eq.trans (by rfl) fits.values

theorem RingTable.toFields_ofFields (fits : RowFits .ring xs) :
    (RingTable.ofFields xs).toFields = xs := by
  refine Eq.trans ?_ fits.values
  simp only [RingTable.toFields, RingTable.ofFields, fits.natAt 0 rfl, fits.natAt 1 rfl, fits.natAt 2 rfl,
    fits.natAt 3 rfl, fits.natAt 4 rfl, fits.natAt 5 rfl, fits.natAt 6 rfl, fits.natAt 7 rfl,
    fits.natAt 8 rfl, fits.natAt 9 rfl, fits.natAt 10 rfl]
  rfl

/-- A valve index in range names the valve of that index (R1). -/
theorem valveOfField_index {x : Int} (low : 1 ≤ x) (high : x ≤ 24) : ((valveOfField x).val : Int) + 1 = x := by
  have index : (valveOfField x).val = x.toNat - 1 := Nat.mod_eq_of_lt (by omega)
  omega

theorem StationRow.toFields_ofFields (fits : RowFits .station xs) :
    (StationRow.ofFields xs).toFields = xs := by
  have valve : ((valveOfField (fieldAt xs 0)).val : Int) + 1 = fieldAt xs 0 := by
    obtain ⟨low, high⟩ := fits.bounds 0 rfl
    exact valveOfField_index low high
  have identity : ((BitVec.ofInt 32 (fieldAt xs 1)).toNat : Int) = fieldAt xs 1 := by
    obtain ⟨low, high⟩ := fits.bounds 1 rfl
    simp only [Field.plain] at low high
    rw [BitVec.toNat_ofInt, Int.toNat_of_nonneg (by omega)]
    omega
  refine Eq.trans ?_ fits.values
  simp only [StationRow.toFields, StationRow.ofFields, valve, identity, fits.natAt 2 rfl, fits.natAt 3 rfl,
    fits.natAt 4 rfl, fits.natAt 5 rfl]
  rfl

/-- The frequency code is 50 or 60 (Table 12-5). -/
theorem RowFits.frequency (fits : RowFits .converter xs) : fieldAt xs 0 = 50 ∨ fieldAt xs 0 = 60 := by
  obtain ⟨length, range⟩ := fits
  cases xs with
  | nil => cases length
  | cons x xs =>
    obtain ⟨first, -⟩ := (firstBadField_cons_isNone _ _ _ _ _ _).mp range
    simp only [fieldOk, Bool.and_eq_true, Bool.or_eq_true, beq_iff_eq] at first
    exact first.2.imp_left fun coded => show x = 50 by simpa using coded

theorem Nominal.hertz_of_frequency {x : Int} (code : x = 50 ∨ x = 60) :
    (((if x = 50 then .hz50 else .hz60 : Nominal).hertz : Nat) : Int) = x := by
  rcases code with rfl | rfl <;> rfl

/-- A block mode is coded 0 or 1 (Table 11-3). -/
theorem BlockMode.code_of_bit {k : Nat} (bit : k ≤ 1) :
    (if k = 0 then .direct else .viaBypass : BlockMode).code = k := by
  interval_cases k <;> rfl

/-- A trip action is coded 0 or 1 (Table 11-3). -/
theorem TripAction.code_of_bit {k : Nat} (bit : k ≤ 1) :
    (if k = 0 then .block else .bypass : TripAction).code = k := by
  interval_cases k <;> rfl

theorem ConverterTable.toFields_ofFields (fits : RowFits .converter xs) :
    (ConverterTable.ofFields xs).toFields = xs := by
  have bit (i : Nat) (field : (rowFields .converter)[i]? = some (.plain 1 0 1)) : natAt xs i ≤ 1 := by
    obtain ⟨-, high⟩ := fits.bounds i field
    exact Int.toNat_le.mpr high
  have code : (ConverterTable.ofFields xs).toFields =
      [((if fieldAt xs 0 = 50 then .hz50 else .hz60 : Nominal).hertz : Int), natAt xs 1, natAt xs 2,
        natAt xs 3, natAt xs 4, natAt xs 5, natAt xs 6, fieldAt xs 7, fieldAt xs 8, fieldAt xs 9,
        fieldAt xs 10, (if natAt xs 11 = 0 then .direct else .viaBypass : BlockMode).code,
        (if natAt xs 12 = 0 then .direct else .viaBypass : BlockMode).code,
        (if natAt xs 13 = 0 then .block else .bypass : TripAction).code,
        (if natAt xs 14 = 0 then .block else .bypass : TripAction).code] := rfl
  rw [code, Nominal.hertz_of_frequency fits.frequency, BlockMode.code_of_bit (bit 11 rfl),
    BlockMode.code_of_bit (bit 12 rfl), TripAction.code_of_bit (bit 13 rfl),
    TripAction.code_of_bit (bit 14 rfl)]
  refine Eq.trans ?_ fits.values
  simp only [fits.natAt 1 rfl, fits.natAt 2 rfl, fits.natAt 3 rfl, fits.natAt 4 rfl, fits.natAt 5 rfl,
    fits.natAt 6 rfl, fits.natAt 11 rfl, fits.natAt 12 rfl, fits.natAt 13 rfl, fits.natAt 14 rfl]
  rfl

end

end Sys2Proof.Machine
end

section
/-! PROOFS. The table frames (O41, O44, O60): what a TABLE_WRITE and a TABLE_DISCARD can do, said once, the row
that a write leaves in the shadow, and its answer to a QUERY. -/

namespace Sys2Proof.Machine

/-! ## The shadow with one row written (R175) -/

/-- The row that was written is read back from the shadow. -/
theorem shadowRow_writeRow (t : Tbs) {id : TableId} (row : Byte) {xs : List Int} (fits : RowFits id xs) :
    shadowRow (writeRow t id row xs) id row = some xs := by
  cases id with
  | limits => exact congrArg some (LimitsTable.toFields_ofFields fits)
  | overlap => exact congrArg some ((congrArg Vector.toList (setAt_get _ _ _)).trans (overlapRow_toList fits))
  | converter => exact congrArg some (ConverterTable.toFields_ofFields fits)
  | station =>
    exact (congrArg (Option.map StationRow.toFields) (setAt_get _ _ _)).trans
      (congrArg some (StationRow.toFields_ofFields fits))
  | ring => exact congrArg some (RingTable.toFields_ofFields fits)

/-- Rows 1 to n of a table with n rows stand at different places. -/
theorem rowIndex_injective {n : Nat} [NeZero n] {a b : Byte} (lowA : 1 ≤ a.toNat) (highA : a.toNat ≤ n)
    (lowB : 1 ≤ b.toNat) (highB : b.toNat ≤ n)
    (same : Fin.ofNat n (a.toNat - 1) = Fin.ofNat n (b.toNat - 1)) : a = b := by
  have values := congrArg Fin.val same
  rw [Fin.val_ofNat, Fin.val_ofNat, Nat.mod_eq_of_lt (by omega), Nat.mod_eq_of_lt (by omega)] at values
  exact BitVec.eq_of_toNat_eq (by omega)

/-- The other rows of an open shadow stand. -/
theorem shadowRow_writeRow_other {t : Tbs} {id : TableId} {row other : Byte} {xs : List Int}
    (low : 1 ≤ row.toNat) (high : row.toNat ≤ rowCount id) (low' : 1 ≤ other.toNat)
    (high' : other.toNat ≤ rowCount id) (apart : other ≠ row) (opened : hasShadow t id = true) :
    shadowRow (writeRow t id row xs) id other = shadowRow t id other := by
  have single (one : rowCount id = 1) : False :=
    apart (BitVec.eq_of_toNat_eq (by omega))
  cases id with
  | limits | converter | ring => exact absurd rfl single
  | overlap =>
    obtain ⟨o, shadow⟩ := Option.isSome_iff_exists.mp opened
    have place : overlapRow row ≠ overlapRow other := fun same =>
      apart (rowIndex_injective (n := 4) low high low' high' same).symm
    simp only [shadowRow, writeRow, shadow, Option.getD_some, Option.map_some, setAt_get_ne _ _ _ _ place]
  | station =>
    obtain ⟨st, shadow⟩ := Option.isSome_iff_exists.mp opened
    have place : stationRow row ≠ stationRow other := fun same =>
      apart (rowIndex_injective (n := 24) low high low' high' same).symm
    simp only [shadowRow, writeRow, shadow, Option.getD_some, setAt_get_ne _ _ _ _ place]

theorem hasShadow_writeRow (t : Tbs) (id : TableId) (row : Byte) (xs : List Int) :
    hasShadow (writeRow t id row xs) id = true := by cases id <;> rfl

/-- A write leaves every active table (R172). -/
theorem activeRow_writeRow (t : Tbs) (id : TableId) (row : Byte) (xs : List Int) (other : TableId) (k : Byte) :
    activeRow (writeRow t id row xs) other k = activeRow t other k := by cases id <;> rfl

/-! ## TABLE_WRITE (R175, R184) -/

theorem writeTable_of_unknown (s : State) {table : Byte} (row : Byte) (contents : List Byte)
    (unknown : tableOfCode table = none) :
    writeTable s table row contents = (s, refuse .badTable table) := by rw [writeTable, unknown]

section
variable (s : State) {id : TableId} {row : Byte} {contents : List Byte}

/-- With the right length the row number is checked first, then the fields in their order. -/
theorem writeTable_of_known (length : contents.length = rowSize id) :
    writeTable s (tableCode id) row contents =
      if rowOk id row then
        match firstBadField id 1 (rowFields id) (parseFields (rowFields id) contents) with
        | some k => (s, badValue (tableCode id) k)
        | none =>
          (s.setTbs (writeRow s.tbs id row (parseFields (rowFields id) contents)), ok (tableCode id))
      else (s, badIndex (tableCode id) row) := by
  rw [writeTable, tableOfCode_tableCode]
  exact if_neg (not_not_intro length)

theorem writeTable_of_badRow (length : contents.length = rowSize id)
    (outside : row.toNat = 0 ∨ rowCount id < row.toNat) :
    writeTable s (tableCode id) row contents = (s, badIndex (tableCode id) row) := by
  have bad : ¬ rowOk id row = true := by
    rw [rowOk_iff]
    omega
  rw [writeTable_of_known s length, if_neg bad]

theorem writeTable_of_badField (length : contents.length = rowSize id) (known : rowOk id row = true) {k : Nat}
    (bad : firstBadField id 1 (rowFields id) (parseFields (rowFields id) contents) = some k) :
    writeTable s (tableCode id) row contents = (s, badValue (tableCode id) k) := by
  rw [writeTable_of_known s length, if_pos known, bad]

theorem writeTable_of_row (length : contents.length = rowSize id) (known : rowOk id row = true)
    (range : rowInRange id (parseFields (rowFields id) contents) = true) :
    writeTable s (tableCode id) row contents =
      (s.setTbs (writeRow s.tbs id row (parseFields (rowFields id) contents)), ok (tableCode id)) := by
  rw [writeTable_of_known s length, if_pos known, Option.isNone_iff_eq_none.mp range]

end

theorem exec_tableWrite_of_answer {s t : State} (n : Time) (seq : Byte) {table row : Byte}
    {contents : List Byte} {a : Answer} (room : replyCount s.olp.queue < 3)
    (answer : writeTable (s.at n) table row contents = (t, a)) :
    exec (.tableWrite n seq table row contents) s =
      .next (enqueue t (.reply ⟨4#8, seq, a.result, a.subject, a.detail, a.contents⟩)) := by
  show Host.Outcome.next (request (s.at n) 4#8 seq fun u => writeTable u table row contents) = _
  rw [request_of_room (s := s.at n) room, answer]

/-- Settles O41: one case for each check, in the order in which `writeTable` makes them. -/
theorem tableWriteGoesToTheShadow : Obligations.TableWriteGoesToTheShadow := by
  intro s n seq row contents room
  refine ⟨fun k unknown => ?unknown, fun id length => ⟨fun outside => ?index, fun low high =>
    ⟨fun k bad => ?value, fun range => ⟨?taken, ?active, ?opened⟩⟩⟩⟩
  case unknown => exact exec_tableWrite_of_answer n seq room (writeTable_of_unknown _ _ _ unknown)
  case index => exact exec_tableWrite_of_answer n seq room (writeTable_of_badRow _ length outside)
  case value =>
    exact exec_tableWrite_of_answer n seq room
      (writeTable_of_badField _ length ((rowOk_iff id row).mpr ⟨low, high⟩) bad)
  case taken =>
    exact exec_tableWrite_of_answer n seq room
      (writeTable_of_row (s.at n) length ((rowOk_iff id row).mpr ⟨low, high⟩) range)
  case active => exact activeRow_writeRow _ _ _ _
  case opened => exact hasShadow_writeRow _ _ _ _

/-! ## A written row is read back (R179, Tables 12-5 and 12-9) -/

/-- The contents of a QUERY of an assigned row of a shadow. -/
theorem rowContents_of_shadow (id : TableId) (row : Byte) (xs : List Int) :
    rowContents id row true (some xs) = [tableCode id, row, 1#8, 1#8] ++ fieldBytes (rowFields id) xs := rfl

/-- Settles O60: the row is read back by `shadowRow_writeRow`, its bytes by `fieldBytes_parseFields`. -/
theorem writtenRowsReadBack : Obligations.WrittenRowsReadBack := by
  intro t id row contents length low high range
  have read := shadowRow_writeRow t row (rowFits_of_parsed range)
  have bytes := fieldBytes_parseFields (rowFields_sized id) length
  refine ⟨read, bytes, fun other low' high' => shadowRow_writeRow_other low high low' high',
    fun s n seq written room => ?_⟩
  have answer := answerTableRow_of_shadow (s.at n) ((rowOk_iff id row).mpr ⟨low, high⟩)
  rw [State.at_tbs, written, hasShadow_writeRow, if_pos rfl, read, rowContents_of_shadow, bytes] at answer
  exact congrArg Host.Outcome.next (query_of_room (s := s.at n) room seq
    (fun u => answerTableRow u (tableCode id) row 1#8) answer)

/-! ## TABLE_DISCARD (R176) -/

theorem discardTable_of_unknown (s : State) {table : Byte} (unknown : tableOfCode table = none) :
    discardTable s table = (s, refuse .badTable table) := by rw [discardTable, unknown]

theorem discardTable_of_known (s : State) (id : TableId) :
    discardTable s (tableCode id) = (s.setTbs (dropShadow s.tbs id), ok (tableCode id)) := by
  rw [discardTable, tableOfCode_tableCode]

theorem exec_tableDiscard_of_answer {s t : State} (n : Time) (seq : Byte) {table : Byte} {a : Answer}
    (room : replyCount s.olp.queue < 3) (answer : discardTable (s.at n) table = (t, a)) :
    exec (.tableDiscard n seq table) s =
      .next (enqueue t (.reply ⟨6#8, seq, a.result, a.subject, a.detail, a.contents⟩)) := by
  show Host.Outcome.next (request (s.at n) 6#8 seq fun u => discardTable u table) = _
  rw [request_of_room (s := s.at n) room, answer]

theorem hasShadow_dropShadow (t : Tbs) (id : TableId) : hasShadow (dropShadow t id) id = false := by
  cases id <;> rfl

/-- A discard of a table with no shadow changes nothing. -/
theorem dropShadow_of_unopened {t : Tbs} {id : TableId} (unopened : hasShadow t id = false) :
    dropShadow t id = t := by
  have none {α : Type} {x : Option α} (closed : x.isSome = false) : none = x :=
    (Option.isNone_iff_eq_none.mp (Option.isSome_eq_false_iff.mp closed)).symm
  cases id <;> rw [dropShadow, none unopened]

theorem shadowRow_dropShadow (t : Tbs) {id other : TableId} (apart : other ≠ id) (row : Byte) :
    shadowRow (dropShadow t id) other row = shadowRow t other row := by
  cases id with
  | limits => cases other with | limits => exact absurd rfl apart | _ => rfl
  | overlap => cases other with | overlap => exact absurd rfl apart | _ => rfl
  | converter => cases other with | converter => exact absurd rfl apart | _ => rfl
  | station => cases other with | station => exact absurd rfl apart | _ => rfl
  | ring => cases other with | ring => exact absurd rfl apart | _ => rfl

theorem activeRow_dropShadow (t : Tbs) (id other : TableId) (row : Byte) :
    activeRow (dropShadow t id) other row = activeRow t other row := by cases id <;> rfl

theorem dropShadow_generation (t : Tbs) (id : TableId) : (dropShadow t id).generation = t.generation := by
  cases id <;> rfl

/-- Settles O44. -/
theorem tableDiscardDropsTheShadow : Obligations.TableDiscardDropsTheShadow := fun s n seq room =>
  ⟨fun _ unknown => exec_tableDiscard_of_answer n seq room (discardTable_of_unknown _ unknown),
    fun id => ⟨dropShadow s.tbs id,
      exec_tableDiscard_of_answer n seq room (discardTable_of_known (s.at n) id),
      hasShadow_dropShadow _ _, dropShadow_of_unopened, fun _ apart => shadowRow_dropShadow _ apart,
      activeRow_dropShadow _ _, dropShadow_generation _ _⟩⟩

end Sys2Proof.Machine
end

section
/-! PROOFS. The tables along every command (O5, O6, O15): what the three table frames can do, said once; a request
that is refused leaves the state, the active tables change at a commit alone, and every table stays in range. -/

namespace Sys2Proof.Machine

/-! ## What a table frame can do (R175 to R177) -/

/-- A TABLE_WRITE is refused, or a row in range is written to the shadow. -/
theorem writeTable_cases (s : State) (table row : Byte) (contents : List Byte) :
    (∃ a, writeTable s table row contents = (s, a)) ∨
      ∃ id xs, RowFits id xs ∧
        writeTable s table row contents = (s.setTbs (writeRow s.tbs id row xs), ok table) := by
  unfold writeTable
  split
  · exact .inl ⟨_, rfl⟩
  · next id _ =>
    unfold writeKnown
    dsimp only
    split
    · exact .inl ⟨_, rfl⟩
    · split
      · split
        · exact .inl ⟨_, rfl⟩
        · next range => exact .inr ⟨id, _, rowFits_of_parsed (Option.isNone_iff_eq_none.mpr range), rfl⟩
      · exact .inl ⟨_, rfl⟩

/-- A TABLE_DISCARD is refused, or drops a shadow. -/
theorem discardTable_cases (s : State) (table : Byte) :
    (∃ a, discardTable s table = (s, a)) ∨
      ∃ id, discardTable s table = (s.setTbs (dropShadow s.tbs id), ok table) := by
  unfold discardTable
  split
  · exact .inl ⟨_, rfl⟩
  · exact .inr ⟨_, rfl⟩

/-- A TABLE_COMMIT is refused, or takes an open shadow that meets its conditions (R173, R174). -/
theorem commitTable_cases (s : State) (table : Byte) :
    (∃ a, commitTable s table = (s, a)) ∨
      ∃ id, hasShadow s.tbs id = true ∧ failingRow s.tbs id = none ∧
        commitTable s table = (takeCommit s id, ok table) := by
  unfold commitTable
  split
  · exact .inl ⟨_, rfl⟩
  · next id _ =>
    split
    · exact .inl ⟨_, rfl⟩
    · next opened =>
      split
      · exact .inl ⟨_, rfl⟩
      · split
        · exact .inl ⟨_, rfl⟩
        · next valid => exact .inr ⟨id, by simpa using opened, valid, rfl⟩

/-! ## Refused requests (R182) -/

/-- The request is taken, or leaves the state as it was. -/
def TakenOrKept (s : State) (x : State × Answer) : Prop := x.2.result = .ok ∨ x.1 = s

theorem TakenOrKept.kept {s : State} {x : State × Answer} (h : TakenOrKept s x) :
    x.2.result ≠ .ok → x.1 = s := h.resolve_left

theorem writeTable_takenOrKept (s : State) (table row : Byte) (contents : List Byte) :
    TakenOrKept s (writeTable s table row contents) := by
  obtain ⟨a, refused⟩ | ⟨id, xs, -, taken⟩ := writeTable_cases s table row contents
  · exact .inr (congrArg Prod.fst refused)
  · exact .inl (congrArg (fun x => x.2.result) taken)

theorem discardTable_takenOrKept (s : State) (table : Byte) : TakenOrKept s (discardTable s table) := by
  obtain ⟨a, refused⟩ | ⟨id, taken⟩ := discardTable_cases s table
  · exact .inr (congrArg Prod.fst refused)
  · exact .inl (congrArg (fun x => x.2.result) taken)

theorem commitTable_takenOrKept (s : State) (table : Byte) : TakenOrKept s (commitTable s table) := by
  obtain ⟨a, refused⟩ | ⟨id, -, -, taken⟩ := commitTable_cases s table
  · exact .inr (congrArg Prod.fst refused)
  · exact .inl (congrArg (fun x => x.2.result) taken)

theorem testFire_takenOrKept (s : State) (valve : Byte) : TakenOrKept s (testFire s valve) := by
  unfold testFire
  split
  · exact .inr rfl
  · split
    · exact .inl rfl
    · exact .inr rfl

theorem resetTrip_takenOrKept (s : State) (group : Byte) : TakenOrKept s (resetTrip s group) := by
  unfold resetTrip
  split
  · exact .inr rfl
  · split
    · exact .inl rfl
    · exact .inr rfl

theorem clearLevelFaults_takenOrKept (s : State) (valve : Byte) :
    TakenOrKept s (clearLevelFaults s valve) := by
  unfold clearLevelFaults
  by_cases all : valve = 0#8
  · rw [if_pos all]
    exact .inl rfl
  · rw [if_neg all]
    split
    · exact .inr rfl
    · exact .inl rfl

theorem ringRestartCommand_takenOrKept (s : State) : TakenOrKept s (ringRestartCommand s) := by
  unfold ringRestartCommand
  split
  · exact .inl rfl
  · exact .inr rfl

theorem warmRestartCommand_takenOrKept (s : State) : TakenOrKept s (warmRestartCommand s) := by
  unfold warmRestartCommand
  split
  · exact .inl rfl
  · exact .inr rfl

/-- Settles O5: each of the eight answers OK or leaves the state. -/
theorem refusedRequestsChangeNothing : Obligations.RefusedRequestsChangeNothing := fun s a b xs =>
  ⟨(writeTable_takenOrKept s a b xs).kept, (commitTable_takenOrKept s a).kept,
    (discardTable_takenOrKept s a).kept, (testFire_takenOrKept s a).kept, (resetTrip_takenOrKept s a).kept,
    (clearLevelFaults_takenOrKept s a).kept, (ringRestartCommand_takenOrKept s).kept,
    (warmRestartCommand_takenOrKept s).kept⟩

/-! ## The active tables (R172, R177) -/

/-- The active tables and the generation stand. -/
structure ActiveStands (t u : Tbs) : Prop where
  limits : u.limits = t.limits
  overlap : u.overlap = t.overlap
  converter : u.converter = t.converter
  ring : u.ring = t.ring
  station : u.station = t.station
  generation : u.generation = t.generation

theorem ActiveStands.refl (t : Tbs) : ActiveStands t t := ⟨rfl, rfl, rfl, rfl, rfl, rfl⟩

theorem writeRow_activeStands (t : Tbs) (id : TableId) (row : Byte) (xs : List Int) :
    ActiveStands t (writeRow t id row xs) := by
  cases id <;> exact ⟨rfl, rfl, rfl, rfl, rfl, rfl⟩

theorem dropShadow_activeStands (t : Tbs) (id : TableId) : ActiveStands t (dropShadow t id) := by
  cases id <;> exact ⟨rfl, rfl, rfl, rfl, rfl, rfl⟩

/-- The tables after a request are those its act leaves: its drop and its REPLY are the Order Link Port's. -/
theorem request_tbs {P : Tbs → Prop} {s : State} {type seq : Byte} {act : State → State × Answer}
    (dropped : P s.tbs) (acted : P (act s).1.tbs) : P (request s type seq act).tbs :=
  request_ind (P := fun u => P u.tbs) dropped fun f => by rwa [(enqueue_only _ f).tbs (by decide)]

/-- What a command can do to the tables: nothing; all, at power-up; or what its table frame does. -/
theorem exec_tbs_ind {P : Tbs → Prop} {c : Instr} {s t : State} (run : exec c s = .next t)
    (stands : P s.tbs) (up : c = .powerUp → P Tbs.reset)
    (write : ∀ m n k r x, c = .tableWrite m n k r x →
      ∀ id xs, RowFits id xs → P (writeRow s.tbs id r xs))
    (discard : ∀ m n k, c = .tableDiscard m n k → ∀ id, P (dropShadow s.tbs id))
    (commit : ∀ m n k, c = .tableCommit m n k → ∀ id, hasShadow s.tbs id = true →
      failingRow s.tbs id = none → P (noteCommit s id).tbs) : P t.tbs := by
  cases time : c.time? with
  | none =>
    cases c with
    | powerUp => cases run; exact up rfl
    | _ => cases time
  | some n =>
    obtain ⟨u, run', only⟩ := exec_touches c s n time
    cases run.symm.trans run'
    by_cases apart : Block.tbs ∉ touches c
    · rw [only.tbs apart]
      exact stands
    · cases c with
      | powerUp => cases time
      | tableWrite m seq table row contents =>
        cases time; cases run
        refine request_tbs (s := s.at n) stands ?_
        obtain ⟨a, refused⟩ | ⟨id, xs, fits, taken⟩ := writeTable_cases (s.at n) table row contents
        · rw [refused]
          exact stands
        · rw [taken]
          exact write _ _ _ _ _ rfl id xs fits
      | tableDiscard m seq table =>
        cases time; cases run
        refine request_tbs (s := s.at n) stands ?_
        obtain ⟨a, refused⟩ | ⟨id, taken⟩ := discardTable_cases (s.at n) table
        · rw [refused]
          exact stands
        · rw [taken]
          exact discard _ _ _ rfl id
      | tableCommit m seq table =>
        cases time; cases run
        refine request_tbs (s := s.at n) stands ?_
        obtain ⟨a, refused⟩ | ⟨id, opened, valid, taken⟩ := commitTable_cases (s.at n) table
        · rw [refused]
          exact stands
        · have tbs : (takeCommit (s.at n) id).tbs = (noteCommit s id).tbs :=
            ((bothGroups_only _ _).tbs (by decide)).trans ((commitEffects_only _ id).tbs (by decide))
          rw [taken, tbs]
          exact commit _ _ _ rfl id opened valid
      | _ => simp [touches] at apart

/-- Settles O6: of the other commands the table frames alone touch the tables, and they leave the active ones. -/
theorem onlyCommitsChangeActiveTables : Obligations.OnlyCommitsChangeActiveTables := by
  intro c s t run up other
  have active : ActiveStands s.tbs t.tbs :=
    exec_tbs_ind (P := ActiveStands s.tbs) run (.refl _) (fun reset => absurd reset up)
      (fun _ _ _ r _ _ id xs _ => writeRow_activeStands _ id r xs)
      (fun _ _ _ _ id => dropShadow_activeStands _ id) (fun m n k commit => absurd commit (other m n k))
  obtain ⟨limits, overlap, converter, ring, station, generation⟩ := active
  exact ⟨limits, overlap, converter, ring, station, generation, fun undiscarded unwritten =>
    exec_tbs_ind (P := fun u => u = s.tbs) run rfl (fun reset => absurd reset up)
      (fun m n k r x write => absurd write (unwritten m n k r x))
      (fun m n k discard => absurd discard (undiscarded m n k))
      (fun m n k commit => absurd commit (other m n k))⟩

/-! ## The Station Table that a valid shadow makes (R174) -/

/-- In a shadow without a failing row every row is assigned, and no lower row names its valve. -/
theorem assigned_of_valid {shadow : StationShadow} (valid : firstFailingRow shadow = none) (p : RingPos) :
    ∃ row, shadow[p] = some row ∧ ∀ q < p, ∀ other, shadow[q] = some other → other.valve ≠ row.valve := by
  have passes : stationRowFails shadow p = false :=
    Bool.eq_false_iff.mpr (List.find?_eq_none.mp valid p (List.mem_finRange p))
  unfold stationRowFails at passes
  split at passes
  · cases passes
  · next row assigned =>
    refine ⟨row, assigned, fun q below other named same => ?_⟩
    have free := List.any_eq_false.mp passes q (List.mem_finRange q)
    rw [decide_eq_true below, named] at free
    exact free (decide_eq_true same)

/-- A valid shadow makes a Station Table with its rows, which serves each valve once. -/
theorem stationTableOf_of_valid {shadow : StationShadow} (valid : firstFailingRow shadow = none) :
    ∃ st, stationTableOf shadow = some st ∧ (∀ p : RingPos, shadow[p] = some st[p]) ∧
      ∀ p q : RingPos, st[p].valve = st[q].valve → p = q := by
  obtain ⟨row0, first, -⟩ := assigned_of_valid valid 0
  have full : ((List.finRange 24).all fun p : RingPos => shadow[p].isSome) = true :=
    List.all_eq_true.mpr fun p _ => by
      obtain ⟨row, assigned, -⟩ := assigned_of_valid valid p
      rw [assigned]
      rfl
  let st : StationTable := Vector.ofFn fun p => shadow[p].getD row0
  have made : stationTableOf shadow = some st := by
    rw [stationTableOf, first]
    exact if_pos full
  have rows (p : RingPos) : shadow[p] = some st[p] := by
    obtain ⟨row, assigned, -⟩ := assigned_of_valid valid p
    rw [show st[p] = shadow[p].getD row0 from ofFn_get _ p, assigned]
    rfl
  clear_value st
  have apart (p q : RingPos) (below : q < p) : st[q].valve ≠ st[p].valve := by
    obtain ⟨row, assigned, free⟩ := assigned_of_valid valid p
    rw [Option.some.inj ((rows p).symm.trans assigned)]
    exact free q below _ (rows q)
  refine ⟨st, made, rows, fun p q same => ?_⟩
  rcases lt_trichotomy p q with below | equal | below
  · exact absurd same (apart q p below)
  · exact equal
  · exact absurd same.symm (apart p q below)

/-! ## Tables in range (R173 to R175, R177) -/

/-- The tables hold their ranges (`TablesInRange`, of the Table Store alone). -/
def StoreInRange (t : Tbs) : Prop := ActiveInRange t ∧ ShadowsInRange t

/-- An Overlap Table in range stays so when one row is replaced by a row in range. -/
theorem overlapRows_set {o : OverlapTable} (old : ∀ b : Fin 4, rowInRange .overlap o[b].toList = true)
    {xs : List Int} (fits : RowFits .overlap xs) (k b : Fin 4) :
    rowInRange .overlap (setAt o k (overlapRowOfFields xs))[b].toList = true := by
  rw [setAt_get_eq]
  split
  · rw [overlapRow_toList fits]
    exact fits.range
  · exact old b

/-- The rows of a Station Table shadow are in range. -/
def StationRowsInRange (shadow : StationShadow) : Prop :=
  ∀ p : RingPos, ∀ row, shadow[p] = some row → rowInRange .station row.toFields = true

theorem StationRowsInRange.set {shadow : StationShadow} (old : StationRowsInRange shadow) {xs : List Int}
    (fits : RowFits .station xs) (k : RingPos) :
    StationRowsInRange (setAt shadow k (some (StationRow.ofFields xs))) := by
  intro p row assigned
  rw [setAt_get_eq] at assigned
  split at assigned
  · cases assigned
    rw [StationRow.toFields_ofFields fits]
    exact fits.range
  · exact old p row assigned

/-- A shadow is opened as a copy of the active table, or with every row unassigned (R174, R175). -/
theorem openedStation_inRange {t : Tbs} (active : ActiveInRange t) : StationRowsInRange (openedStation t) := by
  obtain ⟨-, -, -, -, station⟩ := active
  intro p row assigned
  unfold openedStation at assigned
  split at assigned
  · rw [fill_get] at assigned
    cases assigned
  · next st table =>
    rw [mapVec_get] at assigned
    cases assigned
    exact (station st table).1 p

theorem writeRow_inRange {t : Tbs} (held : StoreInRange t) {id : TableId} {xs : List Int}
    (fits : RowFits id xs) (row : Byte) : StoreInRange (writeRow t id row xs) := by
  obtain ⟨active, limits, overlap, converter, ring, station⟩ := held
  cases id with
  | limits =>
    refine ⟨active, fun x written => ?_, overlap, converter, ring, station⟩
    cases written
    rw [LimitsTable.toFields_ofFields fits]
    exact fits.range
  | overlap =>
    refine ⟨active, limits, fun x written => ?_, converter, ring, station⟩
    cases written
    refine overlapRows_set ?_ fits _
    cases opened : t.overlapShadow with
    | none => exact active.2.1
    | some o => exact overlap o opened
  | converter =>
    refine ⟨active, limits, overlap, fun x written => ?_, ring, station⟩
    cases written
    rw [ConverterTable.toFields_ofFields fits]
    exact fits.range
  | station =>
    refine ⟨active, limits, overlap, converter, ring, fun x written => ?_⟩
    cases written
    refine StationRowsInRange.set ?_ fits _
    cases opened : t.stationShadow with
    | none => exact openedStation_inRange active
    | some shadow => exact station shadow opened
  | ring =>
    refine ⟨active, limits, overlap, converter, fun x written => ?_, station⟩
    cases written
    rw [RingTable.toFields_ofFields fits]
    exact fits.range

theorem dropShadow_inRange {t : Tbs} (held : StoreInRange t) (id : TableId) :
    StoreInRange (dropShadow t id) := by
  obtain ⟨active, limits, overlap, converter, ring, station⟩ := held
  cases id with
  | limits => exact ⟨active, nofun, overlap, converter, ring, station⟩
  | overlap => exact ⟨active, limits, nofun, converter, ring, station⟩
  | converter => exact ⟨active, limits, overlap, nofun, ring, station⟩
  | station => exact ⟨active, limits, overlap, converter, ring, nofun⟩
  | ring => exact ⟨active, limits, overlap, converter, nofun, station⟩

/-- The one row of a table whose shadow does not fail meets its condition. -/
theorem valid_of_rowOne {α : Type} {valid : α → Bool} {x : α} (passes : rowOne valid (some x) = none) :
    valid x = true := by
  by_contra fails
  exact absurd ((if_neg fails).symm.trans passes) nofun

/-- An open shadow in range that meets the conditions at commit makes an active table in range. -/
theorem activate_inRange {t : Tbs} (held : StoreInRange t) {id : TableId} (opened : hasShadow t id = true)
    (valid : failingRow t id = none) : StoreInRange (activate t id) := by
  obtain ⟨⟨limits, overlap, converter, ring, station⟩, limits', overlap', converter', ring', station'⟩ := held
  cases id with
  | limits =>
    obtain ⟨x, shadow⟩ := Option.isSome_iff_exists.mp opened
    rw [failingRow, shadow] at valid
    refine ⟨⟨?_, overlap, converter, ring, station⟩, nofun, overlap', converter', ring', station'⟩
    rw [activate, shadow]
    exact Bool.and_eq_true_iff.mpr ⟨limits' x shadow, valid_of_rowOne valid⟩
  | overlap =>
    obtain ⟨x, shadow⟩ := Option.isSome_iff_exists.mp opened
    refine ⟨⟨limits, ?_, converter, ring, station⟩, limits', nofun, converter', ring', station'⟩
    rw [activate, shadow]
    exact overlap' x shadow
  | converter =>
    obtain ⟨x, shadow⟩ := Option.isSome_iff_exists.mp opened
    rw [failingRow, shadow] at valid
    refine ⟨⟨limits, overlap, ?_, ring, station⟩, limits', overlap', nofun, ring', station'⟩
    rw [activate, shadow]
    exact Bool.and_eq_true_iff.mpr ⟨converter' x shadow, valid_of_rowOne valid⟩
  | station =>
    obtain ⟨x, shadow⟩ := Option.isSome_iff_exists.mp opened
    rw [failingRow, shadow, Option.map_eq_none_iff] at valid
    obtain ⟨st, made, rows, injective⟩ := stationTableOf_of_valid valid
    refine ⟨⟨limits, overlap, converter, ring, fun st' table => ?_⟩, limits', overlap', converter', ring', nofun⟩
    rw [activate, shadow] at table
    cases made.symm.trans table
    exact ⟨fun p => station' x shadow p st[p] (rows p), injective⟩
  | ring =>
    obtain ⟨x, shadow⟩ := Option.isSome_iff_exists.mp opened
    rw [failingRow, shadow] at valid
    refine ⟨⟨limits, overlap, converter, ?_, station⟩, limits', overlap', converter', nofun, station'⟩
    rw [activate, shadow]
    exact Bool.and_eq_true_iff.mpr ⟨ring' x shadow, valid_of_rowOne valid⟩

/-- Settles O15: a row is written in range, a shadow is dropped, or one that meets the conditions at commit becomes
the active table; power-up gives the defaults. -/
theorem stepKeepsTablesInRange : Obligations.StepKeepsTablesInRange := fun _ _ run =>
  step_ind (R := fun s t => TablesInRange s → TablesInRange t) (fun _ held => held)
    (fun _ rest s _ run held => exec_tbs_ind (P := StoreInRange) (s := { s with pending := rest }) run held
      (fun _ => reset_tables) (fun _ _ _ row _ _ _ _ fits => writeRow_inRange held fits row)
      (fun _ _ _ _ id => dropShadow_inRange held id)
      (fun _ _ _ _ _ opened valid => activate_inRange held opened valid)) run

end Sys2Proof.Machine
end

section
/-! PROOFS. Commits that are taken and the ring restart (O42, O49): BLOCKED groups without a BYPASS order and with
a deblock-inhibit cause only evaluate their conditions, and a Station Table commit makes the level records anew. -/

namespace Sys2Proof.Machine

/-! ## Groups that only evaluate their conditions (R142, R143, R144) -/

/-- Both groups are BLOCKED and stay so: no BYPASS is in force, and each has a deblock-inhibit cause. -/
structure Still (s : State) : Prop where
  blocked : ∀ g : Group, s.groups[g].state = .blocked
  unbypassed : ∀ g : Group, commandOf s.olp.order.flags[g] ≠ .bypass
  inhibited : ∀ g : Group, BoolSet.any (inhibitSet s g) = true

theorem Quiet.still {s : State} (quiet : Quiet s) : Still s :=
  ⟨quiet.blocked, quiet.unbypassed, fun g => inhibitSet_any g quiet.unlocked⟩

/-- An event without an effect of its own on a BLOCKED group. -/
def IdleEvent (e : GroupEvent) : Prop :=
  ∀ (s : State) (g : Group), s.groups[g].state = .blocked → ownEffect s g e = (s, [])

theorem Passive.idle {e : GroupEvent} (passive : Passive e) : IdleEvent e :=
  fun _ _ blocked => ownEffect_of_passive passive blocked

theorem tableCommit_idle : IdleEvent .tableCommit := fun _ _ _ => rfl

theorem groupEvent_of_still {s : State} (g : Group) {e : GroupEvent} (idle : IdleEvent e) (still : Still s) :
    groupEvent s g e = evalInhibits s g := by
  have inhibited : BoolSet.any (evalInhibits s g).groups[g].inhibits = true := by
    rw [evalInhibits_evaluated, evalInhibits, inhibitSet_setGroup]
    exact still.inhibited g
  have flags : applyFlags (evalInhibits s g) g = (evalInhibits s g, []) :=
    applyFlags_of_quiet ((evalInhibits_state s g).trans (still.blocked g)) (still.unbypassed g) inhibited
  have handled : handleEvent s g e = (evalInhibits s g, []) := by
    rw [handleEvent_eq, idle s g (still.blocked g), flags, List.append_nil]
  rw [groupEvent, Nat.add_comm, runEvents_cons, handled]
  cases 2 * s.fsc.records.length <;> rfl

theorem evalInhibits_still {s : State} (g : Group) (still : Still s) : Still (evalInhibits s g) := by
  refine ⟨fun h => ?_, still.unbypassed, still.inhibited⟩
  rw [evalInhibits, State.setGroup_groups, setAt_get_eq]
  split
  · exact still.blocked g
  · exact still.blocked h

theorem bothGroups_of_still {s : State} {e : GroupEvent} (idle : IdleEvent e) (still : Still s) :
    bothGroups s e = evalInhibits (evalInhibits s 0) 1 := by
  rw [bothGroups, groupEvent_of_still 0 idle still, groupEvent_of_still 1 idle (evalInhibits_still 0 still)]

/-- Such an event leaves all but the groups' records. -/
theorem bothGroups_still_only {s : State} {e : GroupEvent} (idle : IdleEvent e) (still : Still s) :
    Only [.groups] s (bothGroups s e) := by
  rw [bothGroups_of_still idle still]
  exact Only.trans (s.setGroup_only 0 _) (State.setGroup_only _ 1 _)

/-- Of its record each group replaces the deblock-inhibit cause set. -/
theorem bothGroups_still_groups {s : State} {e : GroupEvent} (idle : IdleEvent e) (still : Still s) (g : Group) :
    (bothGroups s e).groups[g] = { s.groups[g] with inhibits := inhibitSet (bothGroups s e) g } := by
  rw [bothGroups_of_still idle still]
  simp only [evalInhibits, inhibitSet_setGroup, State.setGroup_groups, setAt_get_eq]
  match g with
  | 0 | 1 => rfl

/-! ## A ring restart (R103, R117) -/

/-- With no station ENROLLED the cause STATION_NOT_ENROLLED stands (Table 9-4). -/
theorem inhibitSet_of_reset {s : State} (stations : s.rgm.stations = fill 24 Station.reset) (g : Group) :
    BoolSet.any (inhibitSet s g) = true := by
  have none (v : Valve) : valveEnrolled s v = false := by
    rw [← Bool.not_eq_true, valveEnrolled_iff]
    rintro ⟨p, -, enrolled⟩
    rw [stations, fill_get] at enrolled
    cases enrolled
  have member : ∃ v : Valve, v ∈ groupValves g := by
    revert g
    decide
  obtain ⟨v, own⟩ := member
  have cause : (inhibitSet s g)[(2 : Fin 6)] = true := by
    rw [inhibitSet, ofFn_get]
    show (!(groupValves g).all (valveEnrolled s)) = true
    rw [Bool.not_eq_true', List.all_eq_false]
    exact ⟨v, own, by rw [none]; exact Bool.false_ne_true⟩
  exact List.any_eq_true.mpr ⟨_, Vector.mem_toList_iff.mpr (Vector.getElem_mem (i := 2) (by decide)), cause⟩

/-- A still state is followed by a still one that differs in the groups' records and the sticky flags. -/
def StaysStill (s t : State) : Prop := Still s → Still t ∧ Only [.groups, .sticky] s t

theorem StaysStill.refl (s : State) : StaysStill s s := fun still => ⟨still, .refl _ s⟩

theorem StaysStill.trans {a b c : State} (h : StaysStill a b) (k : StaysStill b c) : StaysStill a c :=
  fun still =>
    have ⟨mid, first⟩ := h still
    have ⟨last, second⟩ := k mid
    ⟨last, first.trans second⟩

theorem StaysStill.foldl {α : Type} (f : State → α → State) (h : ∀ s x, StaysStill s (f s x))
    (xs : List α) (s : State) : StaysStill s (xs.foldl f s) := by
  induction xs generalizing s with
  | nil => exact .refl s
  | cons x xs ih => exact (h s x).trans (ih _)

theorem groupEvent_staysStill (s : State) (g : Group) {e : GroupEvent} (idle : IdleEvent e) :
    StaysStill s (groupEvent s g e) := by
  intro still
  rw [groupEvent_of_still g idle still]
  exact ⟨evalInhibits_still g still, (s.setGroup_only g _).of rfl⟩

theorem bothGroups_staysStill (s : State) {e : GroupEvent} (idle : IdleEvent e) :
    StaysStill s (bothGroups s e) :=
  (groupEvent_staysStill s 0 idle).trans (groupEvent_staysStill _ 1 idle)

theorem faultEvent_staysStill (s : State) (p : RingPos) : StaysStill s (faultEvent s p) := by
  unfold faultEvent
  split
  · exact .refl s
  · exact groupEvent_staysStill s _ (Passive.idle (.inr (.inr rfl)))

theorem announceLink_staysStill (s : State) (old : LinkStatus) : StaysStill s (announceLink s old) := by
  unfold announceLink
  split
  · exact .refl s
  · exact .trans (b := s.setFlag .ringChange)
      (fun still => ⟨⟨still.1, still.2, still.3⟩, (s.setFlag_only _).of rfl⟩)
      (bothGroups_staysStill _ (Passive.idle (.inr (.inl rfl))))

/-- Two BLOCKED groups without a BYPASS order. -/
structure Unbypassed (s : State) : Prop where
  blocked : ∀ g : Group, s.groups[g].state = .blocked
  unbypassed : ∀ g : Group, commandOf s.olp.order.flags[g] ≠ .bypass

/-- A ring restart takes every station to ABSENT before the groups are told, so none of them deblocks. -/
theorem ringRestart_still {s : State} (idle : Unbypassed s) :
    Still (ringRestart s) ∧ (ringRestart s).fsc = s.fsc := by
  have cleared : Still (clearRing s) :=
    ⟨idle.blocked, idle.unbypassed, inhibitSet_of_reset rfl⟩
  obtain ⟨told, only⟩ := (StaysStill.foldl _ faultEvent_staysStill (enrolledPositions s) _).trans
    (announceLink_staysStill _ s.rgm.link) cleared
  rw [ringRestart_eq]
  refine ⟨⟨told.blocked, told.unbypassed, inhibitSet_of_reset ?_⟩, only.fsc (by decide)⟩
  rw [State.setRgm_rgm, restartedRing]
  split <;> rfl

theorem ringRestart_rgm (s : State) : (ringRestart s).rgm =
    restartedRing s.rgm s.tbs.station.isSome s.tbs.ring.ringInterval s.now := by
  rw [ringRestart_eq, State.setRgm_rgm]

theorem ringRestart_flag {s : State} (table : s.tbs.station.isSome = true) (change : s.rgm.link ≠ .forward) :
    (ringRestart s).hasFlag .ringChange = true := by
  rw [ringRestart_eq]
  exact restartTold_flag table change

theorem ringRestart_fscKept (s : State) : FscKept s (ringRestart s) := by
  rw [ringRestart_eq]
  exact (restartTold_fscKept s).trans (.of_fsc rfl)

/-! ## Level records made anew (R132, R136, R138) -/

/-- A level record as a Station Table row makes it anew. -/
def remadeRecord (row : StationRow) (r : LevelRecord) : LevelRecord :=
  { r with
    installed := row.levels, redundancy := row.redundancy
    failed := [], overflow := false, state := .healthy }

/-- A record that becomes HEALTHY at a commit is told to no group (R138). -/
theorem updateLevel_healthy_only (s : State) (v : Valve) {r : LevelRecord}
    (healthy : levelStateOf r = .healthy) : Only [.lvm, .sticky] s (updateLevel s v r false) := by
  have set : Only [.lvm, .sticky] s (s.setLevel v { r with state := levelStateOf r }) :=
    (s.setLevel_only v _).of rfl
  unfold updateLevel
  dsimp only
  rw [healthy] at set ⊢
  split
  · exact set
  · simp only [reduceCtorEq, false_or, if_false, Bool.false_eq_true, and_false]
    exact set.trans ((State.setFlag_only _ _).of rfl)

section
variable (st : StationTable) (s : State)

/-- The values from which a commit makes a record have no failed level. -/
theorem remakeLevel_of_position {v : Valve} {p : RingPos} (position : positionIn st v = some p) :
    remakeLevel st s v = updateLevel s v { clearedRecord s.lvm.levels[v] with
      installed := st[p].levels, redundancy := st[p].redundancy } false := by
  rw [remakeLevel, position]

theorem remakeLevel_healthy_only (v : Valve) : Only [.lvm, .sticky] s (remakeLevel st s v) := by
  unfold remakeLevel
  split
  · exact .refl _ s
  · exact updateLevel_healthy_only s v rfl

theorem remakeLevel_rangeErrors (v : Valve) : (remakeLevel st s v).lvm.rangeErrors = s.lvm.rangeErrors := by
  unfold remakeLevel
  split
  · rfl
  · rw [updateLevel_lvm]
    rfl

theorem remakeLevel_levels {v w : Valve} {p : RingPos} (position : positionIn st w = some p) :
    (remakeLevel st s v).lvm.levels[w] =
      if v = w then remadeRecord st[p] s.lvm.levels[w] else s.lvm.levels[w] := by
  by_cases own : v = w
  · subst own
    rw [remakeLevel_of_position st s position, updateLevel_lvm, State.setLevel_lvm_levels, setAt_get, if_pos rfl]
    rfl
  · rw [if_neg own]
    unfold remakeLevel
    split
    · rfl
    · rw [updateLevel_lvm, State.setLevel_lvm_levels, setAt_get_ne _ _ _ _ own]

end

/-- Each valve that has a row has its record made anew, however often it is named. -/
theorem foldl_remakeLevel_levels (st : StationTable) (vs : List Valve) (s : State) {w : Valve} {p : RingPos}
    (position : positionIn st w = some p) : (vs.foldl (remakeLevel st) s).lvm.levels[w] =
      if w ∈ vs then remadeRecord st[p] s.lvm.levels[w] else s.lvm.levels[w] := by
  induction vs generalizing s with
  | nil => rfl
  | cons v vs ih =>
    rw [List.foldl_cons, ih, remakeLevel_levels st s position]
    by_cases own : v = w
    · rw [if_pos own, if_pos (List.mem_cons.mpr (.inl own.symm))]
      split <;> rfl
    · rw [if_neg own]
      simp only [List.mem_cons, Ne.symm own, false_or]

theorem remakeLevels_levels (st : StationTable) (s : State) {w : Valve} {p : RingPos}
    (position : positionIn st w = some p) :
    (remakeLevels s st).lvm.levels[w] = remadeRecord st[p] s.lvm.levels[w] := by
  rw [remakeLevels, foldl_remakeLevel_levels st _ s position, if_pos (List.mem_finRange w)]

theorem remakeLevels_rangeErrors (st : StationTable) (s : State) :
    (remakeLevels s st).lvm.rangeErrors = s.lvm.rangeErrors :=
  List.foldlRecOn (motive := fun u => u.lvm.rangeErrors = s.lvm.rangeErrors) _ _ rfl
    fun u same v _ => (remakeLevel_rangeErrors st u v).trans same

theorem remakeLevels_healthy_only (st : StationTable) (s : State) :
    Only [.lvm, .sticky] s (remakeLevels s st) :=
  Only.foldl _ (remakeLevel_healthy_only st) _ _

/-- A Station Table that serves each valve once finds the row of each (R1, R174). -/
theorem positionIn_of_row {st : StationTable}
    (injective : ∀ p q : RingPos, st[p].valve = st[q].valve → p = q) (p : RingPos) :
    positionIn st st[p].valve = some p := by
  cases found : positionIn st st[p].valve with
  | none =>
    have other := List.find?_eq_none.mp found p (List.mem_finRange p)
    exact absurd (decide_eq_true rfl) other
  | some q => exact congrArg some (injective q p (positionIn_valve found))

/-! ## A commit that is taken (R177, R178) -/

theorem commitTable_of_valid {s : State} {id : TableId} (opened : hasShadow s.tbs id = true)
    (may : needsBlocked id = true → ∀ g : Group, s.groups[g].state = .blocked)
    (valid : failingRow s.tbs id = none) : commitTable s (tableCode id) = (takeCommit s id, ok (tableCode id)) := by
  have passes : (needsBlocked id && !bothBlocked s) = false := by
    cases needs : needsBlocked id with
    | false => rfl
    | true => rw [(bothBlocked_iff s).mpr (may needs)]; rfl
  rw [commitTable_of_opened opened, passes, valid]
  rfl

theorem exec_tableCommit_of_valid {s : State} (n : Time) (seq : Byte) {id : TableId}
    (room : replyCount s.olp.queue < 3) (opened : hasShadow s.tbs id = true)
    (may : needsBlocked id = true → ∀ g : Group, s.groups[g].state = .blocked)
    (valid : failingRow s.tbs id = none) : exec (.tableCommit n seq (tableCode id)) s =
      .next (enqueue (takeCommit (s.at n) id) (.reply ⟨5#8, seq, .ok, tableCode id, 0#16, []⟩)) := by
  show Host.Outcome.next (request (s.at n) 5#8 seq fun u => commitTable u (tableCode id)) = _
  rw [request_of_room (s := s.at n) room, commitTable_of_valid (s := s.at n) opened may valid]
  rfl

theorem rowOne_of_valid {α : Type} {valid : α → Bool} {x : α} (meets : valid x = true) :
    rowOne valid (some x) = none := if_pos meets

theorem activate_of_limits {t : Tbs} {x : LimitsTable} (shadow : t.limitsShadow = some x) :
    activate t .limits = { t with limits := x, limitsShadow := none } := by
  rw [activate, shadow]
  rfl

theorem activate_of_overlap {t : Tbs} {x : OverlapTable} (shadow : t.overlapShadow = some x) :
    activate t .overlap = { t with overlap := x, overlapShadow := none } := by
  rw [activate, shadow]
  rfl

theorem activate_of_converter {t : Tbs} {x : ConverterTable} (shadow : t.converterShadow = some x) :
    activate t .converter = { t with converter := x, converterShadow := none } := by
  rw [activate, shadow]
  rfl

theorem activate_of_ring {t : Tbs} {x : RingTable} (shadow : t.ringShadow = some x) :
    activate t .ring = { t with ring := x, ringShadow := none } := by
  rw [activate, shadow]
  rfl

theorem activate_of_station {t : Tbs} {x : StationShadow} (shadow : t.stationShadow = some x) {st : StationTable}
    (made : stationTableOf x = some st) :
    activate t .station = { t with station := some st, stationShadow := none } := by
  simp only [activate, shadow, made]

theorem noteCommit_only (s : State) (id : TableId) : Only [.sticky, .tbs] s (noteCommit s id) :=
  Only.trans (.of (s.setTbs_only _) rfl) (.of (State.setFlag_only _ _) rfl)

section
variable (s : State) (id : TableId)

theorem takeCommit_told :
    Only groupBlocks (commitEffects (noteCommit s id) id) (takeCommit s id) := bothGroups_only _ _

theorem takeCommit_tbs : (takeCommit s id).tbs =
    { activate s.tbs id with generation := (activate s.tbs id).generation + 1#16 } :=
  ((takeCommit_told s id).tbs (by decide)).trans ((commitEffects_only _ id).tbs (by decide))

theorem takeCommit_tableEvent : (takeCommit s id).hasFlag .tableEvent = true := by
  have noted : (noteCommit s id).hasFlag .tableEvent = true := by
    rw [noteCommit, State.setFlag_hasFlag, decide_eq_true rfl, Bool.or_true]
  exact (takeCommit_told s id).hasFlag (by decide) ((commitEffects_only _ id).hasFlag (by decide) noted)

end

/-! ## The Limits and Overlap Tables (R127, R178) -/

section
variable (s : State)

theorem takeCommit_limits_only :
    Only [.fac, .fsc, .exm, .groups, .sticky, .tbs] s (takeCommit s .limits) :=
  Only.trans (.of (noteCommit_only s .limits) rfl) (Only.trans (.of (clampToLimits_only _) rfl)
    (.of (takeCommit_told s .limits) rfl))

theorem takeCommit_overlap_only : Only [.fac, .fsc, .groups, .sticky, .tbs] s (takeCommit s .overlap) :=
  Only.trans (.of (noteCommit_only s .overlap) rfl) (.of (takeCommit_told s .overlap) rfl)

/-- The gamma corrections and recovery counters are held to the new limits (R127). -/
theorem takeCommit_limits_exm : (takeCommit s .limits).exm = { s.exm with
    correction := mapVec (fun c => min c (activate s.tbs .limits).limits.cMax) s.exm.correction
    recovery := mapVec (fun r => min r (activate s.tbs .limits).limits.nCf) s.exm.recovery } :=
  (takeCommit_told s .limits).exm (by decide)

end

/-! ## The Converter Table (R33, R178) -/

/-- A restart of the unit under BLOCKED groups without a BYPASS order leaves the Fire Schedule, and of each group
all but the deblock-inhibit cause set. -/
theorem restartPru_still {s : State} (idle : Unbypassed s) :
    Still (restartPru s) ∧ (restartPru s).fsc = s.fsc ∧
      ∀ g : Group, ∃ x, (restartPru s).groups[g] = { s.groups[g] with inhibits := x } := by
  obtain ⟨quiet, fsc⟩ := restartPru_quiet idle.blocked idle.unbypassed
  refine ⟨quiet.still, fsc, fun g => ?_⟩
  unfold restartPru setLock
  split
  · exact ⟨s.groups[g].inhibits, rfl⟩
  · refine ⟨_, bothGroups_still_groups (Passive.idle (.inl rfl)) (Quiet.still ?_) g⟩
    exact ⟨idle.blocked, idle.unbypassed, nofun⟩

section
variable (s : State)

/-- The state that the groups are handed a Converter Table commit in. -/
def converterRestarted : State := disarmPlannings (restartPru (noteCommit s .converter))

theorem converterRestarted_only :
    Only [.pru, .plan, .fsc, .groups, .sticky, .tbs] s (converterRestarted s) :=
  Only.trans (.of (noteCommit_only s .converter) rfl) (Only.trans (.of (restartPru_unready _) rfl)
    (.of (disarmPlannings_only _) rfl))

theorem converterRestarted_pru : (converterRestarted s).pru =
    { restartedModel (activate s.tbs .converter).converter s.pru with lock := .unlocked } :=
  restartPru_pru (noteCommit s .converter)

/-- The unit is UNLOCKED, so no group is ready to deblock. -/
theorem takeCommit_converter_told : Only unreadyBlocks (converterRestarted s) (takeCommit s .converter) :=
  bothGroups_unready _ (by rw [converterRestarted_pru]; exact nofun)

theorem takeCommit_converter_only :
    Only [.pru, .plan, .fsc, .groups, .sticky, .tbs] s (takeCommit s .converter) :=
  (converterRestarted_only s).trans ((takeCommit_converter_told s).of rfl)

theorem takeCommit_converter_pru : (takeCommit s .converter).pru =
    { restartedModel (activate s.tbs .converter).converter s.pru with lock := .unlocked } := by
  rw [(takeCommit_converter_told s).pru (by decide), converterRestarted_pru]

theorem takeCommit_converter_fac :
    (takeCommit s .converter).fac = { s.fac with plannings := fill 24 none } := by
  rw [(takeCommit_converter_told s).fac_eq (by decide) (by decide), converterRestarted, disarmPlannings,
    State.setFac_fac, (restartPru_unready _).fac_eq (by decide) (by decide)]
  rfl

theorem takeCommit_converter_lockChange (change : s.pru.lock ≠ .unlocked) :
    (takeCommit s .converter).hasFlag .lockChange = true := by
  let noted := noteCommit s .converter
  have phase : (restartPru noted).hasFlag .lockChange = true :=
    setLock_flag (s := noted.setPru (restartedModel noted.tbs.converter noted.pru)) false change
  exact (takeCommit_converter_told s).hasFlag (by decide)
    ((disarmPlannings_only _).hasFlag (by decide) phase)

end

/-- BLOCKED groups without a BYPASS order evaluate their conditions alone. -/
theorem takeCommit_converter_groups {s : State} (idle : Unbypassed s) :
    (takeCommit s .converter).fsc = s.fsc ∧ ∀ g : Group, (takeCommit s .converter).groups[g] =
      { s.groups[g] with inhibits := inhibitSet (takeCommit s .converter) g } := by
  obtain ⟨⟨blocked, unbypassed, inhibited⟩, fsc, groups⟩ :=
    restartPru_still (s := noteCommit s .converter) ⟨idle.blocked, idle.unbypassed⟩
  have still : Still (converterRestarted s) := ⟨blocked, unbypassed, inhibited⟩
  refine ⟨((bothGroups_still_only tableCommit_idle still).fsc (by decide)).trans fsc, fun g => ?_⟩
  obtain ⟨x, record⟩ := groups g
  have told := bothGroups_still_groups tableCommit_idle still g
  rw [show (converterRestarted s).groups[g] = _ from record] at told
  exact told

/-- Settles O42: the shadow becomes the active table (`takeCommit_tbs`), and the blocks take the effects of their
table: the clamp, nothing, and the restart of the unit. -/
theorem commitsTakeEffect : Obligations.CommitsTakeEffect := by
  intro s n seq room kept
  have keeps {u : State} (only : Only [.pru, .plan, .fac, .fsc, .exm, .groups, .sticky, .tbs] (s.at n) u)
      (event : u.hasFlag .tableEvent = true) : kept u :=
    ⟨only.rgm (by decide), only.lvm (by decide), only.pending (by decide), event,
      only.olp_but_sticky (by decide) (by decide) (by decide)⟩
  refine ⟨fun lt shadow meets => ?limits, fun ot shadow => ?overlap, fun ct shadow meets blocked => ?converter⟩
  case limits =>
    have only := takeCommit_limits_only (s.at n)
    have exm := takeCommit_limits_exm (s.at n)
    rw [State.at_tbs, activate_of_limits shadow] at exm
    refine ⟨takeCommit (s.at n) .limits,
      exec_tableCommit_of_valid (id := .limits) n seq room (by rw [hasShadow, shadow]; rfl) nofun
        (by rw [failingRow, shadow]; exact rowOne_of_valid (decide_eq_true meets)),
      keeps (only.of rfl) (takeCommit_tableEvent _ _), ?_, fun b => ?_, fun g => ?_, ?_, ?_, ?_,
      only.pru (by decide)⟩
    · rw [takeCommit_tbs, State.at_tbs, activate_of_limits shadow]
    · rw [exm, mapVec_get, State.at_exm]
    · rw [exm, mapVec_get, State.at_exm]
    all_goals rw [exm, State.at_exm]
  case overlap =>
    have only := takeCommit_overlap_only (s.at n)
    refine ⟨takeCommit (s.at n) .overlap,
      exec_tableCommit_of_valid (id := .overlap) n seq room (by rw [hasShadow, shadow]; rfl) nofun rfl,
      keeps (only.of rfl) (takeCommit_tableEvent _ _), ?_, only.exm (by decide), only.pru (by decide)⟩
    rw [takeCommit_tbs, State.at_tbs, activate_of_overlap shadow]
  case converter =>
    have only := takeCommit_converter_only (s.at n)
    refine ⟨takeCommit (s.at n) .converter,
      exec_tableCommit_of_valid (id := .converter) n seq room (by rw [hasShadow, shadow]; rfl)
        (fun _ => blocked) (by rw [failingRow, shadow]; exact rowOne_of_valid (decide_eq_true meets)),
      keeps (only.of rfl) (takeCommit_tableEvent _ _), ?_, ?_, takeCommit_converter_lockChange (s.at n),
      takeCommit_converter_fac _, only.exm (by decide),
      fun unbypassed => takeCommit_converter_groups (s := s.at n) ⟨blocked, unbypassed⟩⟩
    · rw [takeCommit_tbs, State.at_tbs, activate_of_converter shadow]
    · rw [takeCommit_converter_pru, State.at_tbs, activate_of_converter shadow]
      rfl

/-! ## The Ring and Station Tables (R14, R77, R103, R132, R178) -/

section
variable (s : State)

theorem takeCommit_ring_only : Only [.fac, .fsc, .rgm, .groups, .sticky, .tbs] s (takeCommit s .ring) :=
  Only.trans (.of (noteCommit_only s .ring) rfl) (Only.trans (.of (ringRestart_only _) rfl)
    (.of (takeCommit_told s .ring) rfl))

/-- The ring restarts with the new interval. -/
theorem takeCommit_ring_rgm : (takeCommit s .ring).rgm =
    restartedRing s.rgm s.tbs.station.isSome (activate s.tbs .ring).ring.ringInterval s.now := by
  rw [(takeCommit_told s .ring).rgm (by decide), commitEffects, ringRestart_rgm]
  rfl

theorem takeCommit_ring_ringChange (table : s.tbs.station.isSome = true) (change : s.rgm.link ≠ .forward) :
    (takeCommit s .ring).hasFlag .ringChange = true :=
  (takeCommit_told s .ring).hasFlag (by decide) (ringRestart_flag (s := noteCommit s .ring) table change)

/-- The state in which the ring restart of a Station Table commit begins. -/
def stationRemade : State := clearSequences (remakeFromStation (noteCommit s .station))

theorem takeCommit_station_told :
    Only groupBlocks (ringRestart (stationRemade s)) (takeCommit s .station) := takeCommit_told s .station

theorem remakeFromStation_healthy_only : Only [.lvm, .sticky] s (remakeFromStation s) := by
  unfold remakeFromStation
  split
  · exact .refl _ s
  · exact remakeLevels_healthy_only _ s

theorem stationRemade_only : Only [.fsc, .lvm, .sticky] (noteCommit s .station) (stationRemade s) :=
  Only.trans (.of (remakeFromStation_healthy_only _) rfl) (.of (clearSequences_only _) rfl)

theorem takeCommit_station_only :
    Only [.fac, .fsc, .rgm, .lvm, .groups, .sticky, .tbs] s (takeCommit s .station) :=
  Only.trans (.of (noteCommit_only s .station) rfl) (Only.trans (.of (stationRemade_only s) rfl)
    (Only.trans (.of (ringRestart_only _) rfl) (.of (takeCommit_station_told s) rfl)))

theorem takeCommit_station_rgm : (takeCommit s .station).rgm =
    restartedRing s.rgm (activate s.tbs .station).station.isSome s.tbs.ring.ringInterval s.now := by
  have remade := stationRemade_only s
  rw [(takeCommit_station_told s).rgm (by decide), ringRestart_rgm, remade.rgm (by decide),
    remade.tbs (by decide), remade.now (by decide)]
  rfl

theorem takeCommit_station_ringChange (table : (activate s.tbs .station).station.isSome = true)
    (change : s.rgm.link ≠ .forward) : (takeCommit s .station).hasFlag .ringChange = true := by
  have remade := stationRemade_only s
  refine (takeCommit_station_told s).hasFlag (by decide) (ringRestart_flag ?_ ?_)
  · rw [remade.tbs (by decide)]
    exact table
  · rw [remade.rgm (by decide)]
    exact change

theorem stationRemade_fsc : (stationRemade s).fsc = { s.fsc with nextSeq := fill 24 0#8 } := by
  rw [stationRemade, clearSequences, State.setFsc_fsc,
    (remakeFromStation_healthy_only _).fsc (by decide), (noteCommit_only s _).fsc (by decide)]

theorem takeCommit_station_nextSeq : (takeCommit s .station).fsc.nextSeq = fill 24 0#8 := by
  have kept : FscKept (stationRemade s) (takeCommit s .station) :=
    (ringRestart_fscKept _).trans (bothGroups_fscKept _ .tableCommit)
  rw [kept.nextSeq, stationRemade_fsc]

/-- The restart and the groups leave the level records as they were made anew. -/
theorem takeCommit_station_lvm {st : StationTable} (table : (activate s.tbs .station).station = some st) :
    (takeCommit s .station).lvm = (remakeLevels (noteCommit s .station) st).lvm := by
  have made : remakeFromStation (noteCommit s .station) = remakeLevels (noteCommit s .station) st := by
    rw [remakeFromStation, show (noteCommit s .station).tbs.station = some st from table]
  rw [(takeCommit_station_told s).lvm (by decide), (ringRestart_only _).lvm (by decide), stationRemade,
    (clearSequences_only _).lvm (by decide), made]

end

theorem takeCommit_ring_fsc {s : State} (idle : Unbypassed s) : (takeCommit s .ring).fsc = s.fsc := by
  obtain ⟨still, fsc⟩ := ringRestart_still (s := noteCommit s .ring) ⟨idle.blocked, idle.unbypassed⟩
  exact ((bothGroups_still_only tableCommit_idle still).fsc (by decide)).trans fsc

theorem takeCommit_station_fsc {s : State} (idle : Unbypassed s) :
    (takeCommit s .station).fsc = { s.fsc with nextSeq := fill 24 0#8 } := by
  have only := stationRemade_only s
  obtain ⟨still, fsc⟩ := ringRestart_still (s := stationRemade s)
    ⟨by rw [only.groups (by decide)]; exact idle.blocked,
      by rw [(only.orders_stand (by decide)).1.1]; exact idle.unbypassed⟩
  exact ((bothGroups_still_only tableCommit_idle still).fsc (by decide)).trans
    (fsc.trans (stationRemade_fsc s))

/-! ## The commands that restart (R181, R182) -/

theorem bothBlocked_of_unblocked {s : State} (unblocked : ∃ g : Group, s.groups[g].state ≠ .blocked) :
    bothBlocked s = false := by
  rw [← Bool.not_eq_true, bothBlocked_iff, not_forall]
  exact unblocked

theorem ringRestartCommand_of_unblocked {s : State} (unblocked : ∃ g : Group, s.groups[g].state ≠ .blocked) :
    ringRestartCommand s = (s, refuse .state kindRingRestart) := by
  rw [ringRestartCommand, bothBlocked_of_unblocked unblocked, if_neg Bool.false_ne_true]

theorem warmRestartCommand_of_unblocked {s : State} (unblocked : ∃ g : Group, s.groups[g].state ≠ .blocked) :
    warmRestartCommand s = (s, refuse .state kindWarmRestart) := by
  rw [warmRestartCommand, bothBlocked_of_unblocked unblocked, if_neg Bool.false_ne_true]

theorem ringRestartCommand_of_blocked {s : State} (blocked : ∀ g : Group, s.groups[g].state = .blocked) :
    ringRestartCommand s = (ringRestart s, ok kindRingRestart) := if_pos ((bothBlocked_iff s).mpr blocked)

/-- Settles O49: the restarts are refused, or a ring restart is made by command, under the new Ring Table, or after
the level records are made anew from the new Station Table. -/
theorem ringRestartStartsAfresh : Obligations.RingRestartStartsAfresh := by
  intro s n seq room unbypassed others
  have answered {t : State} {a : Answer} (act : State → State × Answer) (acts : act (s.at n) = (t, a)) :
      (.next (command (s.at n) seq act) : Outcome) =
        .next (enqueue t (.reply ⟨8#8, seq, a.result, a.subject, a.detail, a.contents⟩)) :=
    congrArg Host.Outcome.next (command_of_room (s := s.at n) seq room acts)
  have stand {u : State} (only : Only [.fac, .fsc, .rgm, .lvm, .groups, .sticky, .tbs] (s.at n) u)
      (change : s.tbs.station.isSome = true → s.rgm.link ≠ .forward → u.hasFlag .ringChange = true) :
      others u :=
    ⟨only.pru (by decide), only.exm (by decide), only.pending (by decide),
      only.olp_but_sticky (by decide) (by decide) (by decide), change⟩
  refine ⟨fun unblocked => ⟨answered ringRestartCommand (ringRestartCommand_of_unblocked (s := s.at n) unblocked),
    answered warmRestartCommand (warmRestartCommand_of_unblocked (s := s.at n) unblocked)⟩,
    fun blocked => ?command, fun blocked rt shadow meets => ?ring, fun blocked shadow opened valid => ?station⟩
  case command =>
    have only := ringRestart_only (s.at n)
    exact ⟨ringRestart (s.at n),
      answered ringRestartCommand (ringRestartCommand_of_blocked (s := s.at n) blocked), ringRestart_rgm _,
      stand (only.of rfl) (ringRestart_flag (s := s.at n)), only.lvm (by decide), only.tbs (by decide),
      fun idle => (ringRestart_still (s := s.at n) ⟨blocked, idle⟩).2⟩
  case ring =>
    have only := takeCommit_ring_only (s.at n)
    have active := activate_of_ring shadow
    refine ⟨takeCommit (s.at n) .ring,
      exec_tableCommit_of_valid (id := .ring) n seq room (by rw [hasShadow, shadow]; rfl) (fun _ => blocked)
        (by rw [failingRow, shadow]; exact rowOne_of_valid (decide_eq_true meets)), ?_, ?_,
      takeCommit_tableEvent _ _, stand (only.of rfl) (takeCommit_ring_ringChange (s.at n)),
      only.lvm (by decide), fun idle => takeCommit_ring_fsc (s := s.at n) ⟨blocked, idle⟩⟩
    · rw [takeCommit_ring_rgm, State.at_tbs, active]
      rfl
    · rw [takeCommit_tbs, State.at_tbs, active]
  case station =>
    obtain ⟨st, made, rows, injective⟩ := stationTableOf_of_valid valid
    have only := takeCommit_station_only (s.at n)
    have active := activate_of_station opened made
    have tbs := takeCommit_tbs (s.at n) .station
    have lvm := takeCommit_station_lvm (s.at n) (st := st) (by rw [State.at_tbs, active])
    rw [State.at_tbs, active] at tbs
    refine ⟨st, takeCommit (s.at n) .station,
      exec_tableCommit_of_valid (id := .station) n seq room (by rw [hasShadow, opened]; rfl) (fun _ => blocked)
        (by rw [failingRow, opened]; exact congrArg (Option.map _) valid), rows, ?_, tbs,
      takeCommit_tableEvent _ _, ?_, fun p => ⟨?_, ?_⟩, stand (only.of rfl) fun _ change => ?_,
      takeCommit_station_nextSeq _, fun idle => takeCommit_station_fsc (s := s.at n) ⟨blocked, idle⟩⟩
    · rw [takeCommit_station_rgm, State.at_tbs, active]
      rfl
    · rw [lvm, remakeLevels_rangeErrors]
      rfl
    · rw [positionOf, tbs]
      exact positionIn_of_row injective p
    · rw [lvm, remakeLevels_levels st _ (positionIn_of_row injective p)]
      rfl
    · exact takeCommit_station_ringChange (s.at n) (by rw [State.at_tbs, active]; rfl) change

end Sys2Proof.Machine
end

section
/-! PROOFS. The step with a command waiting (O1), the companion of `step_of_idle`. -/

namespace Sys2Proof.Machine

/-- With a command waiting, the step is that command's meaning on the rest of the queue. -/
theorem step_of_waiting {s : State} {c : Instr} {rest : List Instr} (waiting : s.pending = c :: rest) :
    step s = exec c { s with pending := rest } := by
  simp only [step, waiting]

/-- Settles O1: the queue's front is the command waiting, and the state on which it runs differs only in
the queue, which the step replaces by its rest. -/
theorem stepTakesTheFrontCommand : Obligations.StepTakesTheFrontCommand :=
  fun c rest s => step_of_waiting (s := { s with pending := c :: rest }) rfl

end Sys2Proof.Machine
end
